-- ==== Sys2Proof/Word.lean ====
section
/-! DEFINITION. The byte that the links, the reader ports and the serial flash carry, and the indices of the part's
repeated blocks (spec 0.6 Indices and Ports). -/

namespace Sys2Proof

/-- One byte on a link, at a reader port or in the serial flash. -/
abbrev Byte := BitVec 8

/-- A lane: index k stands for lane k + 1 of the spec (lanes 1 to 6). -/
abbrev Lane := Fin 6

/-- A reader port: index p stands for port p + 1 of the spec (ports 1 to 12, R162). -/
abbrev Port := Fin 12

/-- A class number, 0 to 15 (R128). -/
abbrev ClassNo := Fin 16

end Sys2Proof
end

