-- ==== Sys2Proof/Syntax.lean ====
section
/-! DEFINITION. The commands of the block: one constructor of `Instr` for each row of spec/opcode_table.json, and the types of their
operands. -/

namespace Sys2Proof

/-- ENTRY or EXIT (Table 0-2). It also names a side of a lane: ENTRY the lobby side, EXIT the secure side (R162). A track's
direction is an `Option Direction`: `none` is UNSET. -/
inductive Direction where
  | entry | exit
  deriving DecidableEq, Repr

/-- The two links (Chapter 10). -/
inductive Link where
  | site | desk
  deriving DecidableEq, Repr

/-- The cause of a full reset (R195). -/
inductive ResetCause where
  | power | resetLine
  deriving DecidableEq, Repr

/-- The six latched alarm kinds (Table 5-5). -/
inductive LatchedKind where
  | tailgate | intrusion | wrongWay | loiter | overflow | tamper
  deriving DecidableEq, Repr

/-- What one bar answers in a chain read: its four beam answers (true: occluded) and its status (R9). -/
structure BarAnswer where
  beam0 : Bool
  beam1 : Bool
  beam2 : Bool
  beam3 : Bool
  emitterFault : Bool
  deriving DecidableEq, Repr

/-- The order of the two directions inside one frame event, which R22 leaves open: each list is read from its head, true taking the
next ENTRY event and false the next EXIT event (Log 8). -/
structure FrameOrder where
  crossings : List Bool
  completions : List Bool
  deriving DecidableEq, Repr

/-- How the serial flash takes a stage of a save (R193): all of it, or a failure after the flash has taken the first `taken` bytes
of the stage (Log 7). -/
inductive FlashOutcome where
  | ok
  | noAnswer (taken : Nat)
  | notAccepted (taken : Nat)
  deriving DecidableEq, Repr

/-- What a full reset finds outside the part (R194): the cause, the AUTOLOAD strap (true: high), whether the flash answers, flash
positions that hold something else than the part last wrote (Log 7; they do not count when a save is cut short, R193), the bytes that a
save cut short had still written in its stage, the milliseconds from the beginning of full reset to the end of start-up (Log 5), and the
order in which the lanes complete start-up (Log 8). -/
structure ResetInputs where
  cause : ResetCause
  strap : Bool
  flashAnswers : Bool
  altered : List Host.Cell
  saveTaken : Nat
  elapsed : Nat
  laneOrder : List Lane
  deriving DecidableEq, Repr

/-- The commands. The rule that governs each is the one its row of the table names. A request carries the link, the tag and the
payload bytes of a received frame (R174, R176); its layout is Table 12-4. -/
inductive Instr where
  /-- FULL_RESET (R194). -/
  | fullReset (r : ResetInputs)
  /-- FRAME_TIMER_EXPIRY (R8). -/
  | frameTimerExpiry (k : Lane)
  /-- CHAIN_READ_COMPLETE (R9): what each bar of the chain answered, bar 0 first, none for a bar that did not answer (R1, Log 14). -/
  | chainReadComplete (k : Lane) (chain : List (Option BarAnswer)) (order : FrameOrder)
  /-- OPEN_LIMIT_CHANGE (R70). -/
  | openLimitChange (k : Lane) (active : Bool)
  /-- SHUT_LIMIT_CHANGE (R70). -/
  | shutLimitChange (k : Lane) (active : Bool)
  /-- OBSTRUCT_CHANGE (R81). -/
  | obstructChange (k : Lane) (active : Bool)
  /-- MOTION_TIMEOUT (R71). -/
  | motionTimeout (k : Lane)
  /-- JAM_HOLD_END (R82). -/
  | jamHoldEnd (k : Lane)
  /-- EGRESS_ASSERT (R116); the order in which the lanes take it (R115, Log 8). -/
  | egressAssert (order : List Lane)
  /-- EGRESS_DEASSERT (R115). -/
  | egressDeassert
  /-- PERMIT_EXPIRY (R55) of the queued permit with this number. -/
  | permitExpiry (k : Lane) (number : Nat)
  /-- ESCORT_TIMEOUT (R58) of the queued permit with this number. -/
  | escortTimeout (k : Lane) (number : Nat)
  /-- ESCORT_WINDOW_END (R56). -/
  | escortWindowEnd (k : Lane) (d : Direction)
  /-- ALARM_AUTO_CLEAR (R98). -/
  | alarmAutoClear (k : Lane) (kind : LatchedKind)
  /-- HOLD_EXPIRY (R120). -/
  | holdExpiry (k : Lane)
  /-- REFERRAL_DEADLINE (R157) of the slot with this tag. -/
  | referralDeadline (tag : Nat)
  /-- READER_CARD_FRAME (R164). -/
  | readerCardFrame (p : Port) (number : Nat)
  /-- READER_STATUS_FRAME (R164). -/
  | readerStatusFrame (p : Port) (tamper : Bool)
  /-- READER_BAD_FRAME (R165). -/
  | readerBadFrame (p : Port)
  /-- READER_FRAME_GAP (R163). -/
  | readerFrameGap (p : Port)
  /-- SILENCE_TEST (R167). -/
  | silenceTest (p : Port)
  /-- READER_FRAME_SENT (R170). -/
  | readerFrameSent (p : Port)
  /-- LINK_FRAME_BAD_LENGTH (R174). -/
  | linkFrameBadLength (l : Link)
  /-- LINK_FRAME_BAD_CRC (R174). -/
  | linkFrameBadCrc (l : Link)
  /-- LINK_FRAME_GAP (R174). -/
  | linkFrameGap (l : Link)
  /-- LINK_FRAME_TX_FULL (R176). -/
  | linkFrameTxFull (l : Link)
  /-- LINK_REPLY_SENT (R176). -/
  | linkReplySent (l : Link)
  /-- UNKNOWN_KIND (R176): a received frame whose kind is not in Table 10-1. -/
  | unknownKind (l : Link) (tag kind : Byte)
  /-- LANE_MODE (R110). -/
  | laneMode (l : Link) (tag : Byte) (payload : List Byte)
  /-- LANE_GEOMETRY (R5). -/
  | laneGeometry (l : Link) (tag : Byte) (payload : List Byte)
  /-- LANE_TIMING (R180). -/
  | laneTiming (l : Link) (tag : Byte) (payload : List Byte)
  /-- LANE_STATUS (R15). -/
  | laneStatus (l : Link) (tag : Byte) (payload : List Byte)
  /-- LANE_TRACKS (R43). -/
  | laneTracks (l : Link) (tag : Byte) (payload : List Byte)
  /-- LANE_PERMITS (R66). -/
  | lanePermits (l : Link) (tag : Byte) (payload : List Byte)
  /-- LANE_RESET (R121). -/
  | laneReset (l : Link) (tag : Byte) (payload : List Byte)
  /-- PULSE (R60). -/
  | pulse (l : Link) (tag : Byte) (payload : List Byte)
  /-- CANCEL (R61). -/
  | cancel (l : Link) (tag : Byte) (payload : List Byte)
  /-- ALARM_ACK (R99). -/
  | alarmAck (l : Link) (tag : Byte) (payload : List Byte)
  /-- RESTORE (R117). -/
  | restore (l : Link) (tag : Byte) (payload : List Byte)
  /-- HOLD (R118). -/
  | hold (l : Link) (tag : Byte) (payload : List Byte)
  /-- RELEASE (R120). -/
  | release (l : Link) (tag : Byte) (payload : List Byte)
  /-- CRED_PUT (R143). -/
  | credPut (l : Link) (tag : Byte) (payload : List Byte)
  /-- CRED_GET (R145). -/
  | credGet (l : Link) (tag : Byte) (payload : List Byte)
  /-- CRED_DROP (R144). -/
  | credDrop (l : Link) (tag : Byte) (payload : List Byte)
  /-- CRED_SCAN (R145). -/
  | credScan (l : Link) (tag : Byte) (payload : List Byte)
  /-- CRED_CLEAR (R144). -/
  | credClear (l : Link) (tag : Byte) (payload : List Byte)
  /-- PRESENCE_SET (R127). -/
  | presenceSet (l : Link) (tag : Byte) (payload : List Byte)
  /-- PRESENCE_RESET (R127). -/
  | presenceReset (l : Link) (tag : Byte) (payload : List Byte)
  /-- CLASS_SET (R146). -/
  | classSet (l : Link) (tag : Byte) (payload : List Byte)
  /-- CLASS_GET (R146). -/
  | classGet (l : Link) (tag : Byte) (payload : List Byte)
  /-- DECIDE (R154). -/
  | decideReq (l : Link) (tag : Byte) (payload : List Byte)
  /-- FETCH (R184). -/
  | fetch (l : Link) (tag : Byte) (payload : List Byte)
  /-- ROUTE (R182). -/
  | route (l : Link) (tag : Byte) (payload : List Byte)
  /-- CLOCK_SET (R189). -/
  | clockSet (l : Link) (tag : Byte) (payload : List Byte)
  /-- DEVICE_STATUS (R196). -/
  | deviceStatus (l : Link) (tag : Byte) (payload : List Byte)
  /-- SAVE (R192). -/
  | save (l : Link) (tag : Byte) (payload : List Byte)
  /-- IDENT (R197). -/
  | ident (l : Link) (tag : Byte) (payload : List Byte)
  /-- SAVE_ERASE_DONE (R193). -/
  | saveEraseDone (f : FlashOutcome)
  /-- SAVE_HEADER_DONE (R193). -/
  | saveHeaderDone (f : FlashOutcome)
  /-- SAVE_RECORD_WRITTEN (R193). -/
  | saveRecordWritten (f : FlashOutcome)
  /-- SAVE_READBACK_DONE (R193); the positions at which the read-back finds something else than was written (Log 7). -/
  | saveReadbackDone (f : FlashOutcome) (altered : List Host.Cell)
  /-- SAVE_TIMEOUT (R193); the bytes of the stage in progress that the flash had taken (Log 7). -/
  | saveTimeout (taken : Nat)
  /-- LINK_FRAME_BYTE (R174). -/
  | linkFrameByte (l : Link) (b : Byte)
  /-- READER_FRAME_BYTE (R163). -/
  | readerFrameByte (p : Port) (b : Byte)
  /-- DESK_KEY_CHANGE (R129). -/
  | deskKeyChange (asserted : Bool)
  deriving DecidableEq, Repr

end Sys2Proof
end

