-- ==== Sys2Proof/Config.lean ====
section
/-! DEFINITION. What the part fixes (its capacities and limits, R197, R34, R183, R188) and the free values: constants with no body,
so that no proof can rest on what they are. -/

namespace Sys2Proof.Config

/-- Live tracks a lane can hold (R20). -/
def maxTracks : Nat := 8

/-- Permits a lane's queue can hold (R47). -/
def maxPermits : Nat := 4

/-- Records the credential table can hold (R126). -/
def maxRecords : Nat := 8192

/-- Referral slots (R149). -/
def maxSlots : Nat := 8

/-- Notices the site queue can hold (R183). -/
def siteQueueCap : Nat := 64

/-- Notices the desk queue can hold (R183). -/
def deskQueueCap : Nat := 32

/-- Replies a link's transmit list can hold (R176). -/
def linkTxCap : Nat := 4

/-- Frames a reader port's transmit list can hold (R162, R170). -/
def readerTxCap : Nat := 4

/-- V_max, the highest speed a track can be given, in mm/s (R34, R69). -/
def vMax : Nat := 4000

/-- The largest millisecond count (R188). -/
def maxMs : Nat := 281474976710655

/-- Positions of the serial flash: 256 KiB (R190, Table 0-5). -/
def flashSize : Nat := 262144

/-- The format code of the HG-6 image (R190). -/
def formatCode : Nat := 0x4C31

/-- The save timer's length in milliseconds (R192). -/
def saveTime : Nat := 6000

/-- FREE VALUE (Log 11). What a layout field of the given number of bytes holds when the number to be written does not fit it: the
spec gives the field's size (R200, R201) and no rule for such a number. -/
opaque oversizeField : Nat → Nat → Nat

/-- FREE VALUE (Log 12). The distance recorded for an approaching rear member of a merge whose lead lies beyond the barrier
position (first argument x_F, second its lead): R80 records the distance of its extent, R79's distance is never negative, and the
spec states no number for this case. The verdict does not use it. -/
opaque rearDistance : Nat → Nat → Nat

end Sys2Proof.Config
end

