-- ==== Sys2Proof/Machine/State.lean ====
section
/-! DEFINITION. The state of the part, as plain data: every register, list, counter, mode and line that spec/ gives it, block by block
(Table 0-1), the queue of waiting commands, and the state after reset. -/

namespace Sys2Proof.Machine

/-! ## Names -/

/-- Lane modes (R107). -/
inductive Mode where
  | dark | closed | service | lockdown | egress
  deriving DecidableEq, Repr

/-- One direction setting of a policy (R107). -/
inductive Setting where
  | barred | badged | free
  deriving DecidableEq, Repr

/-- A lane's policy: the entry setting governs ENTRY, the exit setting EXIT (R107). -/
structure Policy where
  entry : Setting
  exit : Setting
  deriving DecidableEq, Repr

/-- Orientation of the chain (R2). -/
inductive Orientation where
  | normal | reversed
  deriving DecidableEq, Repr

/-- Fault posture HOLD or OPEN (R69, R84). -/
inductive Posture where
  | hold | opened
  deriving DecidableEq, Repr

/-- A fallback (R128, R131). -/
inductive Fallback where
  | deny | grant
  deriving DecidableEq, Repr

/-- Barrier states (Table 4-1): `opened` is OPEN. -/
inductive Barrier where
  | shut | opening | opened | shutting | stalled
  deriving DecidableEq, Repr

/-- Lane health (R108). -/
inductive Health where
  | ok | sensor | barrierFault | sensorAndBarrier
  deriving DecidableEq, Repr

/-- Indicator colours (R102). -/
inductive Colour where
  | dark | red | green | amber
  deriving DecidableEq, Repr

/-- Permit origins (Table 3-1). -/
inductive Origin where
  | badge | referred | pulse | free | returned
  deriving DecidableEq, Repr

/-- Permit states (Table 3-1). -/
inductive PermitState where
  | ready | awaitingEscort
  deriving DecidableEq, Repr

/-- Ends of a permit (Table 3-6). -/
inductive PermitEnd where
  | used | expired | escortTimeout | dropped | cancelled | tamper
  deriving DecidableEq, Repr

/-- Condition kinds of the alarm set (Table 5-5). -/
inductive ConditionKind where
  | jam | stall | sensor
  deriving DecidableEq, Repr

/-- Kinds of an unauthorized crossing (Table 5-1). -/
inductive CrossingKind where
  | tailgate | intrusion | wrongWay
  deriving DecidableEq, Repr

/-- Causes of a LOST drop (R40). -/
inductive LostCause where
  | coasted | endUnset
  deriving DecidableEq, Repr

/-- Ends of a passage (R94). -/
inductive PassageEnd where
  | completed | backout
  deriving DecidableEq, Repr

/-- Outcomes of a completion for the credential record (R94). -/
inductive RecordOutcome where
  | updated | spent | absent | notApplied
  deriving DecidableEq, Repr

/-- Causes of MODE_APPLIED and PENDING_DISCARDED (R122). -/
inductive ModeCause where
  | request | pending | forced | lockdown | egressLine | restore | start
  deriving DecidableEq, Repr

/-- Causes of a counted reversal (R81). -/
inductive ReversalCause where
  | guardZone | obstruct
  deriving DecidableEq, Repr

/-- Motions of the barrier (R71): `opening` is OPEN, `shutting` is SHUT. -/
inductive Motion where
  | opening | shutting
  deriving DecidableEq, Repr

/-- Credential states (R125). -/
inductive CredState where
  | active | suspended | spent
  deriving DecidableEq, Repr

/-- Presence of a credential's holder (R125). -/
inductive Presence where
  | unknown | inside | outside
  deriving DecidableEq, Repr

/-- Class conditions (R129). -/
inductive Condition where
  | always | never | dayWindow | deskKey | noDeskKey | clockSet
  deriving DecidableEq, Repr

/-- Anti-passback modes (R136). -/
inductive Passback where
  | off | soft | hard
  deriving DecidableEq, Repr

/-- Verdicts (Table 7-5). -/
inductive Verdict where
  | grant | deny | wait | free
  deriving DecidableEq, Repr

/-- Reasons, in the order of Table 7-5 (R198). -/
inductive Reason where
  | local_ | fallback | referred | escort | referral | egress | freeDirection
  | readerTamper | laneClosed | lockdown | laneFault | modeChanging | directionBarred | laneBusy
  | suspended | spent | notPermitted | condition | notYet | expired
  | duplicate | passback | queueFull | noReferral | referralDenied | referralTimeout
  deriving DecidableEq, Repr

/-- Reasons of a referral (R134). -/
inductive ReferralReason where
  | notInTable | classRefer | noClock
  deriving DecidableEq, Repr

/-- Causes of a referral's closure (Table 8-2). -/
inductive ClosureCause where
  | laneReset | forced | lockdown | egressLine | tamper
  deriving DecidableEq, Repr

/-- Causes of a fallback taken at the read (R139). -/
inductive FallbackCause where
  | noSlot | siteQueueFull
  deriving DecidableEq, Repr

/-- Reader port states (R162). -/
inductive PortState where
  | absent | present | tampered
  deriving DecidableEq, Repr

/-- Routes of the routing table (R182): `nowhere` is NONE. -/
inductive Route where
  | nowhere | site | desk | both
  deriving DecidableEq, Repr

/-- Notice kinds, in the order of Table 10-3. -/
inductive NoticeKind where
  | read | referral | passage | violation | permitEnd | barrier | sensor | reader | lane | store | start
  deriving DecidableEq, Repr

/-- Reply status codes (Table 10-2). -/
inductive Status where
  | ok | clamped | pending
  | unknownKind | badLength | badLane | badValue | busy | held | egress | tableFull | notFound | late | deskOnly | laneBusy
  | queueFull | notClosed
  deriving DecidableEq, Repr

/-- Stages of a save (R193). -/
inductive SaveStage where
  | erase | header | records | crc
  deriving DecidableEq, Repr

/-- Causes of a failed save (R193). -/
inductive SaveCause where
  | noFlash | write | verify | timeout
  deriving DecidableEq, Repr

/-- Start results (R195). -/
inductive StartResult where
  | loaded | noImage | badImage | notRequested
  deriving DecidableEq, Repr

/-! ## Beam Scan Unit (Chapter 1) -/

/-- The six geometry settings (R1 to R4). -/
structure Geometry where
  bars : Nat
  nb : Nat
  orientation : Orientation
  p : Nat
  f : Nat
  sz : Nat
  deriving DecidableEq, Repr

/-- The twenty-three timing settings of LANE_TIMING (R180): BSU (R7), OT (R19), PQ (R49), BC (R69), auto-clear (R98), unknown
fallback (R131), referral timeout (R150), RPU (R166). -/
structure Timing where
  tf : Nat
  v : Nat
  stuckTime : Nat
  stuckLimit : Nat
  br : Nat
  k : Nat
  c : Nat
  loiter : Nat
  grantTime : Nat
  escortWindow : Nat
  wide : Bool
  tc : Nat
  topen : Nat
  tm : Nat
  vFloor : Nat
  vNom : Nat
  jamHold : Nat
  posture : Posture
  autoClear : Nat
  unknownFallback : Fallback
  referralTimeout : Nat
  retryLimit : Nat
  silenceTime : Nat
  deriving DecidableEq, Repr

/-- One lane beam: filtered state (true: occluded), disagreement counter (R11), stuck timer's start and stuck mark (R12). -/
structure Beam where
  occluded : Bool
  counter : Nat
  timer : Option Nat
  stuck : Bool
  deriving DecidableEq, Repr

/-- The three causes of the SENSOR condition (R13). -/
structure SensorCauses where
  chainFault : Bool
  guardStuck : Bool
  overLimit : Bool
  deriving DecidableEq, Repr

/-- A frame result (R14): the filtered vector has true for an occluded beam. -/
structure FrameResult where
  valid : Bool
  vector : List Bool
  guardOccupied : Bool
  deriving DecidableEq, Repr

/-- The chain read (R9): none in progress, in progress, or in progress and marked for discard (R6). -/
inductive ChainRead where
  | idle | reading | discarding
  deriving DecidableEq, Repr

/-- The state of a Beam Scan Unit (Table 1-5) and the frame period T_f in force, which follows the setting at each restart of the frame
timer (Table 1-3); the settings stand in the lane's geometry and timing. -/
structure Bsu where
  beams : List Beam
  chainFault : Bool
  answered : Nat
  faulting : List Nat
  result : FrameResult
  causes : SensorCauses
  frameTimer : Nat
  period : Nat
  read : ChainRead
  deriving DecidableEq, Repr

/-! ## Occupant Tracker (Chapter 2) -/

/-- The extent of a shadow or a track, in lane beams (R18). -/
structure Extent where
  lo : Nat
  hi : Nat
  deriving DecidableEq, Repr

/-- The copy of a permit that a track carries (R45). -/
structure PermitCopy where
  number : Nat
  credential : Option Nat
  origin : Origin
  cls : Option ClassNo
  reader : Option Port
  soft : Bool
  deriving DecidableEq, Repr

/-- A track record (Table 2-3); direction `none` is UNSET. -/
structure Track where
  number : Nat
  dir : Option Direction
  ext : Extent
  firstPos : Nat
  history : List Nat
  peak : Nat
  held : Bool
  crossed : Bool
  bound : Option PermitCopy
  merged : Bool
  splitBorn : Bool
  retreating : Bool
  exempt : Bool
  coasting : Bool
  loitered : Bool
  violated : Bool
  coastCount : Nat
  born : Nat
  speed : Nat
  deriving DecidableEq, Repr

/-- The state of an Occupant Tracker (Table 2-8). -/
structure Ot where
  tracks : List Track
  shadows : List Extent
  untracked : Bool
  next : Nat
  deriving DecidableEq, Repr

/-! ## Permit Queue (Chapter 3) -/

/-- A permit record (Table 3-1); the remaining count is allowance less used and is not stored a second time. -/
structure Permit where
  number : Nat
  dir : Direction
  origin : Origin
  credential : Option Nat
  cls : Option ClassNo
  reader : Option Port
  state : PermitState
  allowance : Nat
  used : Nat
  deadline : Nat
  soft : Bool
  deriving DecidableEq, Repr

/-- The state of a Permit Queue (Table 3-7): the queue head first, the ends of the open escort windows, the next permit number, the
claim as last worked out and the claim found at the end of the previous frame event (R48); `none` is NONE. -/
structure Pq where
  permits : List Permit
  entryWindow : Option Nat
  exitWindow : Option Nat
  next : Nat
  claim : Option Direction
  frameClaim : Option Direction
  deriving DecidableEq, Repr

/-! ## Barrier Controller (Chapter 4) -/

/-- The assessment of one track in a shut evaluation (R78): speed and time are absent for a track decided by R80 without
arithmetic. -/
structure Assessment where
  track : Nat
  dir : Option Direction
  distance : Nat
  arithmetic : Option (Nat × Nat)
  feasible : Bool
  deriving DecidableEq, Repr

/-- The last shut evaluation (R77). -/
structure ShutEvaluation where
  time : Nat
  failed : List Nat
  assessed : List Assessment
  obstruct : Bool
  deriving DecidableEq, Repr

/-- The state of a Barrier Controller (R68, Table 4-8), its three inputs and two outputs, and the fault posture in force, which
follows the setting at each frame event (Table 4-2). -/
structure Bc where
  state : Barrier
  openLimit : Bool
  shutLimit : Bool
  obstruct : Bool
  driveOpen : Bool
  driveShut : Bool
  motionEnd : Option Nat
  reversals : Nat
  jam : Bool
  jamHoldEnd : Option Nat
  stall : Bool
  positionUnknown : Bool
  last : Option ShutEvaluation
  risk : Bool
  posture : Posture
  deriving DecidableEq, Repr

/-! ## Lane Supervisor (Chapters 5 and 6) -/

/-- A latched alarm kind (R96). -/
structure LatchedAlarm where
  set : Bool
  deadline : Option Nat
  raises : Nat
  deriving DecidableEq, Repr

/-- A condition alarm kind (R97). -/
structure ConditionAlarm where
  active : Bool
  silenced : Bool
  deriving DecidableEq, Repr

/-- The alarm set of a lane (Table 5-5). -/
structure AlarmSet where
  tailgate : LatchedAlarm
  intrusion : LatchedAlarm
  wrongWay : LatchedAlarm
  loiter : LatchedAlarm
  overflow : LatchedAlarm
  tamper : LatchedAlarm
  jam : ConditionAlarm
  stall : ConditionAlarm
  sensor : ConditionAlarm
  deriving DecidableEq, Repr

/-- The passage tallies, each 0 to 4,294,967,295 and going on to 0 (R95). -/
structure Tallies where
  completedEntry : BitVec 32
  completedExit : BitVec 32
  backouts : BitVec 32
  tailgate : BitVec 32
  intrusion : BitVec 32
  wrongWay : BitVec 32
  lost : BitVec 32
  overflowFrames : BitVec 32
  deriving DecidableEq, Repr

/-- A pending mode (R112). -/
structure PendingMode where
  mode : Mode
  policy : Policy
  link : Link
  deriving DecidableEq, Repr

/-- The state of a Lane Supervisor (Tables 5-8 and 6-4), its buzzer and indicator outputs. -/
structure Lsv where
  mode : Mode
  policy : Policy
  pending : Option PendingMode
  startMode : Mode
  startPolicy : Policy
  hold : Option Nat
  sensorMark : Bool
  barrierMark : Bool
  alarms : AlarmSet
  tallies : Tallies
  buzzer : Bool
  lobbyColour : Colour
  secureColour : Colour
  riskLobby : Bool
  riskSecure : Bool
  deriving DecidableEq, Repr

/-- The tracker of a lane as it stood after the last frame event (R43): untracked flag, shadow list and track list, and the geometry under
which that frame was read, by which leads and trails are measured (Log 48). -/
structure TrackReport where
  geo : Geometry
  untracked : Bool
  shadows : List Extent
  tracks : List Track
  deriving DecidableEq, Repr

/-- Everything that belongs to one lane; `reported` is what LANE_TRACKS tells (R43). -/
structure LaneState where
  geo : Geometry
  timing : Timing
  bsu : Bsu
  ot : Ot
  pq : Pq
  bc : Bc
  lsv : Lsv
  reported : TrackReport
  deriving DecidableEq, Repr

/-! ## Credential Store (Chapter 7) and Referral Unit (Chapter 8) -/

/-- A credential record (Table 7-1). -/
structure Cred where
  number : Nat
  cls : ClassNo
  state : CredState
  validFrom : Option Nat
  validUntil : Option Nat
  uses : Option Nat
  group : Nat
  presence : Presence
  lastTime : Option Nat
  lastLane : Option Lane
  deriving DecidableEq, Repr

/-- A class record (Table 7-2); the lane mask holds lane k ENTRY at bit 2(k − 1) and lane k EXIT at bit 2k − 1 (R198). -/
structure ClassRec where
  mask : BitVec 12
  condition : Condition
  windowStart : Nat
  windowEnd : Nat
  passback : Passback
  escort : Bool
  needsEscort : Bool
  lockdownPass : Bool
  alwaysRefer : Bool
  fallback : Fallback
  deriving DecidableEq, Repr

/-- The Credential Store's tables (R126, R128). -/
structure Cst where
  creds : List Cred
  classes : Vector ClassRec 16
  deriving DecidableEq, Repr

/-- An occupied referral slot (Table 8-1); its lane is the lane of its reader port. -/
structure Slot where
  tag : Nat
  reader : Port
  number : Nat
  cls : Option ClassNo
  reason : ReferralReason
  opened : Nat
  deadline : Nat
  deriving DecidableEq, Repr

/-- The Referral Unit (R149): its occupied slots, oldest opening first, and the tag counter. -/
structure Rfu where
  slots : List Slot
  tagCounter : Nat
  deriving DecidableEq, Repr

/-! ## Reader Port Unit (Chapter 9) -/

/-- A frame to a reader (R170). -/
inductive ReaderFrame where
  | verdict (v : Verdict) (r : Reason) (number : Nat)
  | nak
  deriving DecidableEq, Repr

/-- A frame being received: the bytes so far, and the millisecond count of the last of them. -/
structure Partial where
  bytes : List Byte
  last : Nat
  deriving DecidableEq, Repr

/-- A reader port (Table 9-1). -/
structure ReaderPort where
  state : PortState
  bad : Nat
  lastGood : Option Nat
  tamper : Bool
  tx : List ReaderFrame
  dropped : BitVec 16
  rx : Option Partial
  deriving DecidableEq, Repr

/-! ## Notices (Section 10.4, R201) -/

/-- What a READ notice says of an append (R140, R160). -/
structure AppendInfo where
  number : Nat
  state : PermitState
  allowance : Nat
  soft : Bool
  deriving DecidableEq, Repr

/-- A READ notice of the read decision (R140); the lane and direction are those of the port. -/
structure ReadBody where
  reader : Port
  number : Nat
  cls : Option ClassNo
  verdict : Verdict
  reason : Reason
  append : Option AppendInfo
  referral : Option (Nat × ReferralReason)
  fallback : Option FallbackCause
  step : Nat
  deriving DecidableEq, Repr

/-- A READ notice of a referral's conclusion (R160): `decidedBy` is the link of the DECIDE, or none for the deadline. -/
structure ConclusionBody where
  reader : Port
  number : Nat
  cls : Option ClassNo
  verdict : Verdict
  reason : Reason
  tag : Nat
  referralReason : ReferralReason
  decidedBy : Option Link
  append : Option AppendInfo
  step : Nat
  deriving DecidableEq, Repr

/-- A PASSAGE notice (Table 5-3). -/
structure PassageBody where
  track : Nat
  ended : PassageEnd
  dir : Direction
  copy : Option PermitCopy
  duration : Nat
  violation : Bool
  exempt : Bool
  egress : Bool
  record : RecordOutcome
  deriving DecidableEq, Repr

/-- BARRIER notice events (Table 4-7). -/
inductive BarrierEvent where
  | stalled (m : Motion)
  | recovered
  | reversed (c : ReversalCause)
  | jam
  | jamCleared
  | positionUnknown (openLimit shutLimit : Bool)
  deriving DecidableEq, Repr

/-- READER notice events (Table 9-5). -/
inductive ReaderEvent where
  | present
  | absent (left : PortState)
  | tamper (left : PortState)
  | tamperCleared
  | readError (frames : Nat)
  deriving DecidableEq, Repr

/-- LANE notice events (Table 6-3). -/
inductive LaneEvent where
  | modeApplied (cause : ModeCause) (link : Option Link)
  | modePending (mode : Mode) (policy : Policy) (replaced : Bool)
  | pendingDiscarded (mode : Mode) (policy : Policy) (cause : ModeCause)
  | health (h : Health)
  | holdSet (minutes : Nat) (renewed : Bool)
  | holdReleased
  | holdExpired
  | reset (barrier : Barrier) (h : Health)
  | alarmsAutoCleared (kind : LatchedKind)
  | alarmsAcked (cleared : List LatchedKind) (silenced : List ConditionKind) (link : Link)
  deriving DecidableEq, Repr

/-- The kind-specific fields of a notice. -/
inductive NoticeBody where
  | read (b : ReadBody)
  | conclusion (b : ConclusionBody)
  | referralOpened (tag : Nat) (reader : Port) (number : Nat) (cls : Option ClassNo) (reason : ReferralReason) (timeout : Nat)
  | referralClosed (tag : Nat) (reader : Port) (number : Nat) (cause : ClosureCause)
  | passage (b : PassageBody)
  | crossing (kind : CrossingKind) (track : Nat) (dir : Direction) (ext : Extent) (barrier : Barrier) (mode : Mode)
  | loiter (track : Nat) (dir : Option Direction) (ext : Extent) (age : Nat)
  | overflow (extents : List Extent)
  | lost (track : Nat) (dir : Option Direction) (ext : Extent) (cause : LostCause) (credential : Option Nat)
  | permitEnd (p : Permit) (ended : PermitEnd)
  | barrier (e : BarrierEvent) (state : Barrier) (reversals : Nat)
  | chainFault (answered bars : Nat) (faulting : List Nat)
  | chainRestored
  | beamStuck (beam : Nat)
  | beamCleared (beam : Nat)
  | reader (port : Port) (e : ReaderEvent) (state : PortState)
  | lane (e : LaneEvent) (mode : Mode) (policy : Policy)
  | storeDone (records duration : Nat)
  | storeFailed (cause : SaveCause) (stage : SaveStage) (written : Nat)
  | start (result : StartResult) (cause : ResetCause) (format : Option Nat) (records unit : Nat) (egress : Bool)
  deriving DecidableEq, Repr

/-- A notice with its stamps (R181); lane 0 is the device as a whole. -/
structure Notice where
  lane : Nat
  ms : Nat
  seconds : Nat
  clockValid : Bool
  body : NoticeBody
  deriving DecidableEq, Repr

/-! ## Link Unit (Chapter 10) -/

/-- A reply waiting to be sent (R176): its tag, its kind, its status and the payload after the status byte. -/
structure Reply where
  tag : Byte
  kind : Byte
  status : Status
  body : List Byte
  deriving DecidableEq, Repr

/-- One link (Table 10-5): receiver (`none` is hunting), transmit list, discard counts, notice queue and overflow flag. -/
structure LinkPort where
  rx : Option Partial
  tx : List Reply
  lengthDiscards : BitVec 16
  crcDiscards : BitVec 16
  gapDiscards : BitVec 16
  queue : List Notice
  overflow : Bool
  deriving DecidableEq, Repr

/-- The routing table (R182). -/
structure Routing where
  read : Route
  referral : Route
  passage : Route
  violation : Route
  permitEnd : Route
  barrier : Route
  sensor : Route
  reader : Route
  lane : Route
  store : Route
  start : Route
  deriving DecidableEq, Repr

/-! ## Time Base and Image Store (Chapter 11) -/

/-- The Time Base (R188, R189). -/
structure Tmb where
  ms : Nat
  valid : Bool
  base : Nat
  baseAt : Nat
  deriving DecidableEq, Repr

/-- A save in flight (R192, R193): its stage, the records-written count and the save timer's end. -/
structure SaveRun where
  stage : SaveStage
  written : Nat
  timerEnd : Nat
  deriving DecidableEq, Repr

/-- The last save (R196). -/
inductive LastSave where
  | never
  | done (at_ : Nat)
  | failed (cause : SaveCause)
  deriving DecidableEq, Repr

/-- Memory of the serial flash: cells with addresses strictly rising, none equal to the erased byte (R190). -/
abbrev Memory := List Host.Cell

/-- The Image Store: the save in flight (`none` is IDLE), the last save, the serial flash, and what start-up kept (R195, R196); the
unit number (R197). -/
structure Ims where
  saving : Option SaveRun
  lastSave : LastSave
  flash : Memory
  startResult : StartResult
  resetCause : ResetCause
  strap : Bool
  unit : Nat
  deriving DecidableEq, Repr

/-! ## The whole part -/

/-- The state of the HG-6 and the queue of the commands that wait, first in, first out. -/
structure State where
  lanes : Vector LaneState 6
  ports : Vector ReaderPort 12
  site : LinkPort
  desk : LinkPort
  routing : Routing
  cst : Cst
  rfu : Rfu
  tmb : Tmb
  ims : Ims
  egressLine : Bool
  deskKey : Bool
  pending : List Instr
  deriving DecidableEq, Repr

/-- No rule of the spec stops the part: it has no fault, so this type has no constructor. -/
inductive Fault where
  deriving DecidableEq, Repr

/-- Why a command has no meaning. -/
inductive Refusal where
  /-- Raised by `exec` for a command whose arm has no meaning yet (safe: nothing is claimed of it). -/
  | notModelled (mnemonic : String)
  deriving DecidableEq, Repr

/-! ## Reset values -/

/-- Table 1-5, geometry. -/
def Geometry.reset : Geometry := { bars := 4, nb := 16, orientation := .normal, p := 60, f := 8, sz := 2 }

/-- Tables 1-5, 2-8, 3-7, 4-8, 5-8, 7-8, R150 and Table 9-6, settings. -/
def Timing.reset : Timing where
  tf := 10
  v := 2
  stuckTime := 120
  stuckLimit := 2
  br := 1
  k := 12
  c := 3
  loiter := 30
  grantTime := 8
  escortWindow := 20
  wide := false
  tc := 450
  topen := 450
  tm := 100
  vFloor := 300
  vNom := 1200
  jamHold := 5
  posture := .hold
  autoClear := 30
  unknownFallback := .deny
  referralTimeout := 1500
  retryLimit := 2
  silenceTime := 3

/-- A lane beam with nothing counted, timed or marked (Table 1-5). -/
def Beam.clear : Beam := { occluded := false, counter := 0, timer := none, stuck := false }

/-- The frame result before any valid frame (Table 1-5). -/
def FrameResult.reset (nb : Nat) : FrameResult := { valid := false, vector := List.replicate nb false, guardOccupied := false }

/-- The policy (BARRED, BARRED). -/
def Policy.barred : Policy := { entry := .barred, exit := .barred }

/-- A latched kind that is clear (Table 5-8). -/
def LatchedAlarm.clear : LatchedAlarm := { set := false, deadline := none, raises := 0 }

/-- A condition kind that is inactive (Table 5-8). -/
def ConditionAlarm.clear : ConditionAlarm := { active := false, silenced := false }

/-- An empty alarm set (Table 5-8). -/
def AlarmSet.clear : AlarmSet where
  tailgate := .clear
  intrusion := .clear
  wrongWay := .clear
  loiter := .clear
  overflow := .clear
  tamper := .clear
  jam := .clear
  stall := .clear
  sensor := .clear

/-- The tallies at 0 (Table 5-8). -/
def Tallies.zero : Tallies where
  completedEntry := 0
  completedExit := 0
  backouts := 0
  tailgate := 0
  intrusion := 0
  wrongWay := 0
  lost := 0
  overflowFrames := 0

/-- A Beam Scan Unit at full reset with NB beams and its first frame timer end (Table 1-5). -/
def Bsu.reset (nb timer : Nat) : Bsu where
  beams := List.replicate nb .clear
  chainFault := false
  answered := 0
  faulting := []
  result := .reset nb
  causes := { chainFault := false, guardStuck := false, overLimit := false }
  frameTimer := timer
  period := 10
  read := .idle

/-- An Occupant Tracker at full reset (Table 2-8). -/
def Ot.reset : Ot := { tracks := [], shadows := [], untracked := false, next := 1 }

/-- A Permit Queue at full reset (Table 3-7). -/
def Pq.reset : Pq := { permits := [], entryWindow := none, exitWindow := none, next := 1, claim := none, frameClaim := none }

/-- A Barrier Controller at full reset whose limit inputs are both inactive (R88, Table 4-8; Log 4). -/
def Bc.reset : Bc where
  state := .stalled
  openLimit := false
  shutLimit := false
  obstruct := false
  driveOpen := false
  driveShut := false
  motionEnd := none
  reversals := 0
  jam := false
  jamHoldEnd := none
  stall := false
  positionUnknown := true
  last := none
  risk := false
  posture := .hold

/-- A Lane Supervisor at full reset whose barrier position is unknown (Tables 5-8 and 6-4). -/
def Lsv.reset : Lsv where
  mode := .dark
  policy := .barred
  pending := none
  startMode := .dark
  startPolicy := .barred
  hold := none
  sensorMark := false
  barrierMark := true
  alarms := .clear
  tallies := .zero
  buzzer := false
  lobbyColour := .dark
  secureColour := .dark
  riskLobby := false
  riskSecure := false

/-- The tracker's report at full reset: no frame event yet, and the tracker empty as a full reset leaves it (Table 2-8, Log 48). -/
def TrackReport.reset : TrackReport where
  geo := .reset
  untracked := false
  shadows := []
  tracks := []

/-- A lane at full reset (the reset tables of Chapters 1 to 6). -/
def LaneState.reset : LaneState where
  geo := .reset
  timing := .reset
  bsu := .reset 16 10
  ot := .reset
  pq := .reset
  bc := .reset
  lsv := .reset
  reported := .reset

/-- A reader port at full reset (Table 9-6). -/
def ReaderPort.reset : ReaderPort where
  state := .absent
  bad := 0
  lastGood := none
  tamper := false
  tx := []
  dropped := 0
  rx := none

/-- A class record at full reset but for its condition (R128, Table 7-8). -/
def ClassRec.reset (c : Condition) : ClassRec where
  mask := 0xFFF
  condition := c
  windowStart := 0
  windowEnd := 0
  passback := .off
  escort := false
  needsEscort := false
  lockdownPass := false
  alwaysRefer := false
  fallback := .deny

/-- The Credential Store at full reset (Table 7-8). -/
def Cst.reset : Cst where
  creds := []
  classes := (Vector.replicate 16 (.reset .never)).set 0 (.reset .always)

/-- A link at full reset, with the notices given in its queue (Table 10-5). -/
def LinkPort.reset (queue : List Notice) : LinkPort where
  rx := none
  tx := []
  lengthDiscards := 0
  crcDiscards := 0
  gapDiscards := 0
  queue := queue
  overflow := false

/-- The routing table at full reset (Table 10-5). -/
def Routing.reset : Routing where
  read := .site
  referral := .site
  passage := .site
  violation := .both
  permitEnd := .site
  barrier := .both
  sensor := .both
  reader := .both
  lane := .both
  store := .site
  start := .site

/-- The Image Store after a full reset by POWER with the strap low and the flash erased (R194, R196, R197; Log 4, 6). -/
def Ims.reset : Ims where
  saving := none
  lastSave := .never
  flash := []
  startResult := .notRequested
  resetCause := .power
  strap := false
  unit := 0

/-- A notice stamped at millisecond count 0 with the clock not valid (R181, R195). -/
def Notice.atReset (lane : Nat) (body : NoticeBody) : Notice :=
  { lane := lane, ms := 0, seconds := 0, clockValid := false, body := body }

/-- The START notice of State.reset (R195). -/
def startNotice : Notice := .atReset 0 (.start .notRequested .power none 0 0 false)

/-- The POSITION_UNKNOWN notices of the six lanes (R88, R194). -/
def positionNotices : List Notice :=
  [1, 2, 3, 4, 5, 6].map fun k => .atReset k (.barrier (.positionUnknown false false) .stalled 0)

/-- The part right after a full reset by POWER, with the AUTOLOAD strap low, every input line inactive and start-up taking no time
(R194; Log 4, 5, 6). START is posted first, then each lane reports its unknown position. -/
def State.reset : State where
  lanes := Vector.replicate 6 .reset
  ports := Vector.replicate 12 .reset
  site := .reset (startNotice :: positionNotices)
  desk := .reset positionNotices
  routing := .reset
  cst := .reset
  rfu := { slots := [], tagCounter := 1 }
  tmb := { ms := 0, valid := false, base := 0, baseAt := 0 }
  ims := .reset
  egressLine := false
  deskKey := false
  pending := []

end Sys2Proof.Machine
end

