-- ==== Sys2Proof/Machine/Operands.lean ====
section
/-! DEFINITION. The operands of the commands as bytes: little-endian fields (Chapter 12), the one-byte codes of R198 and R199, the
request kinds with their codes, the payload length each must have (R177, R199, R200), and the two checksums (R199, Table 12-6). -/

namespace Sys2Proof.Machine

/-! ## Fields -/

/-- A number in w bytes, least significant first. -/
def le : Nat → Nat → List Byte
  | 0, _ => []
  | w + 1, n => BitVec.ofNat 8 n :: le w (n / 256)

/-- The number that bytes hold, least significant first. -/
def fromLe (bs : List Byte) : Nat := bs.foldr (fun b acc => b.toNat + 256 * acc) 0

/-- A layout field of w bytes holding n. A number that does not fit has no stated bytes: a free value (Log 11). -/
def fld (w n : Nat) : List Byte := le w (if n < 256 ^ w then n else Config.oversizeField w n)

/-- The byte at an offset of a payload. -/
def byteAt (p : List Byte) (i : Nat) : Nat := (p.getD i 0).toNat

/-- The w-byte field at an offset of a payload. -/
def natAt (p : List Byte) (i w : Nat) : Nat := fromLe ((p.drop i).take w)

/-- A flag, level or other two-valued field in one byte; 1 for set where no table gives a code is a choice of the model (Log 57). -/
def flagByte (b : Bool) : List Byte := [if b then 1 else 0]

/-- A field that may be absent: a presence byte, then the field when present (R200). -/
def optField (o : Option (List Byte)) : List Byte :=
  match o with
  | none => [0]
  | some bs => 1 :: bs

/-- A list: its count byte, then its entries (R200). -/
def listField (entries : List (List Byte)) : List Byte := fld 1 entries.length ++ entries.flatten

/-! ## Checksums -/

/-- One bit of the CRC-16 with polynomial hex 1021, most significant bit first (R199). -/
def crc16Bit (c : BitVec 16) : BitVec 16 := if c.msb then (c <<< 1) ^^^ 0x1021#16 else c <<< 1

/-- One byte of the CRC-16 (R199). -/
def crc16Byte (c : BitVec 16) (b : Byte) : BitVec 16 :=
  (crc16Bit ∘ crc16Bit ∘ crc16Bit ∘ crc16Bit ∘ crc16Bit ∘ crc16Bit ∘ crc16Bit ∘ crc16Bit)
    (c ^^^ (b.zeroExtend 16 <<< 8))

/-- The CRC-16 of link frames and of the image, initial value hex FFFF (R173, R199). -/
def crc16 (bs : List Byte) : BitVec 16 := bs.foldl crc16Byte 0xFFFF#16

/-- One bit of the CRC-8 with polynomial hex 07 (Table 12-6). -/
def crc8Bit (c : BitVec 8) : BitVec 8 := if c.msb then (c <<< 1) ^^^ 0x07#8 else c <<< 1

/-- One byte of the CRC-8 (Table 12-6). -/
def crc8Byte (c : BitVec 8) (b : Byte) : BitVec 8 :=
  (crc8Bit ∘ crc8Bit ∘ crc8Bit ∘ crc8Bit ∘ crc8Bit ∘ crc8Bit ∘ crc8Bit ∘ crc8Bit) (c ^^^ b)

/-- The CRC-8 of reader frames, initial value hex 00 (Table 12-6). -/
def crc8 (bs : List Byte) : BitVec 8 := bs.foldl crc8Byte 0#8

/-! ## Codes -/

/-- Code of a direction: ENTRY 1, EXIT 2 (R198). -/
def dirCode : Direction → Nat
  | .entry => 1
  | .exit => 2

/-- The direction with a code, where it is ENTRY or EXIT. -/
def dirOfCode : Nat → Option Direction
  | 1 => some .entry
  | 2 => some .exit
  | _ => none

/-- Code of a track's direction or of a lane claim: UNSET and NONE are 0 (R198). -/
def optDirCode : Option Direction → Nat
  | none => 0
  | some d => dirCode d

/-- Code of a link (R198). -/
def linkCode : Link → Nat
  | .site => 0
  | .desk => 1

/-- Code of a latched alarm kind (R198). -/
def latchedCode : LatchedKind → Nat
  | .tailgate => 1
  | .intrusion => 2
  | .wrongWay => 3
  | .loiter => 4
  | .overflow => 5
  | .tamper => 6

/-- The latched alarm kind with a code. -/
def latchedOfCode : Nat → Option LatchedKind
  | 1 => some .tailgate
  | 2 => some .intrusion
  | 3 => some .wrongWay
  | 4 => some .loiter
  | 5 => some .overflow
  | 6 => some .tamper
  | _ => none

/-- Code of a full reset cause (R198). -/
def resetCauseCode : ResetCause → Nat
  | .power => 1
  | .resetLine => 2

/-- Code of a mode (R198, Table 12-1). -/
def Mode.code : Mode → Nat
  | .dark => 0
  | .closed => 1
  | .service => 2
  | .lockdown => 3
  | .egress => 4

/-- The mode with a code, where the table gives one. -/
def Mode.ofCode : Nat → Option Mode
  | 0 => some .dark
  | 1 => some .closed
  | 2 => some .service
  | 3 => some .lockdown
  | 4 => some .egress
  | _ => none

/-- Code of a policy setting (R198, Table 12-1). -/
def Setting.code : Setting → Nat
  | .barred => 0
  | .badged => 1
  | .free => 2

/-- The policy setting with a code, where the table gives one. -/
def Setting.ofCode : Nat → Option Setting
  | 0 => some .barred
  | 1 => some .badged
  | 2 => some .free
  | _ => none

/-- Code of a orientation (R198, Table 12-1). -/
def Orientation.code : Orientation → Nat
  | .normal => 0
  | .reversed => 1

/-- The orientation with a code, where the table gives one. -/
def Orientation.ofCode : Nat → Option Orientation
  | 0 => some .normal
  | 1 => some .reversed
  | _ => none

/-- Code of a fault posture (R198, Table 12-1). -/
def Posture.code : Posture → Nat
  | .hold => 0
  | .opened => 1

/-- The fault posture with a code, where the table gives one. -/
def Posture.ofCode : Nat → Option Posture
  | 0 => some .hold
  | 1 => some .opened
  | _ => none

/-- Code of a fallback (R198, Table 12-1). -/
def Fallback.code : Fallback → Nat
  | .deny => 0
  | .grant => 1

/-- The fallback with a code, where the table gives one. -/
def Fallback.ofCode : Nat → Option Fallback
  | 0 => some .deny
  | 1 => some .grant
  | _ => none

/-- Code of a route (R198, Table 12-1). -/
def Route.code : Route → Nat
  | .nowhere => 0
  | .site => 1
  | .desk => 2
  | .both => 3

/-- The route with a code, where the table gives one. -/
def Route.ofCode : Nat → Option Route
  | 0 => some .nowhere
  | 1 => some .site
  | 2 => some .desk
  | 3 => some .both
  | _ => none

/-- Code of a credential state (R198, Table 12-1). -/
def CredState.code : CredState → Nat
  | .active => 0
  | .suspended => 1
  | .spent => 2

/-- The credential state with a code, where the table gives one. -/
def CredState.ofCode : Nat → Option CredState
  | 0 => some .active
  | 1 => some .suspended
  | 2 => some .spent
  | _ => none

/-- Code of a presence (R198, Table 12-1). -/
def Presence.code : Presence → Nat
  | .unknown => 0
  | .inside => 1
  | .outside => 2

/-- The presence with a code, where the table gives one. -/
def Presence.ofCode : Nat → Option Presence
  | 0 => some .unknown
  | 1 => some .inside
  | 2 => some .outside
  | _ => none

/-- Code of a condition (R198, Table 12-1). -/
def Condition.code : Condition → Nat
  | .always => 0
  | .never => 1
  | .dayWindow => 2
  | .deskKey => 3
  | .noDeskKey => 4
  | .clockSet => 5

/-- The condition with a code, where the table gives one. -/
def Condition.ofCode : Nat → Option Condition
  | 0 => some .always
  | 1 => some .never
  | 2 => some .dayWindow
  | 3 => some .deskKey
  | 4 => some .noDeskKey
  | 5 => some .clockSet
  | _ => none

/-- Code of a passback mode (R198, Table 12-1). -/
def Passback.code : Passback → Nat
  | .off => 0
  | .soft => 1
  | .hard => 2

/-- The passback mode with a code, where the table gives one. -/
def Passback.ofCode : Nat → Option Passback
  | 0 => some .off
  | 1 => some .soft
  | 2 => some .hard
  | _ => none

/-- Code of a verdict (R198, Table 12-1). -/
def Verdict.code : Verdict → Nat
  | .grant => 1
  | .deny => 2
  | .wait => 3
  | .free => 4

/-- The verdict with a code, where the table gives one. -/
def Verdict.ofCode : Nat → Option Verdict
  | 1 => some .grant
  | 2 => some .deny
  | 3 => some .wait
  | 4 => some .free
  | _ => none

/-- Code of a permit state (R198, Table 12-1). -/
def PermitState.code : PermitState → Nat
  | .ready => 1
  | .awaitingEscort => 2

/-- Code of a permit origin (NONE is 0) (R198, Table 12-1). -/
def Origin.code : Origin → Nat
  | .badge => 1
  | .referred => 2
  | .pulse => 3
  | .free => 4
  | .returned => 5

/-- Code of a permit end (R198, Table 12-1). -/
def PermitEnd.code : PermitEnd → Nat
  | .used => 1
  | .expired => 2
  | .escortTimeout => 3
  | .dropped => 4
  | .cancelled => 5
  | .tamper => 6

/-- Code of a violation kind of an unauthorized crossing (R198, Table 12-1). -/
def CrossingKind.code : CrossingKind → Nat
  | .tailgate => 1
  | .intrusion => 2
  | .wrongWay => 3

/-- Code of a LOST cause (R198, Table 12-1). -/
def LostCause.code : LostCause → Nat
  | .coasted => 1
  | .endUnset => 2

/-- Code of a alarm kind (R198, Table 12-1). -/
def ConditionKind.code : ConditionKind → Nat
  | .jam => 7
  | .stall => 8
  | .sensor => 9

/-- The alarm kind with a code, where the table gives one. -/
def ConditionKind.ofCode : Nat → Option ConditionKind
  | 7 => some .jam
  | 8 => some .stall
  | 9 => some .sensor
  | _ => none

/-- Code of a PASSAGE end (R198, Table 12-1). -/
def PassageEnd.code : PassageEnd → Nat
  | .completed => 1
  | .backout => 2

/-- Code of a PASSAGE record (R198, Table 12-1). -/
def RecordOutcome.code : RecordOutcome → Nat
  | .updated => 1
  | .spent => 2
  | .absent => 3
  | .notApplied => 4

/-- Code of a barrier state (R198, Table 12-1). -/
def Barrier.code : Barrier → Nat
  | .shut => 0
  | .opening => 1
  | .opened => 2
  | .shutting => 3
  | .stalled => 4

/-- Code of a stalled motion (R198, Table 12-1). -/
def Motion.code : Motion → Nat
  | .opening => 1
  | .shutting => 2

/-- Code of a reversal cause (R198, Table 12-1). -/
def ReversalCause.code : ReversalCause → Nat
  | .guardZone => 1
  | .obstruct => 2

/-- Code of a health (R198, Table 12-1). -/
def Health.code : Health → Nat
  | .ok => 0
  | .sensor => 1
  | .barrierFault => 2
  | .sensorAndBarrier => 3

/-- Code of a indicator colour (R198, Table 12-1). -/
def Colour.code : Colour → Nat
  | .dark => 0
  | .red => 1
  | .green => 2
  | .amber => 3

/-- Code of a MODE_APPLIED and PENDING_DISCARDED cause (R198, Table 12-1). -/
def ModeCause.code : ModeCause → Nat
  | .request => 1
  | .pending => 2
  | .forced => 3
  | .lockdown => 4
  | .egressLine => 5
  | .restore => 6
  | .start => 7

/-- Code of a port state (R198, Table 12-1). -/
def PortState.code : PortState → Nat
  | .absent => 0
  | .present => 1
  | .tampered => 2

/-- Code of a referral reason (R198, Table 12-1). -/
def ReferralReason.code : ReferralReason → Nat
  | .notInTable => 1
  | .classRefer => 2
  | .noClock => 3

/-- Code of a referral closure cause (R198, Table 12-1). -/
def ClosureCause.code : ClosureCause → Nat
  | .laneReset => 1
  | .forced => 2
  | .lockdown => 3
  | .egressLine => 4
  | .tamper => 5

/-- Code of a fallback cause (TIMEOUT is 3) (R198, Table 12-1). -/
def FallbackCause.code : FallbackCause → Nat
  | .noSlot => 1
  | .siteQueueFull => 2

/-- Code of a save stage (R198, Table 12-1). -/
def SaveStage.code : SaveStage → Nat
  | .erase => 1
  | .header => 2
  | .records => 3
  | .crc => 4

/-- Code of a save failure cause (R198, Table 12-1). -/
def SaveCause.code : SaveCause → Nat
  | .noFlash => 1
  | .write => 2
  | .verify => 3
  | .timeout => 4

/-- Code of a start result (R198, Table 12-1). -/
def StartResult.code : StartResult → Nat
  | .loaded => 1
  | .noImage => 2
  | .badImage => 3
  | .notRequested => 4

/-- Code of a reason, 1 to 26 in the order of Table 7-5 (R198, Table 12-1). -/
def Reason.code : Reason → Nat
  | .local_ => 1
  | .fallback => 2
  | .referred => 3
  | .escort => 4
  | .referral => 5
  | .egress => 6
  | .freeDirection => 7
  | .readerTamper => 8
  | .laneClosed => 9
  | .lockdown => 10
  | .laneFault => 11
  | .modeChanging => 12
  | .directionBarred => 13
  | .laneBusy => 14
  | .suspended => 15
  | .spent => 16
  | .notPermitted => 17
  | .condition => 18
  | .notYet => 19
  | .expired => 20
  | .duplicate => 21
  | .passback => 22
  | .queueFull => 23
  | .noReferral => 24
  | .referralDenied => 25
  | .referralTimeout => 26

/-- Code of a notice kind, 1 to 11 in the order of Table 10-3 (R199). -/
def NoticeKind.code : NoticeKind → Nat
  | .read => 1
  | .referral => 2
  | .passage => 3
  | .violation => 4
  | .permitEnd => 5
  | .barrier => 6
  | .sensor => 7
  | .reader => 8
  | .lane => 9
  | .store => 10
  | .start => 11

/-- The notice kind with a code, where the table gives one. -/
def NoticeKind.ofCode : Nat → Option NoticeKind
  | 1 => some .read
  | 2 => some .referral
  | 3 => some .passage
  | 4 => some .violation
  | 5 => some .permitEnd
  | 6 => some .barrier
  | 7 => some .sensor
  | 8 => some .reader
  | 9 => some .lane
  | 10 => some .store
  | 11 => some .start
  | _ => none

/-- Code of a status (R199) (R199). -/
def Status.code : Status → Nat
  | .ok => 0
  | .clamped => 1
  | .pending => 2
  | .unknownKind => 16
  | .badLength => 17
  | .badLane => 18
  | .badValue => 19
  | .busy => 20
  | .held => 21
  | .egress => 22
  | .tableFull => 23
  | .notFound => 24
  | .late => 25
  | .deskOnly => 26
  | .laneBusy => 27
  | .queueFull => 28
  | .notClosed => 29

/-! ## Requests -/

/-- The request kinds (Table 12-3). -/
inductive RequestKind where
  | laneMode | laneGeometry | laneTiming | laneStatus | laneTracks | lanePermits | laneReset | pulse | cancel | alarmAck | restore
  | hold | release
  | credPut | credGet | credDrop | credScan | credClear | presenceSet | presenceReset | classSet | classGet
  | decideReq | fetch | route | clockSet | deviceStatus | save | ident
  deriving DecidableEq, Repr

/-- Codes of the request kinds (Table 12-3). -/
def RequestKind.code : RequestKind → Nat
  | .laneMode => 0x01
  | .laneGeometry => 0x02
  | .laneTiming => 0x03
  | .laneStatus => 0x04
  | .laneTracks => 0x05
  | .lanePermits => 0x06
  | .laneReset => 0x07
  | .pulse => 0x08
  | .cancel => 0x09
  | .alarmAck => 0x0A
  | .restore => 0x0B
  | .hold => 0x10
  | .release => 0x11
  | .credPut => 0x20
  | .credGet => 0x21
  | .credDrop => 0x22
  | .credScan => 0x23
  | .credClear => 0x24
  | .presenceSet => 0x25
  | .presenceReset => 0x26
  | .classSet => 0x27
  | .classGet => 0x28
  | .decideReq => 0x30
  | .fetch => 0x38
  | .route => 0x39
  | .clockSet => 0x40
  | .deviceStatus => 0x41
  | .save => 0x42
  | .ident => 0x43

/-- All request kinds. -/
def RequestKind.all : List RequestKind :=
  [.laneMode, .laneGeometry, .laneTiming, .laneStatus, .laneTracks, .lanePermits, .laneReset, .pulse, .cancel, .alarmAck, .restore,
   .hold, .release, .credPut, .credGet, .credDrop, .credScan, .credClear, .presenceSet, .presenceReset, .classSet, .classGet,
   .decideReq, .fetch, .route, .clockSet, .deviceStatus, .save, .ident]

/-- The request kind with a code, where Table 12-3 gives one. -/
def RequestKind.ofCode (n : Nat) : Option RequestKind := RequestKind.all.find? fun k => k.code == n

/-- Whether a request carries a lane (R177, Table 12-4); the lane is then its first payload byte. -/
def RequestKind.carriesLane : RequestKind → Bool
  | .laneMode | .laneGeometry | .laneTiming | .laneStatus | .laneTracks | .lanePermits | .laneReset | .pulse | .cancel | .alarmAck
  | .restore | .hold | .release => true
  | .credPut | .credGet | .credDrop | .credScan | .credClear | .presenceSet | .presenceReset | .classSet | .classGet | .decideReq
  | .fetch | .route | .clockSet | .deviceStatus | .save | .ident => false

/-- Whether bit i of a presence byte is set. -/
def bitSet (n i : Nat) : Bool := n / 2 ^ i % 2 == 1

/-- The size of a field that a presence bit marks. -/
def sizeIf (present : Bool) (size : Nat) : Nat := if present then size else 0

/-- The payload length a request of a kind must have, worked out from its count and presence bytes (R200, Table 12-4). -/
def RequestKind.payloadLength (p : List Byte) : RequestKind → Nat
  | .laneMode => 6
  | .laneGeometry => 7
  | .laneTiming => 32
  | .laneStatus => 1
  | .laneTracks => 1
  | .lanePermits => 1
  | .laneReset => 1
  | .pulse => 3
  | .cancel => 2
  | .alarmAck => 2 + byteAt p 1
  | .restore => 4
  | .hold => 2
  | .release => 1
  | .credPut => 12 + sizeIf (bitSet (byteAt p 11) 0) 4 + sizeIf (bitSet (byteAt p 11) 1) 4 + sizeIf (bitSet (byteAt p 11) 2) 1
  | .credGet => 8
  | .credDrop => 8
  | .credScan => 9
  | .credClear => 0
  | .presenceSet => 9
  | .presenceReset => 0
  | .classSet => 11
  | .classGet => 1
  | .decideReq => 4 + sizeIf (bitSet (byteAt p 3) 0) 1
  | .fetch => 1
  | .route => 1 + 2 * byteAt p 0
  | .clockSet => 5
  | .deviceStatus => 0
  | .save => 0
  | .ident => 1 + sizeIf (bitSet (byteAt p 0) 0) 1

/-- The lane that a lane byte names, when it is 1 to 6 (R177). -/
def laneOfByte (n : Nat) : Option Lane := if h : 1 ≤ n ∧ n ≤ 6 then some ⟨n - 1, by omega⟩ else none

/-- The class that a class byte names, when it is 0 to 15 (R143, R146). -/
def classOfByte (n : Nat) : Option ClassNo := if h : n ≤ 15 then some ⟨n, by omega⟩ else none

/-- The policy that two setting bytes name, when both are settings (R110, R117). -/
def policyOfBytes (entry exit : Nat) : Option Policy :=
  match Setting.ofCode entry, Setting.ofCode exit with
  | some e, some x => some { entry := e, exit := x }
  | _, _ => none

/-- A value limited to a range (R178). -/
def clamp (lo hi n : Nat) : Nat := if n < lo then lo else if hi < n then hi else n

end Sys2Proof.Machine
end

