-- ==== Sys2Proof/Machine/Flags.lean ====
section
/-! DEFINITION. The flag bytes of R198 and R203 and the lane mask: several marks added together in one field. -/

namespace Sys2Proof.Machine

/-- The value of a mark in a flag byte: its weight when it is set. -/
def weight (b : Bool) (w : Nat) : Nat := if b then w else 0

/-- The track flags byte (R198). -/
def Track.flags (t : Track) : Nat :=
  weight t.merged 1 + weight t.splitBorn 2 + weight t.retreating 4 + weight t.exempt 8 + weight t.coasting 16 + weight t.loitered 32
    + weight t.violated 64

/-- The PASSAGE flags byte (R198). -/
def PassageBody.flags (b : PassageBody) : Nat :=
  weight b.violation 1 + weight b.exempt 2 + weight b.egress 4 + weight ((b.copy.map (·.soft)).getD false) 8

/-- The SENSOR condition causes byte (R198). -/
def SensorCauses.flags (c : SensorCauses) : Nat := weight c.chainFault 1 + weight c.guardStuck 2 + weight c.overLimit 4

/-- Whether any cause of the SENSOR condition holds (R13). -/
def SensorCauses.any (c : SensorCauses) : Bool := c.chainFault || c.guardStuck || c.overLimit

/-- The class flags byte (R198). -/
def ClassRec.flags (c : ClassRec) : Nat :=
  weight c.escort 1 + weight c.needsEscort 2 + weight c.lockdownPass 4 + weight c.alwaysRefer 8

/-- The optional-fields byte of a packed credential record (Table 12-8). -/
def Cred.optionalFlags (c : Cred) : Nat :=
  weight c.validFrom.isSome 1 + weight c.validUntil.isSome 2 + weight c.lastTime.isSome 4

/-- The bit of the lane mask that stands for a lane and a direction (R198). -/
def maskBit (k : Lane) (d : Direction) : Nat :=
  match d with
  | .entry => 2 * k.val
  | .exit => 2 * k.val + 1

/-- Whether a class may be granted in a lane and direction (R128). -/
def ClassRec.allows (c : ClassRec) (k : Lane) (d : Direction) : Bool := c.mask.getLsbD (maskBit k d)

end Sys2Proof.Machine
end

