-- ==== Sys2Proof/Machine/Ops.lean ====
section
/-! DEFINITION. The operations that every block shares: reaching lanes, ports and links, the clock (R188, R189), posting notices
(R181, R183), replies (R176) and frames to readers (R170), the work of one event on one lane, the lane's health, alarm set, buzzer and
indicators (R96, R97, R100, R102 to R104, R108), and the serial flash. A block takes no exception: there is none in the spec. -/

namespace Sys2Proof.Machine

/-! ## Lanes, ports and links -/

/-- The lane of a reader port (R162). -/
def portLane (p : Port) : Lane := ⟨p.val / 2, by omega⟩

/-- The direction of a reader port's side (R162). -/
def portDir (p : Port) : Direction := if p.val % 2 = 0 then .entry else .exit

/-- The reader port of a side of a lane (R162). -/
def sidePort (k : Lane) (d : Direction) : Port :=
  match d with
  | .entry => ⟨2 * k.val, by omega⟩
  | .exit => ⟨2 * k.val + 1, by omega⟩

/-- The number of a lane, 1 to 6. -/
def laneNumber (k : Lane) : Nat := k.val + 1

/-- The number of a reader port, 1 to 12. -/
def portNumber (p : Port) : Nat := p.val + 1

/-- The six lanes, in order. -/
def allLanes : List Lane := [0, 1, 2, 3, 4, 5]

/-- An order of the six lanes made from a list: the lanes it names, each once, then the others in order (Log 8). -/
def fullOrder (order : List Lane) : List Lane := (order ++ allLanes).eraseDups

/-- The policy setting of a direction (R107). -/
def Policy.setting (p : Policy) (d : Direction) : Setting :=
  match d with
  | .entry => p.entry
  | .exit => p.exit

/-- One lane of the part. -/
def State.lane (s : State) (k : Lane) : LaneState := s.lanes.get k

/-- Replace one lane. -/
def State.setLane (s : State) (k : Lane) (l : LaneState) : State := { s with lanes := s.lanes.set k.val l k.isLt }

/-- Change one lane. -/
def State.modLane (s : State) (k : Lane) (f : LaneState → LaneState) : State := s.setLane k (f (s.lane k))

/-- One reader port. -/
def State.port (s : State) (p : Port) : ReaderPort := s.ports.get p

/-- Change one reader port. -/
def State.modPort (s : State) (p : Port) (f : ReaderPort → ReaderPort) : State :=
  { s with ports := s.ports.set p.val (f (s.port p)) p.isLt }

/-- One link. -/
def State.link (s : State) (l : Link) : LinkPort :=
  match l with
  | .site => s.site
  | .desk => s.desk

/-- Change one link. -/
def State.modLink (s : State) (l : Link) (f : LinkPort → LinkPort) : State :=
  match l with
  | .site => { s with site := f s.site }
  | .desk => { s with desk := f s.desk }

/-- Whether the Image Store is SAVING (R192). -/
def State.saving (s : State) : Bool := s.ims.saving.isSome

/-! ## Time -/

/-- The clock seconds, absent while the clock is not valid (R189). -/
def State.clock (s : State) : Option Nat :=
  if s.tmb.valid then some ((s.tmb.base + (s.tmb.ms - s.tmb.baseAt) / 1000) % 2 ^ 32) else none

/-- A millisecond count falls due when the count reaches it (R188). -/
def due (now deadline : Nat) : Bool := decide (deadline ≤ now)

/-- One millisecond passes: the count rises by 1 and stays at its largest value, since it never goes back (R188, Log 9). -/
def State.tick (s : State) : State :=
  { s with tmb := { s.tmb with ms := if s.tmb.ms < Config.maxMs then s.tmb.ms + 1 else s.tmb.ms } }

/-! ## Notices -/

/-- The kind of a notice (Table 10-3). -/
def NoticeBody.kind : NoticeBody → NoticeKind
  | .read _ => .read
  | .conclusion _ => .read
  | .referralOpened .. => .referral
  | .referralClosed .. => .referral
  | .passage _ => .passage
  | .crossing .. => .violation
  | .loiter .. => .violation
  | .overflow _ => .violation
  | .lost .. => .violation
  | .permitEnd .. => .permitEnd
  | .barrier .. => .barrier
  | .chainFault .. => .sensor
  | .chainRestored => .sensor
  | .beamStuck _ => .sensor
  | .beamCleared _ => .sensor
  | .reader .. => .reader
  | .lane .. => .lane
  | .storeDone .. => .store
  | .storeFailed .. => .store
  | .start .. => .start

/-- The route of a notice kind (R182). -/
def Routing.get (r : Routing) : NoticeKind → Route
  | .read => r.read
  | .referral => r.referral
  | .passage => r.passage
  | .violation => r.violation
  | .permitEnd => r.permitEnd
  | .barrier => r.barrier
  | .sensor => r.sensor
  | .reader => r.reader
  | .lane => r.lane
  | .store => r.store
  | .start => r.start

/-- Set the route of a notice kind (R182). -/
def Routing.put (r : Routing) (kind : NoticeKind) (x : Route) : Routing :=
  match kind with
  | .read => { r with read := x }
  | .referral => { r with referral := x }
  | .passage => { r with passage := x }
  | .violation => { r with violation := x }
  | .permitEnd => { r with permitEnd := x }
  | .barrier => { r with barrier := x }
  | .sensor => { r with sensor := x }
  | .reader => { r with reader := x }
  | .lane => { r with lane := x }
  | .store => { r with store := x }
  | .start => { r with start := x }

/-- Notice kinds in code order (Table 10-3). -/
def NoticeKind.all : List NoticeKind :=
  [.read, .referral, .passage, .violation, .permitEnd, .barrier, .sensor, .reader, .lane, .store, .start]

/-- Alarm-bearing kinds (Table 10-3). -/
def NoticeKind.alarmBearing : NoticeKind → Bool
  | .violation | .barrier | .reader | .lane => true
  | .read | .referral | .passage | .permitEnd | .sensor | .store | .start => false

/-- The route in force for a route written: REFERRAL is SITE, and NONE for an alarm-bearing kind is BOTH (R182, R187). -/
def correctedRoute (kind : NoticeKind) (x : Route) : Route :=
  if kind = .referral then .site else if kind.alarmBearing && decide (x = .nowhere) then .both else x

/-- The capacity of a link's notice queue (R183). -/
def queueCap : Link → Nat
  | .site => Config.siteQueueCap
  | .desk => Config.deskQueueCap

/-- Hand a notice to a queue: it goes to the tail, or is dropped and sets the overflow flag when the queue is full (R183). -/
def LinkPort.place (cap : Nat) (n : Notice) (l : LinkPort) : LinkPort :=
  if l.queue.length < cap then { l with queue := l.queue ++ [n] } else { l with overflow := true }

/-- Hand a notice to the queue of a link (R183). -/
def State.place (l : Link) (n : Notice) (s : State) : State := s.modLink l (LinkPort.place (queueCap l) n)

/-- A notice with its stamps (R181); lane number 0 is the device. -/
def State.stamp (s : State) (lane : Nat) (b : NoticeBody) : Notice :=
  { lane := lane, ms := s.tmb.ms, seconds := s.clock.getD 0, clockValid := s.tmb.valid, body := b }

/-- Post a notice: stamp it and place it in the queues its kind's route names (R181). -/
def State.post (lane : Nat) (b : NoticeBody) (s : State) : State :=
  match s.routing.get b.kind with
  | .nowhere => s
  | .site => s.place .site (s.stamp lane b)
  | .desk => s.place .desk (s.stamp lane b)
  | .both => (s.place .site (s.stamp lane b)).place .desk (s.stamp lane b)

/-- Post notices in order (R181). -/
def State.postAll (lane : Nat) (bs : List NoticeBody) (s : State) : State := bs.foldl (fun t b => t.post lane b) s

/-! ## Frames to readers and replies -/

/-- Hand a frame to a reader port's transmit list, or lose and count it when the list is full (R170). -/
def State.sendReader (p : Port) (f : ReaderFrame) (s : State) : State :=
  s.modPort p fun r =>
    if r.tx.length < Config.readerTxCap then { r with tx := r.tx ++ [f] } else { r with dropped := r.dropped + 1 }

/-- Place a reply at the tail of a link's transmit list (R176). -/
def State.reply (l : Link) (r : Reply) (s : State) : State := s.modLink l fun p => { p with tx := p.tx ++ [r] }

/-! ## The work of one event on one lane -/

/-- What an event on a lane reads besides the lane: the millisecond count, the clock seconds when valid, and the lane. -/
structure Env where
  now : Nat
  clock : Option Nat
  lane : Lane

/-- An event at work on a lane: the lane, the credential table (completions change records, R92) and the notices posted so far, in
posting order. -/
structure Work where
  lane : LaneState
  creds : List Cred
  out : List NoticeBody

/-- What an event on lane k reads. -/
def State.env (s : State) (k : Lane) : Env := { now := s.tmb.ms, clock := s.clock, lane := k }

/-- The work of an event on lane k as it begins. -/
def State.work (s : State) (k : Lane) : Work := { lane := s.lane k, creds := s.cst.creds, out := [] }

/-- Take up the work of an event on lane k: the lane, the credential table, and the notices posted in order. -/
def State.absorb (k : Lane) (w : Work) (s : State) : State :=
  State.postAll (laneNumber k) w.out { s.setLane k w.lane with cst := { s.cst with creds := w.creds } }

/-- Run an event on a lane and post its notices in order. -/
def State.runLane (k : Lane) (f : Env → Work → Work) (s : State) : State := s.absorb k (f (s.env k) (s.work k))

/-- Post a notice from within an event. -/
def Work.emit (b : NoticeBody) (w : Work) : Work := { w with out := w.out ++ [b] }

/-- Change the lane. -/
def Work.mod (f : LaneState → LaneState) (w : Work) : Work := { w with lane := f w.lane }

/-- Change the lane's Beam Scan Unit. -/
def LaneState.modBsu (f : Bsu → Bsu) (l : LaneState) : LaneState := { l with bsu := f l.bsu }

/-- Change the lane's Occupant Tracker. -/
def LaneState.modOt (f : Ot → Ot) (l : LaneState) : LaneState := { l with ot := f l.ot }

/-- Change the lane's Permit Queue. -/
def LaneState.modPq (f : Pq → Pq) (l : LaneState) : LaneState := { l with pq := f l.pq }

/-- Change the lane's Barrier Controller. -/
def LaneState.modBc (f : Bc → Bc) (l : LaneState) : LaneState := { l with bc := f l.bc }

/-- Change the lane's Lane Supervisor. -/
def LaneState.modLsv (f : Lsv → Lsv) (l : LaneState) : LaneState := { l with lsv := f l.lsv }

/-- Post a BARRIER notice with the state and reversal count as they stand (R85). -/
def Work.emitBarrier (e : BarrierEvent) (w : Work) : Work :=
  w.emit (.barrier e w.lane.bc.state w.lane.bc.reversals)

/-- Post a LANE notice with the mode and policy in force (R122). -/
def Work.emitLane (e : LaneEvent) (w : Work) : Work := w.emit (.lane e w.lane.lsv.mode w.lane.lsv.policy)

/-! ## Health and the alarm set -/

/-- The health of a lane (R108). -/
def Lsv.health (v : Lsv) : Health :=
  match v.sensorMark, v.barrierMark with
  | false, false => .ok
  | true, false => .sensor
  | false, true => .barrierFault
  | true, true => .sensorAndBarrier

/-- Run a part of an event that may change the marks, and post HEALTH when the health has changed (R108). -/
def Work.withHealth (f : Work → Work) (w : Work) : Work :=
  let w' := f w
  if w'.lane.lsv.health = w.lane.lsv.health then w' else w'.emitLane (.health w'.lane.lsv.health)

/-- One latched kind of the alarm set. -/
def AlarmSet.latched (a : AlarmSet) : LatchedKind → LatchedAlarm
  | .tailgate => a.tailgate
  | .intrusion => a.intrusion
  | .wrongWay => a.wrongWay
  | .loiter => a.loiter
  | .overflow => a.overflow
  | .tamper => a.tamper

/-- Replace one latched kind. -/
def AlarmSet.putLatched (a : AlarmSet) (k : LatchedKind) (x : LatchedAlarm) : AlarmSet :=
  match k with
  | .tailgate => { a with tailgate := x }
  | .intrusion => { a with intrusion := x }
  | .wrongWay => { a with wrongWay := x }
  | .loiter => { a with loiter := x }
  | .overflow => { a with overflow := x }
  | .tamper => { a with tamper := x }

/-- One condition kind of the alarm set. -/
def AlarmSet.condition (a : AlarmSet) : ConditionKind → ConditionAlarm
  | .jam => a.jam
  | .stall => a.stall
  | .sensor => a.sensor

/-- Replace one condition kind. -/
def AlarmSet.putCondition (a : AlarmSet) (k : ConditionKind) (x : ConditionAlarm) : AlarmSet :=
  match k with
  | .jam => { a with jam := x }
  | .stall => { a with stall := x }
  | .sensor => { a with sensor := x }

/-- The latched kinds in code order. -/
def LatchedKind.all : List LatchedKind := [.tailgate, .intrusion, .wrongWay, .loiter, .overflow, .tamper]

/-- The condition kinds in code order. -/
def ConditionKind.all : List ConditionKind := [.jam, .stall, .sensor]

/-- Raise a latched kind: set it, count the raise up to 255, and restart or stop its clear deadline (R96). -/
def LatchedAlarm.raised (now autoClear : Nat) (a : LatchedAlarm) : LatchedAlarm where
  set := true
  deadline := if autoClear = 0 then none else some (now + autoClear * 1000)
  raises := min 255 (a.raises + 1)

/-- Hand a latched kind to the Lane Supervisor (R96). -/
def LaneState.raise (now : Nat) (k : LatchedKind) (l : LaneState) : LaneState :=
  l.modLsv fun v =>
    { v with alarms := v.alarms.putLatched k ((v.alarms.latched k).raised now l.timing.autoClear) }

/-- A condition kind follows its cause: inactive clears the silenced flag (R97). -/
def ConditionAlarm.follow (active : Bool) (a : ConditionAlarm) : ConditionAlarm :=
  { active := active, silenced := a.silenced && active }

/-- Hand a condition kind's cause to the Lane Supervisor (R97). -/
def LaneState.setCondition (k : ConditionKind) (active : Bool) (l : LaneState) : LaneState :=
  l.modLsv fun v => { v with alarms := v.alarms.putCondition k ((v.alarms.condition k).follow active) }

/-- The Beam Scan Unit hands on the SENSOR condition: sensor mark and SENSOR condition kind (R13, R97, R108). -/
def LaneState.handSensor (l : LaneState) : LaneState :=
  (l.modLsv fun v => { v with sensorMark := l.bsu.causes.any }).setCondition .sensor l.bsu.causes.any

/-! ## Buzzer and indicators -/

/-- Whether the buzzer sounds (R100). -/
def Lsv.buzzing (v : Lsv) : Bool :=
  decide (v.mode ≠ .dark) &&
    (LatchedKind.all.any (fun k => (v.alarms.latched k).set) ||
      ConditionKind.all.any fun k => (v.alarms.condition k).active && !(v.alarms.condition k).silenced)

/-- Whether a side shows tailgate risk (R103). -/
def LaneState.sideRisk (l : LaneState) (d : Direction) : Bool :=
  match d with
  | .entry => l.lsv.riskLobby
  | .exit => l.lsv.riskSecure

/-- Whether a side has outstanding work (R104). -/
def sideWork (slots : List Slot) (l : LaneState) (p : Port) : Bool :=
  slots.any (fun x => x.reader == p) ||
    l.pq.permits.any fun x => decide (x.state = .awaitingEscort) && decide (x.reader = some p)

/-- The colour of a side indicator (Table 5-7). -/
def LaneState.colour (l : LaneState) (d : Direction) (work : Bool) : Colour :=
  if l.lsv.mode = .dark then .dark
  else if work || l.sideRisk d || l.lsv.pending.isSome then .amber
  else if l.lsv.mode = .service ∧ l.lsv.policy.setting d ≠ .barred ∧ l.lsv.health = .ok
      ∧ (l.pq.claim = none ∨ l.pq.claim = some d) then .green
  else .red

/-- The lane with its buzzer and indicators as R100 and R102 derive them. -/
def LaneState.withOutputs (slots : List Slot) (k : Lane) (l : LaneState) : LaneState :=
  l.modLsv fun v =>
    { v with
      buzzer := v.buzzing
      lobbyColour := l.colour .entry (sideWork slots l (sidePort k .entry))
      secureColour := l.colour .exit (sideWork slots l (sidePort k .exit)) }

/-- The buzzer and indicators of lane k follow the state an event on that lane has left (R100, R102). -/
def State.refresh (k : Lane) (s : State) : State := s.modLane k (LaneState.withOutputs s.rfu.slots k)

/-- Every lane's buzzer and indicators follow the state that an event on all lanes has left (R100, R102). -/
def State.refreshAll (s : State) : State := allLanes.foldl (fun t k => t.refresh k) s

/-! ## The serial flash -/

/-- A byte of the flash; an unlisted position reads hex FF (R190). -/
def Memory.read (a : Nat) : Memory → Byte
  | [] => 0xFF#8
  | (x, b) :: m => if x = a then b else Memory.read a m

/-- Put a byte at its place in the canonical list. -/
def Memory.put (a : Nat) (b : Byte) : Memory → Memory
  | [] => if b = 0xFF#8 then [] else [(a, b)]
  | (x, y) :: m =>
    if a < x then (if b = 0xFF#8 then (x, y) :: m else (a, b) :: (x, y) :: m)
    else if a = x then (if b = 0xFF#8 then m else (a, b) :: m)
    else (x, y) :: Memory.put a b m

/-- Write a byte of the flash; a position that does not exist is not written. -/
def Memory.write (a : Nat) (b : Byte) (m : Memory) : Memory := if a < Config.flashSize then m.put a b else m

/-- Write bytes from a position upward. -/
def Memory.writeBytes (a : Nat) : List Byte → Memory → Memory
  | [], m => m
  | b :: bs, m => Memory.writeBytes (a + 1) bs (m.write a b)

/-- Write single positions (Log 7). -/
def Memory.writeCells (cells : List Host.Cell) (m : Memory) : Memory := cells.foldl (fun n c => n.write c.1 c.2) m

/-- n bytes of the flash from a position upward. -/
def Memory.readBytes (m : Memory) (a n : Nat) : List Byte := (List.range' a n).map fun i => m.read i

/-- Erase the first n positions. -/
def Memory.eraseFirst (n : Nat) (m : Memory) : Memory := m.filter fun c => decide (n ≤ c.1)

/-- The canonical form: addresses strictly rising and below the flash's size, no entry equal to the erased byte. -/
def Memory.wf : Memory → Bool
  | [] => true
  | [(x, b)] => decide (x < Config.flashSize) && decide (b ≠ 0xFF#8)
  | (x, b) :: (y, c) :: m => decide (x < y) && decide (b ≠ 0xFF#8) && Memory.wf ((y, c) :: m)

end Sys2Proof.Machine
end

