-- ==== Sys2Proof/Machine/Tracks.lean ====
section
/-! DEFINITION. Positions along the lane and what follows from a track list alone: travel coordinates and the guard zone (R3, R4, R21),
front-to-rear order and the members of a merge (R21). -/

namespace Sys2Proof.Machine

/-! ## Ordering -/

/-- Put an element before the first one that does not come strictly ahead of it. -/
def insertBy {α : Type} (ahead : α → α → Bool) (x : α) : List α → List α
  | [] => [x]
  | y :: ys => if ahead y x then y :: insertBy ahead x ys else x :: y :: ys

/-- Sort a list by a strict order, keeping the order of elements that it does not part. -/
def sortBy {α : Type} (ahead : α → α → Bool) (xs : List α) : List α := xs.foldr (insertBy ahead) []

/-! ## Positions (R3, R4, R21) -/

/-- F_d, the barrier index in travel coordinates (R3). -/
def Geometry.fd (g : Geometry) : Direction → Nat
  | .entry => g.f
  | .exit => g.nb - g.f

/-- x_F, the barrier position in travel coordinates (R3). -/
def Geometry.xf (g : Geometry) (d : Direction) : Nat := g.fd d * g.p

/-- The highest travel index of an extent (R21). -/
def Geometry.uhi (g : Geometry) (d : Direction) (e : Extent) : Nat :=
  match d with
  | .entry => e.hi
  | .exit => g.nb - 1 - e.lo

/-- The lowest travel index of an extent (R21). -/
def Geometry.ulo (g : Geometry) (d : Direction) (e : Extent) : Nat :=
  match d with
  | .entry => e.lo
  | .exit => g.nb - 1 - e.hi

/-- The lead of an extent (R3, R21). -/
def Geometry.lead (g : Geometry) (d : Direction) (e : Extent) : Nat := (g.uhi d e + 1) * g.p

/-- The trail of an extent (R3, R21). -/
def Geometry.trail (g : Geometry) (d : Direction) (e : Extent) : Nat := g.ulo d e * g.p

/-- Whether a lane beam lies in the guard zone, F − SZ to F + SZ − 1 (R4). -/
def Geometry.inGuard (g : Geometry) (j : Nat) : Bool := decide (g.f ≤ j + g.sz) && decide (j < g.f + g.sz)

/-- Whether an extent touches lane beam NB − 1. -/
def Geometry.touchesTop (g : Geometry) (e : Extent) : Bool := decide (e.hi + 1 = g.nb)

/-- Whether an extent touches the start end of a direction (R21). -/
def Geometry.touchesStart (g : Geometry) (d : Direction) (e : Extent) : Bool :=
  match d with
  | .entry => decide (e.lo = 0)
  | .exit => g.touchesTop e

/-- Whether an extent touches the far end of a direction (R21). -/
def Geometry.touchesFar (g : Geometry) (d : Direction) (e : Extent) : Bool :=
  match d with
  | .entry => g.touchesTop e
  | .exit => decide (e.lo = 0)

/-! ## Settings in force -/

/-- The settings with which the tracker takes a frame: those set, but for the frame period, which is the one in force (Table 1-3, R34). -/
def LaneState.frameTiming (l : LaneState) : Timing := { l.timing with tf := l.bsu.period }

/-! ## Front to rear (R21) -/

/-- Items that stand for tracks of one direction, in front-to-rear order: descending lead, and for equal leads the later in the list
first for ENTRY, the earlier for EXIT (R21). -/
def frontToRear {α : Type} (extent : α → Extent) (g : Geometry) (d : Direction) (xs : List α) : List α :=
  sortBy (fun a b => decide (g.lead d (extent b) < g.lead d (extent a)))
    (match d with
      | .entry => xs.reverse
      | .exit => xs)

/-- Whether another track is a MERGED track of direction d on the same extent. -/
def sameMerge (e : Extent) (d : Direction) (u : Track) : Bool := u.merged && decide (u.ext = e) && decide (u.dir = some d)

/-- Whether the track at place i of a track list is a rear member of a merge (R21): a MERGED track of its direction on its extent
stands ahead of it. -/
def isRear (ts : List Track) (i : Nat) (t : Track) : Bool :=
  match t.dir with
  | none => false
  | some .entry => t.merged && (ts.drop (i + 1)).any (sameMerge t.ext .entry)
  | some .exit => t.merged && (ts.take i).any (sameMerge t.ext .exit)

/-- A track list with, for each track, whether it is a rear member. -/
def withRear (ts : List Track) : List (Track × Bool) := ts.zipIdx.map fun x => (x.1, isRear ts x.2 x.1)

/-- Whether a track is approaching (R78): direction known, not crossed, not bound. -/
def Track.approaching (t : Track) : Bool := t.dir.isSome && !t.crossed && t.bound.isNone

end Sys2Proof.Machine
end

