-- ==== Sys2Proof/Machine/BeamScan.lean ====
section
/-! DEFINITION. The Beam Scan Unit (Chapter 1): mapping chain answers onto lane beams, the vote filter, the stuck test, the chain state,
the SENSOR condition, the frame result, the frame timer, and the geometry. -/

namespace Sys2Proof.Machine

/-! ## The chain read (R1, R2, R9) -/

/-- The four answers of a bar, in chain order (R1). -/
def BarAnswer.beams (b : BarAnswer) : List Bool := [b.beam0, b.beam1, b.beam2, b.beam3]

/-- The raw answers of the lane beams, in lane beam order, from the answers of as many bars as the setting says: dummy beams dropped,
orientation applied (R1, R2, Log 14). -/
def Geometry.laneAnswers (g : Geometry) (bars : List BarAnswer) : List Bool :=
  let chain := (bars.flatMap BarAnswer.beams).take g.nb
  match g.orientation with
  | .normal => chain
  | .reversed => chain.reverse

/-- The answers of the bars that answered, in chain order (R9). -/
def answering (chain : List (Option BarAnswer)) : List BarAnswer := chain.filterMap id

/-- Whether a frame is faulty (R9). -/
def Geometry.faulty (g : Geometry) (chain : List (Option BarAnswer)) : Bool :=
  decide ((answering chain).length ≠ g.bars) || (answering chain).any fun b => b.emitterFault

/-- Whether a bar answered and reports EMITTER_FAULT (R9). -/
def barFaults (b : Option BarAnswer) : Bool := (b.map (·.emitterFault)).getD false

/-- The numbers, along the whole chain from 0, of the answering bars that report EMITTER_FAULT (R1, R10, Log 14), ascending (Log 58). -/
def faultingBars (chain : List (Option BarAnswer)) : List Nat :=
  chain.zipIdx.filterMap fun x => if barFaults x.1 then some x.2 else none

/-! ## Vote filter and stuck test (R11, R12) -/

/-- The vote filter on one beam (R11). -/
def Beam.vote (v : Nat) (raw : Bool) (b : Beam) : Beam :=
  if raw = b.occluded then { b with counter := 0 }
  else if v ≤ b.counter + 1 then { b with occluded := raw, counter := 0 }
  else { b with counter := b.counter + 1 }

/-- The stuck timer of one beam after the vote filter (R12). -/
def Beam.timed (now : Nat) (b : Beam) : Beam :=
  { b with timer := if b.occluded then some (b.timer.getD now) else none }

/-- Whether an occluded, unmarked beam has reached the stuck time (R12). -/
def Beam.overdue (now stuckTime : Nat) (b : Beam) : Bool :=
  b.occluded && !b.stuck && decide (stuckTime * 1000 ≤ now - b.timer.getD now)

/-- The stuck test on one beam after the vote filter (R12). -/
def Beam.stuckTest (now stuckTime : Nat) (b : Beam) : Beam :=
  let t := b.timed now
  { t with stuck := t.occluded && (t.stuck || t.overdue now stuckTime) }

/-- The notice of a beam whose mark has changed (R12). -/
def stuckNotice (j : Nat) (before after : Beam) : List NoticeBody :=
  match before.stuck, after.stuck with
  | false, true => [.beamStuck j]
  | true, false => [.beamCleared j]
  | false, false => []
  | true, true => []

/-- All lane beams after a valid frame (R11, R12). -/
def filterBeams (now : Nat) (t : Timing) (raw : List Bool) (beams : List Beam) : List Beam :=
  List.zipWith (fun r b => (Beam.vote t.v r b).stuckTest now t.stuckTime) raw beams

/-- The SENSOR notices of a valid frame's stuck test, in lane beam order (R12). -/
def stuckNotices (before after : List Beam) : List NoticeBody :=
  ((before.zip after).zipIdx.map fun x => stuckNotice x.2 x.1.1 x.1.2).flatten

/-! ## Frame result and SENSOR condition (R13, R14) -/

/-- The filtered vector: occluded and not stuck (R14). -/
def vectorOf (beams : List Beam) : List Bool := beams.map fun b => b.occluded && !b.stuck

/-- Whether any guard zone beam of a vector is occluded (R4, R14). -/
def Geometry.guardHit (g : Geometry) (v : List Bool) : Bool := v.zipIdx.any fun x => x.1 && g.inGuard x.2

/-- The frame result of a valid frame (R14). -/
def Geometry.frameResult (g : Geometry) (beams : List Beam) : FrameResult :=
  { valid := true, vector := vectorOf beams, guardOccupied := g.guardHit (vectorOf beams) }

/-- The lane beam indices of the stuck beams, ascending (R15). -/
def stuckBeams (beams : List Beam) : List Nat := beams.zipIdx.filterMap fun x => if x.1.stuck then some x.2 else none

/-- The causes of the SENSOR condition (R13). -/
def sensorCauses (g : Geometry) (limit : Nat) (b : Bsu) : SensorCauses where
  chainFault := b.chainFault
  guardStuck := (stuckBeams b.beams).any g.inGuard
  overLimit := decide (limit < (stuckBeams b.beams).length)

/-- The SENSOR condition as it now is (R13). -/
def LaneState.withCauses (l : LaneState) : LaneState :=
  l.modBsu fun b => { b with causes := sensorCauses l.geo l.timing.stuckLimit b }

/-- Judge the SENSOR condition and hand it on; the Lane Supervisor reports a change of health (R13, R97, R108). -/
def judgeSensor (w : Work) : Work := w.withHealth fun v => v.mod fun l => l.withCauses.handSensor

/-! ## Frame completion (R9, R10) -/

/-- A faulty frame: chain state FAULT, the frame result marked invalid (R9, R10, R14). -/
def faultyFrame (chain : List (Option BarAnswer)) (w : Work) : Work :=
  let updated := w.mod fun l => l.modBsu fun b =>
    { b with
      chainFault := true
      answered := (answering chain).length
      faulting := faultingBars chain
      result := { b.result with valid := false }
      read := .idle }
  if w.lane.bsu.chainFault then updated
  else updated.emit (.chainFault (answering chain).length w.lane.geo.bars (faultingBars chain))

/-- A valid frame: vote filter, stuck test, chain state OK, frame result (R9 to R12, R14). -/
def validFrame (e : Env) (chain : List (Option BarAnswer)) (w : Work) : Work :=
  let beams := filterBeams e.now w.lane.timing (w.lane.geo.laneAnswers (answering chain)) w.lane.bsu.beams
  let updated := w.mod fun l => l.modBsu fun b =>
    { b with
      beams := beams
      chainFault := false
      answered := (answering chain).length
      faulting := []
      result := l.geo.frameResult beams
      read := .idle }
  let marked := { updated with out := updated.out ++ stuckNotices w.lane.bsu.beams beams }
  if w.lane.bsu.chainFault then marked.emit .chainRestored else marked

/-- The BSU's frame event for a read that is not discarded; then the SENSOR condition is judged (R9, R13). -/
def scanFrame (e : Env) (chain : List (Option BarAnswer)) (w : Work) : Work :=
  judgeSensor (if w.lane.geo.faulty chain then faultyFrame chain w else validFrame e chain w)

/-- The frame timer reaches its end: it restarts with the T_f set, which comes into force, and a chain read begins (R8, R9, Table 1-3,
Log 13). -/
def LaneState.frameExpiry (now : Nat) (l : LaneState) : LaneState :=
  if due now l.bsu.frameTimer then
    l.modBsu fun b => { b with frameTimer := b.frameTimer + l.timing.tf, period := l.timing.tf, read := .reading }
  else l

/-! ## Geometry (R6) and lane reset (R17) -/

/-- Whether a geometry is valid, its F resolved (R6). -/
def Geometry.ok (g : Geometry) : Bool :=
  decide (1 ≤ g.bars ∧ g.bars ≤ 8) && decide (4 ≤ g.nb ∧ g.nb ≤ 32) && decide (4 * g.bars ≤ g.nb + 3 ∧ g.nb ≤ 4 * g.bars)
    && decide (20 ≤ g.p ∧ g.p ≤ 150) && decide (2 ≤ g.f ∧ g.f + 2 ≤ g.nb) && decide (1 ≤ g.sz ∧ g.sz ≤ 4)
    && decide (g.sz + 1 ≤ g.f) && decide (g.f + g.sz + 1 ≤ g.nb)

/-- Filtered states, counters, stuck timers and marks cleared, the frame result invalid (R6, R17). -/
def Bsu.clearBeams (nb : Nat) (b : Bsu) : Bsu := { b with beams := List.replicate nb .clear, result := .reset nb }

/-- A chain read in progress is marked for discard (R6). -/
def ChainRead.discard : ChainRead → ChainRead
  | .idle => .idle
  | .reading => .discarding
  | .discarding => .discarding

/-- Apply a valid geometry (R6). -/
def LaneState.applyGeometry (g : Geometry) (l : LaneState) : LaneState :=
  let cleared := l.modBsu fun b => { b.clearBeams g.nb with read := b.read.discard }
  { cleared with geo := g, ot := { cleared.ot with shadows := [] } }

/-- A lane reset acts on the Beam Scan Unit: beams cleared, the SENSOR condition judged again, handed on with no HEALTH notice (R17,
R121). -/
def LaneState.resetScan (l : LaneState) : LaneState :=
  (l.modBsu (Bsu.clearBeams l.geo.nb)).withCauses.handSensor

end Sys2Proof.Machine
end

