-- ==== Sys2Proof/Machine/Credentials.lean ====
section
/-! DEFINITION. The credential table and the class table (Chapter 7): lookup, insertion and removal, presence, the judgement of
conditions and validity windows, and the two record layouts (Tables 12-7 and 12-8). -/

namespace Sys2Proof.Machine

/-! ## The tables (R125 to R128) -/

/-- The record with a number (R126). -/
def findCred (n : Nat) (cs : List Cred) : Option Cred := cs.find? fun c => c.number == n

/-- Place a record by its number, in place of the one that has it (R126, R143). -/
def insertCred (c : Cred) : List Cred → List Cred
  | [] => [c]
  | x :: xs =>
    if x.number < c.number then x :: insertCred c xs
    else if x.number = c.number then c :: xs
    else c :: x :: xs

/-- Remove the record with a number (R144). -/
def dropCred (n : Nat) (cs : List Cred) : List Cred := cs.filter fun c => decide (c.number ≠ n)

/-- Whether records stand in strictly ascending order of number (R126). -/
def ascending : List Cred → Bool
  | [] => true
  | [_] => true
  | x :: y :: cs => decide (x.number < y.number) && ascending (y :: cs)

/-- One class record. -/
def Cst.cls (c : Cst) (k : ClassNo) : ClassRec := c.classes.get k

/-! ## Conditions and validity (R129, R130) -/

/-- The minute of the day (R129). -/
def minuteOfDay (seconds : Nat) : Nat := seconds % 86400 / 60

/-- Whether a minute lies in a day window (R129). -/
def inWindow (first last minute : Nat) : Bool :=
  if first ≤ last then decide (first ≤ minute) && decide (minute ≤ last) else decide (first ≤ minute) || decide (minute ≤ last)

/-- Whether the condition of a class holds (R129). -/
def ClassRec.holds (c : ClassRec) (clock : Option Nat) (deskKey : Bool) : Bool :=
  match c.condition with
  | .always => true
  | .never => false
  | .dayWindow =>
    match clock with
    | none => false
    | some t => inWindow c.windowStart c.windowEnd (minuteOfDay t)
  | .deskKey => deskKey
  | .noDeskKey => !deskKey
  | .clockSet => clock.isSome

/-- Whether a record has a validity window (R125). -/
def Cred.hasWindow (c : Cred) : Bool := c.validFrom.isSome || c.validUntil.isSome

/-- Whether a credential is not yet valid at a clock time (R130). -/
def Cred.notYet (c : Cred) (t : Nat) : Bool :=
  match c.validFrom with
  | none => false
  | some f => decide (t < f)

/-- Whether a credential is no longer valid at a clock time (R130). -/
def Cred.expired (c : Cred) (t : Nat) : Bool :=
  match c.validUntil with
  | none => false
  | some u => decide (u < t)

/-- Whether a read in a direction is a passback read (R136). -/
def Presence.passback (p : Presence) (d : Direction) : Bool :=
  match p, d with
  | .inside, .entry => true
  | .outside, .exit => true
  | .inside, .exit => false
  | .outside, .entry => false
  | .unknown, .entry => false
  | .unknown, .exit => false

/-! ## Layouts (R203) -/

/-- The packed credential record, 27 bytes (Table 12-8). -/
def Cred.packed (c : Cred) : List Byte :=
  fld 8 c.number ++ fld 1 c.cls.val ++ fld 1 c.state.code ++ fld 1 c.group ++ fld 1 (c.uses.getD 0) ++ fld 1 c.presence.code
    ++ fld 1 ((c.lastLane.map laneNumber).getD 0) ++ fld 1 c.optionalFlags ++ fld 4 (c.validFrom.getD 0)
    ++ fld 4 (c.validUntil.getD 0) ++ fld 4 (c.lastTime.getD 0)

/-- The fields of a record that CRED_PUT sets pass its tests (R143). -/
def Cred.ok (c : Cred) : Bool :=
  decide (1 ≤ c.number) && decide (1 ≤ c.group ∧ c.group ≤ 8)
    && (match c.uses with
      | none => true
      | some u => decide (1 ≤ u ∧ u ≤ 255))
    && (match c.validFrom, c.validUntil with
      | some f, some u => decide (f ≤ u)
      | _, _ => true)

/-- The last lane that a packed record's byte gives, or none when the byte is no lane and not 0 (Table 12-8, R191). -/
def lastLaneOf (n : Nat) : Option (Option Lane) := if n = 0 then some none else (laneOfByte n).map some

/-- A field marked by a bit, when the bit is set. -/
def fieldIf (present : Bool) (n : Nat) : Option Nat := if present then some n else none

/-- The record that 27 bytes hold, when its codes are codes and its flags assigned (R191, R200, Table 12-8). The bytes of a field that offset
14 marks absent are not tested: a choice of the model (Log 56). -/
def unpackCred (b : List Byte) : Option Cred :=
  match classOfByte (byteAt b 8), CredState.ofCode (byteAt b 9), Presence.ofCode (byteAt b 12), lastLaneOf (byteAt b 13) with
  | some cls, some state, some presence, some lastLane =>
    if byteAt b 14 < 8 then
      let c : Cred :=
        { number := natAt b 0 8
          cls := cls
          state := state
          validFrom := fieldIf (bitSet (byteAt b 14) 0) (natAt b 15 4)
          validUntil := fieldIf (bitSet (byteAt b 14) 1) (natAt b 19 4)
          uses := fieldIf (decide (byteAt b 11 ≠ 0)) (byteAt b 11)
          group := byteAt b 10
          presence := presence
          lastTime := fieldIf (bitSet (byteAt b 14) 2) (natAt b 23 4)
          lastLane := lastLane }
      if c.ok then some c else none
    else none
  | _, _, _, _ => none

/-- The class record, 10 bytes (Table 12-7). -/
def ClassRec.bytes (c : ClassRec) : List Byte :=
  fld 2 c.mask.toNat ++ fld 1 c.condition.code ++ fld 2 c.windowStart ++ fld 2 c.windowEnd ++ fld 1 c.passback.code
    ++ fld 1 c.flags ++ fld 1 c.fallback.code

/-- The class record that 10 bytes hold, when CLASS_SET would take it (R146, R191, R200). -/
def classOfBytes (b : List Byte) : Option ClassRec :=
  match Condition.ofCode (byteAt b 2), Passback.ofCode (byteAt b 7), Fallback.ofCode (byteAt b 9) with
  | some condition, some passback, some fallback =>
    if natAt b 0 2 < 4096 ∧ natAt b 3 2 ≤ 1439 ∧ natAt b 5 2 ≤ 1439 ∧ byteAt b 8 < 16 then
      some
        { mask := BitVec.ofNat 12 (natAt b 0 2)
          condition := condition
          windowStart := natAt b 3 2
          windowEnd := natAt b 5 2
          passback := passback
          escort := bitSet (byteAt b 8) 0
          needsEscort := bitSet (byteAt b 8) 1
          lockdownPass := bitSet (byteAt b 8) 2
          alwaysRefer := bitSet (byteAt b 8) 3
          fallback := fallback }
    else none
  | _, _, _ => none

end Sys2Proof.Machine
end

