-- ==== Sys2Proof/Machine/Layouts.lean ====
section
/-! DEFINITION. Byte layouts (Chapter 12): the settings of a lane, the routing table, notice records (R201), link frames (Table 12-2) and
reader frames (Table 12-6); and the ranges and clamps of LANE_TIMING (R178, R180). Sizes that R200 and R201 leave open are those of
Log 21. -/

namespace Sys2Proof.Machine

/-- An enumeration, flag, level or number in one byte. -/
def b1 (n : Nat) : List Byte := fld 1 n

/-- A field that may be absent, in w bytes behind a presence byte (R200). -/
def optNum (w : Nat) (o : Option Nat) : List Byte := optField (o.map (fld w))

/-! ## Settings of a lane (Table 12-7) -/

/-- The six geometry settings, offsets 0 to 5 of the lane settings block. -/
def Geometry.bytes (g : Geometry) : List Byte := b1 g.bars ++ b1 g.nb ++ b1 g.orientation.code ++ b1 g.p ++ b1 g.f ++ b1 g.sz

/-- The four timing settings of the Beam Scan Unit, offsets 6 to 10. -/
def Timing.scanBytes (t : Timing) : List Byte := b1 t.tf ++ b1 t.v ++ fld 2 t.stuckTime ++ b1 t.stuckLimit

/-- The three settings of the Permit Queue, offsets 15 to 17. -/
def Timing.queueBytes (t : Timing) : List Byte := b1 t.grantTime ++ b1 t.escortWindow ++ flagByte t.wide

/-- The seven settings of the Barrier Controller, offsets 18 to 29, the fault posture as set (in LANE_STATUS: Log 50). -/
def Timing.barrierBytes (t : Timing) : List Byte :=
  fld 2 t.tc ++ fld 2 t.topen ++ fld 2 t.tm ++ fld 2 t.vFloor ++ fld 2 t.vNom ++ b1 t.jamHold ++ b1 t.posture.code

/-- The twenty-three timing settings, offsets 6 to 36 of the lane settings block. -/
def Timing.bytes (t : Timing) : List Byte :=
  t.scanBytes ++ (b1 t.br ++ b1 t.k ++ b1 t.c ++ b1 t.loiter) ++ t.queueBytes ++ t.barrierBytes
    ++ (fld 2 t.autoClear ++ b1 t.unknownFallback.code ++ fld 2 t.referralTimeout ++ b1 t.retryLimit ++ b1 t.silenceTime)

/-- A policy, entry setting first. -/
def Policy.bytes (p : Policy) : List Byte := b1 p.entry.code ++ b1 p.exit.code

/-- The lane settings block, 40 bytes. -/
def LaneState.settings (l : LaneState) : List Byte :=
  l.geo.bytes ++ l.timing.bytes ++ b1 l.lsv.startMode.code ++ l.lsv.startPolicy.bytes

/-- The routing table, one route per notice kind in kind-code order. -/
def Routing.bytes (r : Routing) : List Byte := NoticeKind.all.flatMap fun k => b1 (r.get k).code

/-- The geometry that six bytes give, F as written; none when the orientation is no code (R6, R200). -/
def geometryOfBytes (b : List Byte) : Option Geometry :=
  (Orientation.ofCode (byteAt b 2)).map fun o =>
    { bars := byteAt b 0, nb := byteAt b 1, orientation := o, p := byteAt b 3, f := byteAt b 4, sz := byteAt b 5 }

/-- A requested geometry with its F resolved: 0 stands for NB ÷ 2 (R6). -/
def Geometry.resolved (g : Geometry) : Geometry := { g with f := if g.f = 0 then g.nb / 2 else g.f }

/-- A flag byte of 0 or 1. -/
def flagOf : Nat → Option Bool
  | 0 => some false
  | 1 => some true
  | _ => none

/-- The timing settings that 31 bytes give, as written; none when WIDE, the fault posture or the unknown fallback is none of its two
values (R180). -/
def timingOfBytes (b : List Byte) : Option Timing :=
  match flagOf (byteAt b 11), Posture.ofCode (byteAt b 23), Fallback.ofCode (byteAt b 26) with
  | some wide, some posture, some fallback =>
    some
      { tf := byteAt b 0
        v := byteAt b 1
        stuckTime := natAt b 2 2
        stuckLimit := byteAt b 4
        br := byteAt b 5
        k := byteAt b 6
        c := byteAt b 7
        loiter := byteAt b 8
        grantTime := byteAt b 9
        escortWindow := byteAt b 10
        wide := wide
        tc := natAt b 12 2
        topen := natAt b 14 2
        tm := natAt b 16 2
        vFloor := natAt b 18 2
        vNom := natAt b 20 2
        jamHold := byteAt b 22
        posture := posture
        autoClear := natAt b 24 2
        unknownFallback := fallback
        referralTimeout := natAt b 27 2
        retryLimit := byteAt b 29
        silenceTime := byteAt b 30 }
  | _, _, _ => none

/-- The auto-clear setting brought into range; 0 keeps its own meaning (R98, R178). -/
def clampAutoClear (n : Nat) : Nat := if n = 0 then 0 else clamp 5 300 n

/-- Timing settings brought into their ranges (R7, R19, R49, R69, R98, R150, R166, R178). -/
def Timing.clamped (t : Timing) : Timing :=
  { t with
    tf := clamp 5 50 t.tf
    v := clamp 1 4 t.v
    stuckTime := clamp 10 600 t.stuckTime
    stuckLimit := clamp 0 4 t.stuckLimit
    br := clamp 0 2 t.br
    k := clamp 2 16 t.k
    c := clamp 1 8 t.c
    loiter := clamp 10 120 t.loiter
    grantTime := clamp 3 30 t.grantTime
    escortWindow := clamp 5 60 t.escortWindow
    tc := clamp 200 1500 t.tc
    topen := clamp 200 1500 t.topen
    tm := clamp 0 500 t.tm
    vFloor := clamp 100 1000 t.vFloor
    vNom := clamp 600 1800 t.vNom
    jamHold := clamp 2 30 t.jamHold
    autoClear := clampAutoClear t.autoClear
    referralTimeout := clamp 300 5000 t.referralTimeout
    retryLimit := clamp 0 4 t.retryLimit
    silenceTime := clamp 1 10 t.silenceTime }

/-! ## Notice records (R201) -/

/-- An extent, lo then hi. -/
def Extent.bytes (e : Extent) : List Byte := b1 e.lo ++ b1 e.hi

/-- A class that may be absent. -/
def clsBytes (c : Option ClassNo) : List Byte := optNum 1 (c.map Fin.val)

/-- A reader port that may be absent. -/
def readerBytes (p : Option Port) : List Byte := optNum 1 (p.map portNumber)

/-- What a READ notice says of an append (R140). -/
def AppendInfo.bytes (a : AppendInfo) : List Byte := b1 a.number ++ b1 a.state.code ++ fld 4 a.allowance ++ flagByte a.soft

/-- What a READ notice of a conclusion says of an append (R160). -/
def AppendInfo.shortBytes (a : AppendInfo) : List Byte := b1 a.number ++ b1 a.state.code ++ fld 4 a.allowance

/-- The port, its side, the credential number, the class, the verdict and the reason, as R140 and R160 both begin. -/
def readHead (p : Port) (n : Nat) (c : Option ClassNo) (v : Verdict) (r : Reason) : List Byte :=
  b1 (portNumber p) ++ b1 (dirCode (portDir p)) ++ fld 8 n ++ clsBytes c ++ b1 v.code ++ b1 r.code

/-- The body of a READ notice of the read decision (R140). The fallback flag is at once the presence byte of its cause: a choice of the
model (Log 46). -/
def ReadBody.bytes (b : ReadBody) : List Byte :=
  readHead b.reader b.number b.cls b.verdict b.reason ++ optField (b.append.map AppendInfo.bytes)
    ++ optField (b.referral.map fun x => b1 x.1 ++ b1 x.2.code) ++ optNum 1 (b.fallback.map FallbackCause.code) ++ b1 b.step

/-- The body of a READ notice of a conclusion (R160): settlement DECIDED 1 or TIMEOUT 2, fallback cause TIMEOUT 3, the fallback flag at
once its presence byte (Log 46). -/
def ConclusionBody.bytes (b : ConclusionBody) : List Byte :=
  readHead b.reader b.number b.cls b.verdict b.reason ++ b1 b.tag ++ b1 b.referralReason.code
    ++ b1 (if b.decidedBy.isSome then 1 else 2) ++ optNum 1 (b.decidedBy.map linkCode)
    ++ optNum 1 (if b.decidedBy.isSome then none else some 3) ++ optField (b.append.map AppendInfo.shortBytes) ++ b1 b.step

/-- The body of a PASSAGE notice (Table 5-3). -/
def PassageBody.bytes (b : PassageBody) : List Byte :=
  b1 b.track ++ b1 b.ended.code ++ b1 (dirCode b.dir) ++ optNum 1 (b.copy.map (·.number))
    ++ b1 ((b.copy.map fun c => c.origin.code).getD 0) ++ optNum 8 (b.copy.bind (·.credential)) ++ clsBytes (b.copy.bind (·.cls))
    ++ readerBytes (b.copy.bind (·.reader)) ++ fld 4 b.duration ++ b1 b.flags ++ b1 b.record.code

/-- The code of a BARRIER event, in the order of Table 4-7. -/
def BarrierEvent.code : BarrierEvent → Nat
  | .stalled _ => 1
  | .recovered => 2
  | .reversed _ => 3
  | .jam => 4
  | .jamCleared => 5
  | .positionUnknown _ _ => 6

/-- The further fields of a BARRIER event (Table 4-7). -/
def BarrierEvent.fields : BarrierEvent → List Byte
  | .stalled m => b1 m.code
  | .recovered => []
  | .reversed c => b1 c.code
  | .jam => []
  | .jamCleared => []
  | .positionUnknown o x => flagByte o ++ flagByte x

/-- The code of a READER event, in the order of Table 9-5. -/
def ReaderEvent.code : ReaderEvent → Nat
  | .present => 1
  | .absent _ => 2
  | .tamper _ => 3
  | .tamperCleared => 4
  | .readError _ => 5

/-- The further fields of a READER event (Table 9-5). -/
def ReaderEvent.fields : ReaderEvent → List Byte
  | .present => []
  | .absent left => b1 left.code
  | .tamper left => b1 left.code
  | .tamperCleared => []
  | .readError n => fld 4 n

/-- The code of a LANE event, in the order of Table 6-3. -/
def LaneEvent.code : LaneEvent → Nat
  | .modeApplied _ _ => 1
  | .modePending _ _ _ => 2
  | .pendingDiscarded _ _ _ => 3
  | .health _ => 4
  | .holdSet _ _ => 5
  | .holdReleased => 6
  | .holdExpired => 7
  | .reset _ _ => 8
  | .alarmsAutoCleared _ => 9
  | .alarmsAcked _ _ _ => 9

/-- The further fields of a LANE event (Table 6-3, R98, R99). -/
def LaneEvent.fields : LaneEvent → List Byte
  | .modeApplied cause link => b1 cause.code ++ optNum 1 (link.map linkCode)
  | .modePending m p replaced => b1 m.code ++ p.bytes ++ flagByte replaced
  | .pendingDiscarded m p cause => b1 m.code ++ p.bytes ++ b1 cause.code
  | .health h => b1 h.code
  | .holdSet minutes renewed => b1 minutes ++ flagByte renewed
  | .holdReleased => []
  | .holdExpired => []
  | .reset b h => b1 b.code ++ b1 h.code
  | .alarmsAutoCleared k => b1 (latchedCode k) ++ b1 1
  | .alarmsAcked cleared silenced link =>
    listField (cleared.map fun k => b1 (latchedCode k)) ++ listField (silenced.map fun k => b1 k.code) ++ b1 2
      ++ b1 (linkCode link)

/-- The body of a PERMIT_END notice (R64). -/
def permitEndBytes (p : Permit) (e : PermitEnd) : List Byte :=
  b1 p.number ++ b1 (dirCode p.dir) ++ b1 p.origin.code ++ optNum 8 p.credential ++ clsBytes p.cls ++ readerBytes p.reader
    ++ fld 4 p.allowance ++ fld 4 p.used ++ b1 e.code

/-- The body of a notice (R201). Table 12-1 has no code for the side of a READER notice (R171): the model writes the code of the side's
direction, lobby 1 and secure 2 (Log 43). -/
def NoticeBody.bytes : NoticeBody → List Byte
  | .read b => b.bytes
  | .conclusion b => b.bytes
  | .referralOpened tag p n c r timeout =>
    b1 1 ++ b1 tag ++ b1 (portNumber p) ++ b1 (dirCode (portDir p)) ++ fld 8 n ++ clsBytes c ++ b1 r.code ++ fld 4 timeout
  | .referralClosed tag p n cause => b1 2 ++ b1 tag ++ b1 (portNumber p) ++ fld 8 n ++ b1 cause.code
  | .passage b => b.bytes
  | .crossing k t d e b m => b1 k.code ++ b1 t ++ b1 (dirCode d) ++ e.bytes ++ b1 b.code ++ b1 m.code
  | .loiter t d e age => b1 4 ++ b1 t ++ b1 (optDirCode d) ++ e.bytes ++ fld 4 age
  | .overflow es => b1 5 ++ listField (es.map Extent.bytes)
  | .lost t d e cause n => b1 6 ++ b1 t ++ b1 (optDirCode d) ++ e.bytes ++ b1 cause.code ++ optNum 8 n
  | .permitEnd p e => permitEndBytes p e
  | .barrier e b n => b1 e.code ++ b1 b.code ++ fld 4 n ++ e.fields
  | .chainFault answered bars faulting => b1 1 ++ fld 4 answered ++ b1 bars ++ listField (faulting.map b1)
  | .chainRestored => b1 2
  | .beamStuck j => b1 3 ++ b1 j
  | .beamCleared j => b1 4 ++ b1 j
  | .reader p e st => b1 e.code ++ b1 (portNumber p) ++ b1 (dirCode (portDir p)) ++ b1 st.code ++ e.fields
  | .lane e m p => b1 e.code ++ b1 m.code ++ p.bytes ++ e.fields
  | .storeDone n d => b1 1 ++ fld 4 n ++ fld 4 d
  | .storeFailed c st n => b1 2 ++ b1 c.code ++ b1 st.code ++ fld 4 n
  | .start r c f n unit egress => b1 r.code ++ b1 (resetCauseCode c) ++ optNum 2 f ++ fld 4 n ++ b1 unit ++ flagByte egress

/-- A notice record (Table 12-5). -/
def Notice.bytes (n : Notice) : List Byte :=
  b1 n.body.kind.code ++ b1 n.lane ++ b1 n.body.bytes.length ++ fld 6 n.ms ++ fld 4 n.seconds ++ flagByte n.clockValid
    ++ n.body.bytes

/-! ## Frames on the lines -/

/-- A reply's frame on its link (Table 12-2, R176). -/
def Reply.frame (r : Reply) : List Byte :=
  let counted := fld 2 (3 + r.body.length) ++ [r.tag, r.kind] ++ fld 1 r.status.code ++ r.body
  0xA5#8 :: counted ++ le 2 (crc16 counted).toNat

/-- A frame to a reader (Table 12-6). -/
def ReaderFrame.bytes (f : ReaderFrame) : List Byte :=
  let body :=
    match f with
    | .verdict v r n => [0x5A#8, 0x56#8] ++ b1 v.code ++ b1 r.code ++ fld 8 n
    | .nak => [0x5A#8, 0x4E#8]
  body ++ [crc8 body]

end Sys2Proof.Machine
end

