-- ==== Sys2Proof/Machine/Barrier.lean ====
section
/-! DEFINITION. The Barrier Controller (Chapter 4): motions, the open and shut conditions, shut feasibility, reversal and jam, stall and
recovery, and the fault posture. -/

namespace Sys2Proof.Machine

/-! ## Taking a state -/

/-- The last shut evaluation becomes "not evaluated", and no side shows tailgate risk (R77, R103). -/
def LaneState.dropEvaluation (l : LaneState) : LaneState :=
  (l.modBc fun c => { c with last := none, risk := false }).modLsv fun v => { v with riskLobby := false, riskSecure := false }

/-- Take a barrier state: the drive outputs follow it (R68), a STALLED barrier is handed on as a barrier fault (R86, R108), and a
barrier that is not OPEN keeps no shut evaluation (R77). -/
def LaneState.setBarrier (b : Barrier) (l : LaneState) : LaneState :=
  let taken :=
    (l.modBc fun c =>
      { c with state := b, driveOpen := decide (b = .opening), driveShut := decide (b = .shutting) }).modLsv fun v =>
        { v with barrierMark := decide (b = .stalled) }
  if b = .opened then taken else taken.dropEvaluation

/-- Set or clear JAM, handed on as the JAM condition kind (R82). -/
def LaneState.setJam (on : Bool) (l : LaneState) : LaneState :=
  (l.modBc fun c => { c with jam := on }).setCondition .jam on

/-- Set or clear the STALL flag, handed on as the STALL condition kind (R71). -/
def LaneState.setStall (on : Bool) (l : LaneState) : LaneState :=
  (l.modBc fun c => { c with stall := on }).setCondition .stall on

/-- Start the jam hold timer (R82). -/
def LaneState.startJamHold (now : Nat) (l : LaneState) : LaneState :=
  l.modBc fun c => { c with jamHoldEnd := some (now + l.timing.jamHold * 1000) }

/-! ## Conditions -/

/-- Whether the lane is in the SENSOR condition as last judged (R13). -/
def LaneState.sensor (l : LaneState) : Bool := l.bsu.causes.any

/-- Whether a READY permit is queued (R65). -/
def LaneState.readyQueued (l : LaneState) : Bool := l.pq.permits.any fun p => decide (p.state = .ready)

/-- The open condition, with the fault posture in force (R73, Table 4-2). -/
def LaneState.openCondition (l : LaneState) : Bool :=
  l.readyQueued || decide (l.lsv.mode = .egress) || (l.sensor && decide (l.bc.posture = .opened))

/-- Whether the open condition begins a motion from SHUT: not when it holds only through a READY permit while the lane is in the
SENSOR condition under HOLD (R73, R84). -/
def LaneState.opensFromShut (l : LaneState) : Bool :=
  decide (l.lsv.mode = .egress) || (l.sensor && decide (l.bc.posture = .opened)) ||
    (l.readyQueued && !(l.sensor && decide (l.bc.posture = .hold)))

/-- The time a distance takes at a speed, and whether it leaves room for the shut (R79, stages 4 and 5). -/
def feasibleAt (t : Timing) (distance speed : Nat) : Nat × Bool :=
  (distance * 1000 / speed, decide (t.tc + t.tm ≤ distance * 1000 / speed))

/-- The assessment of an UNSET track (R80). -/
def assessUnset (g : Geometry) (t : Timing) (x : Track) : Assessment :=
  let distance :=
    if x.ext.hi < g.f then (g.f - (x.ext.hi + 1)) * g.p else if g.f ≤ x.ext.lo then (x.ext.lo - g.f) * g.p else 0
  if distance = 0 then { track := x.number, dir := none, distance := 0, arithmetic := none, feasible := false }
  else
    { track := x.number, dir := none, distance := distance, arithmetic := some (t.vNom, (feasibleAt t distance t.vNom).1),
      feasible := (feasibleAt t distance t.vNom).2 }

/-- The assessment of an approaching rear member of a merge: infeasible without arithmetic (R80). A lead beyond x_F has no stated
distance: a free value (Log 12). -/
def assessRear (g : Geometry) (d : Direction) (x : Track) : Assessment where
  track := x.number
  dir := some d
  distance :=
    if g.lead d x.ext ≤ g.xf d then g.xf d - g.lead d x.ext else Config.rearDistance (g.xf d) (g.lead d x.ext)
  arithmetic := none
  feasible := false

/-- The assessment of any other approaching track by the five stages of R79; a lead at the line is infeasible without the
division. -/
def assessApproaching (g : Geometry) (t : Timing) (d : Direction) (x : Track) : Assessment :=
  let distance := g.xf d - g.lead d x.ext
  let speed := max x.speed t.vFloor
  { track := x.number, dir := some d, distance := distance, arithmetic := some (speed, (feasibleAt t distance speed).1),
    feasible := decide (distance ≠ 0) && (feasibleAt t distance speed).2 }

/-- The assessment of a track, when it is assessed (R78). -/
def assess (g : Geometry) (t : Timing) (x : Track) (rear : Bool) : Option Assessment :=
  match x.dir with
  | none => some (assessUnset g t x)
  | some d =>
    if x.approaching then some (if rear then assessRear g d x else assessApproaching g t d x) else none

/-- The assessments of a shut evaluation (R78). No rule orders them: track list order is a choice of the model (Log 54). -/
def LaneState.assessments (l : LaneState) : List Assessment :=
  (withRear l.ot.tracks).filterMap fun x => assess l.geo l.timing x.1 x.2

/-- Whether a bound crossed track still holds the leaves open: its trail lies behind x_F + SZ × P (Table 4-4, point 4). -/
def holdsOpen (g : Geometry) (t : Track) : Bool :=
  match t.dir with
  | none => false
  | some d => t.bound.isSome && t.crossed && decide (g.trail d t.ext < g.xf d + g.sz * g.p)

/-- The points of the shut condition that fail (Table 4-4), in the order of the table: a choice of the model (Log 54). -/
def LaneState.failedPoints (l : LaneState) : List Nat :=
  [(1, l.readyQueued), (2, l.bsu.result.guardOccupied), (3, l.ot.untracked), (4, l.ot.tracks.any (holdsOpen l.geo)),
   (5, l.assessments.any fun a => !a.feasible), (6, l.sensor), (7, l.bc.jamHoldEnd.isSome)].filterMap
    fun x => if x.2 then some x.1 else none

/-- The shut condition (R75). -/
def LaneState.shutCondition (l : LaneState) : Bool := l.failedPoints.isEmpty

/-- The sides that show a tailgate risk (R103). -/
def riskSides (claim : Option Direction) (assessed : List Assessment) : Bool × Bool :=
  match claim with
  | some .entry => (true, false)
  | some .exit => (false, true)
  | none =>
    let bad := assessed.filter fun a => !a.feasible
    (bad.any fun a => decide (a.dir = some .entry) || decide (a.dir = none),
     bad.any fun a => decide (a.dir = some .exit) || decide (a.dir = none))

/-- Record a shut evaluation, and hand its tailgate risk to the Lane Supervisor: point 1 holding and point 5 failing (R77, R103). -/
def LaneState.recordEvaluation (now : Nat) (l : LaneState) : LaneState :=
  let failed := l.failedPoints
  let assessed := l.assessments
  let risk := !failed.contains 1 && failed.contains 5
  let sides := riskSides l.pq.claim assessed
  (l.modBc fun c =>
    { c with
      last := some { time := now, failed := failed, assessed := assessed, obstruct := c.obstruct }
      risk := risk }).modLsv fun v => { v with riskLobby := risk && sides.1, riskSecure := risk && sides.2 }

/-! ## Motions -/

/-- Clear the reversal count, and JAM with its notice when it was set (R83). -/
def clearJam (w : Work) : Work :=
  let jam := w.lane.bc.jam
  let cleared := w.mod fun l => (l.modBc fun c => { c with reversals := 0 }).setJam false
  if jam then cleared.emitBarrier .jamCleared else cleared

/-- A shut motion completes: SHUT, timer stopped, JAM and count cleared (R70, R83). -/
def arriveShut (w : Work) : Work :=
  clearJam (w.mod fun l => (l.setBarrier .shut).modBc fun c => { c with motionEnd := none })

/-- A shut motion begins; with SHUT_LIMIT already active it completes at once (R70). The open condition cannot hold here, since
the shut condition has just held (Laws: openCondition_false_of_shutCondition). -/
def beginShutting (e : Env) (w : Work) : Work :=
  let moving := w.mod fun l =>
    (l.setBarrier .shutting).modBc fun c => { c with motionEnd := some (e.now + 2 * l.timing.tc) }
  if moving.lane.bc.shutLimit then arriveShut moving else moving

/-- Whether the lane's mode is one in which the shut condition is evaluated (R75). -/
def shutMode (m : Mode) : Bool := decide (m = .service) || decide (m = .closed) || decide (m = .lockdown)

/-- Evaluate the shut condition: record it, and begin SHUTTING when it holds with OBSTRUCT inactive (R75, R77). -/
def evalShut (e : Env) (w : Work) : Work :=
  if w.lane.bc.state = .opened ∧ shutMode w.lane.lsv.mode = true then
    let recorded := w.mod (LaneState.recordEvaluation e.now)
    if w.lane.shutCondition && !w.lane.bc.obstruct then beginShutting e recorded else recorded
  else w

/-- An opening motion completes: OPEN, timer stopped, jam hold started under JAM, and the shut condition evaluated (R70, R82). STALL and
the position-unknown flag stay as they stand, also when the motion was the retry of R74: a choice of the model (Log 17). -/
def arriveOpen (e : Env) (w : Work) : Work :=
  evalShut e
    (w.mod fun l =>
      let opened := (l.setBarrier .opened).modBc fun c => { c with motionEnd := none }
      if opened.bc.jam then opened.startJamHold e.now else opened)

/-- An opening motion begins; with OPEN_LIMIT already active it completes at once (R70). -/
def beginOpening (e : Env) (w : Work) : Work :=
  let moving := w.mod fun l =>
    (l.setBarrier .opening).modBc fun c => { c with motionEnd := some (e.now + 2 * l.timing.topen) }
  if moving.lane.bc.openLimit then arriveOpen e moving else moving

/-- Evaluate the open condition (R73). -/
def evalOpen (e : Env) (w : Work) : Work :=
  if w.lane.lsv.mode = .dark then w
  else match w.lane.bc.state with
    | .shut => if w.lane.opensFromShut then beginOpening e w else w
    | .shutting => if w.lane.openCondition then beginOpening e w else w
    | .opening => w
    | .opened => w
    | .stalled => w

/-- A counted reversal (R81, R82). -/
def countedReversal (e : Env) (cause : ReversalCause) (w : Work) : Work :=
  let count := min 255 (w.lane.bc.reversals + 1)
  let jams := decide (w.lane.bc.reversals + 1 = 3)
  let counted := w.mod fun l =>
    let raised := l.modBc fun c => { c with reversals := count }
    if jams then raised.setJam true else raised
  let reported := (beginOpening e counted).emitBarrier (.reversed cause)
  if jams then reported.emitBarrier .jam else reported

/-- A limit input ends STALLED (R72). -/
def recover (e : Env) (b : Barrier) (w : Work) : Work :=
  let recovered := w.withHealth fun v =>
    let back := (v.mod fun l =>
      ((l.setBarrier b).setStall false).modBc fun c =>
        { c with positionUnknown := false, motionEnd := none }).emitBarrier .recovered
    if b = .shut then clearJam back
    else if back.lane.bc.jam then back.mod (LaneState.startJamHold e.now) else back
  if b = .shut then evalOpen e recovered else evalShut e recovered

/-- OPEN_LIMIT changes level (R70, R72). -/
def onOpenLimit (e : Env) (active : Bool) (w : Work) : Work :=
  if w.lane.bc.openLimit = active then w
  else
    let levelled := w.mod fun l => l.modBc fun c => { c with openLimit := active }
    if active then
      match levelled.lane.bc.state with
      | .opening => arriveOpen e levelled
      | .stalled => recover e .opened levelled
      | .shut => levelled
      | .opened => levelled
      | .shutting => levelled
    else levelled

/-- SHUT_LIMIT changes level (R70, R72). -/
def onShutLimit (e : Env) (active : Bool) (w : Work) : Work :=
  if w.lane.bc.shutLimit = active then w
  else
    let levelled := w.mod fun l => l.modBc fun c => { c with shutLimit := active }
    if active then
      match levelled.lane.bc.state with
      | .shutting => evalOpen e (arriveShut levelled)
      | .stalled => recover e .shut levelled
      | .shut => levelled
      | .opened => levelled
      | .opening => levelled
    else levelled

/-- OBSTRUCT changes level (R81). -/
def onObstruct (e : Env) (active : Bool) (w : Work) : Work :=
  if w.lane.bc.obstruct = active then w
  else
    let levelled := w.mod fun l => l.modBc fun c => { c with obstruct := active }
    if active ∧ levelled.lane.bc.state = .shutting then countedReversal e .obstruct levelled else levelled

/-- The motion whose timer runs, when the barrier is moving. -/
def Barrier.motion : Barrier → Option Motion
  | .opening => some .opening
  | .shutting => some .shutting
  | .shut => none
  | .opened => none
  | .stalled => none

/-- The motion timer reaches its end (R71). -/
def stallMotion (e : Env) (w : Work) : Work :=
  match w.lane.bc.state.motion, w.lane.bc.motionEnd with
  | some m, some t =>
    if due e.now t then
      w.withHealth fun v =>
        (v.mod fun l =>
          ((l.setBarrier .stalled).setStall true).modBc fun c =>
            { c with positionUnknown := false, motionEnd := none }).emitBarrier (.stalled m)
    else w
  | _, _ => w

/-- The jam hold timer reaches its end (R82). -/
def endJamHold (e : Env) (w : Work) : Work :=
  match w.lane.bc.jamHoldEnd with
  | some t =>
    if due e.now t then evalShut e (w.mod fun l => l.modBc fun c => { c with jamHoldEnd := none }) else w
  | none => w

/-- The lane enters EGRESS: open from SHUT, reverse from SHUTTING, retry from STALLED (R74). -/
def enterEgress (e : Env) (w : Work) : Work :=
  w.withHealth fun v =>
    let entered := v.mod LaneState.dropEvaluation
    match entered.lane.bc.state with
    | .shut => beginOpening e entered
    | .shutting => beginOpening e entered
    | .stalled => beginOpening e entered
    | .opening => entered
    | .opened => entered

/-- The fault posture that LANE_TIMING set comes into force (Table 4-2). -/
def LaneState.takePosture (l : LaneState) : LaneState := l.modBc fun c => { c with posture := l.timing.posture }

/-- What the Barrier Controller does at a frame event in each of its states (R76). -/
def actOnFrame (e : Env) (w : Work) : Work :=
  match w.lane.bc.state with
  | .shutting =>
    if w.lane.bsu.result.guardOccupied then countedReversal e .guardZone w
    else if w.lane.sensor then beginOpening e w
    else evalOpen e w
  | .shut => evalOpen e w
  | .opened => evalShut e w
  | .opening => w
  | .stalled => w

/-- The frame event of the Barrier Controller: the fault posture set comes into force, then its state decides (R69, R76, R84). -/
def barrierFrame (e : Env) (w : Work) : Work := actOnFrame e (w.mod LaneState.takePosture)

/-- The barrier state that the limit inputs give, and whether the position is unknown (R88). -/
def positionOf (openLimit shutLimit : Bool) : Barrier × Bool :=
  match openLimit, shutLimit with
  | false, true => (.shut, false)
  | true, false => (.opened, false)
  | false, false => (.stalled, true)
  | true, true => (.stalled, true)

/-- Read the barrier state from the limit inputs (R88, R89). -/
def LaneState.readPosition (l : LaneState) : LaneState :=
  (l.setBarrier (positionOf l.bc.openLimit l.bc.shutLimit).1).modBc fun c =>
    { c with positionUnknown := (positionOf l.bc.openLimit l.bc.shutLimit).2, motionEnd := none }

/-- A lane reset acts on the Barrier Controller (R89). -/
def LaneState.resetBarrier (l : LaneState) : LaneState :=
  ((((l.modBc fun c => { c with reversals := 0, jamHoldEnd := none }).setJam false).setStall false).dropEvaluation).readPosition

end Sys2Proof.Machine
end

