-- ==== Sys2Proof/Machine/PermitQueue.lean ====
section
/-! DEFINITION. The Permit Queue (Chapter 3): numbers, the lane claim, append, binding, backout, expiry, escort windows, the
free-direction service and cancellation. -/

namespace Sys2Proof.Machine

/-! ## Numbers and the claim -/

/-- The number after n in 1 to 255, going on from 255 to 1 (R20, R46, R151). -/
def next255 (n : Nat) : Nat := if 255 ≤ n then 1 else n + 1

/-- The first number from n upward, going on from 255 to 1, that is not taken; the search makes at most `fuel` steps. -/
def firstFree (taken : List Nat) : Nat → Nat → Nat
  | 0, n => n
  | fuel + 1, n => if taken.contains n then firstFree taken fuel (next255 n) else n

/-- The passages a permit still grants (Table 3-1). -/
def Permit.remaining (p : Permit) : Nat := p.allowance - p.used

/-- The copy of a permit for a track that binds it (R45). -/
def Permit.copy (p : Permit) : PermitCopy where
  number := p.number
  credential := p.credential
  origin := p.origin
  cls := p.cls
  reader := p.reader
  soft := p.soft

/-- The permit numbers in use in a lane (R46). -/
def LaneState.permitNumbers (l : LaneState) : List Nat :=
  l.pq.permits.map (·.number) ++ l.ot.tracks.filterMap fun t => t.bound.map (·.number)

/-- The claim as the queue and the track list stand (R48). -/
def LaneState.claimNow (l : LaneState) : Option Direction :=
  match l.pq.permits with
  | p :: _ => some p.dir
  | [] => (l.ot.tracks.find? fun t => t.bound.isSome).bind (·.dir)

/-- Work the claim out again (R48). -/
def LaneState.reclaim (l : LaneState) : LaneState := l.modPq fun q => { q with claim := l.claimNow }

/-- Replace the queue and work the claim out again. -/
def LaneState.setPermits (ps : List Permit) (l : LaneState) : LaneState :=
  (l.modPq fun q => { q with permits := ps }).reclaim

/-- The grant period (R50). -/
def Timing.grantPeriod (t : Timing) : Nat := t.grantTime * 1000 * (if t.wide then 2 else 1)

/-- The escort window of a direction (R56). -/
def Pq.window (q : Pq) : Direction → Option Nat
  | .entry => q.entryWindow
  | .exit => q.exitWindow

/-- Set the escort window of a direction. -/
def Pq.setWindow (d : Direction) (x : Option Nat) (q : Pq) : Pq :=
  match d with
  | .entry => { q with entryWindow := x }
  | .exit => { q with exitWindow := x }

/-! ## Append (R47) -/

/-- An append request (R47); the escort flags are those of the class, false when there is none. -/
structure AppendReq where
  dir : Direction
  origin : Origin
  credential : Option Nat
  cls : Option ClassNo
  reader : Option Port
  allowance : Nat
  soft : Bool
  escort : Bool
  needsEscort : Bool

/-- The answer to an append request (R47). -/
inductive AppendResult where
  | laneBusy
  | queueFull
  | accepted (w : Work) (number : Nat) (state : PermitState)

/-- The state that Table 3-2 gives an appended permit. -/
def appendState (r : AppendReq) (q : Pq) : PermitState :=
  if r.escort then .ready
  else if r.needsEscort && (q.window r.dir).isNone then .awaitingEscort
  else .ready

/-- The deadline of a permit that takes a state now (R50, R57). -/
def deadlineFor (now : Nat) (t : Timing) : PermitState → Nat
  | .ready => now + t.grantPeriod
  | .awaitingEscort => now + t.escortWindow * 1000

/-- Release every AWAITING_ESCORT permit (R57). -/
def releaseEscorted (now : Nat) (t : Timing) (ps : List Permit) : List Permit :=
  ps.map fun p =>
    if p.state = .awaitingEscort then { p with state := .ready, deadline := deadlineFor now t .ready } else p

/-- The queue with a permit placed as Table 3-2 gives. -/
def placePermit (now : Nat) (t : Timing) (escort : Bool) (p : Permit) (ps : List Permit) : List Permit :=
  if escort then
    ps.takeWhile (fun x => decide (x.state ≠ .awaitingEscort)) ++ p ::
      releaseEscorted now t (ps.dropWhile fun x => decide (x.state ≠ .awaitingEscort))
  else ps ++ [p]

/-- The permit an append makes (R46, R47). -/
def newPermit (now : Nat) (l : LaneState) (r : AppendReq) : Permit where
  number := firstFree l.permitNumbers 255 l.pq.next
  dir := r.dir
  origin := r.origin
  credential := r.credential
  cls := r.cls
  reader := r.reader
  state := appendState r l.pq
  allowance := r.allowance
  used := 0
  deadline := deadlineFor now l.timing (appendState r l.pq)
  soft := r.soft

/-- The lane with a new permit queued: number counter, place, escort window, claim (R46, R47, R56, R57). -/
def LaneState.queuePermit (now : Nat) (r : AppendReq) (l : LaneState) : LaneState :=
  let p := newPermit now l r
  let queued := l.setPermits (placePermit now l.timing r.escort p l.pq.permits)
  queued.modPq fun q =>
    let numbered := { q with next := next255 p.number }
    if r.escort then numbered.setWindow r.dir (some (now + l.timing.escortWindow * 1000)) else numbered

/-- Judge an append (R47); a permit made READY is handed to the Barrier Controller (R65, R73). -/
def append (e : Env) (r : AppendReq) (w : Work) : AppendResult :=
  if w.lane.pq.claim ≠ none ∧ w.lane.pq.claim ≠ some r.dir then .laneBusy
  else if Config.maxPermits ≤ w.lane.pq.permits.length then .queueFull
  else
    let p := newPermit e.now w.lane r
    let queued := w.mod (LaneState.queuePermit e.now r)
    .accepted (if p.state = .ready then evalOpen e queued else queued) p.number p.state

/-! ## The free-direction service (R59) -/

/-- A FREE permit's append request (R59). -/
def freeReq (d : Direction) : AppendReq where
  dir := d
  origin := .free
  credential := none
  cls := none
  reader := none
  allowance := 1
  soft := false
  escort := false
  needsEscort := false

/-- The approaching tracks that the free-direction service counts (R59). -/
def LaneState.freeWalkers (l : LaneState) (d : Direction) : List Track :=
  l.ot.tracks.filter fun t => decide (t.dir = some d) && !t.crossed && t.bound.isNone && !t.exempt

/-- The passages that queued READY FREE permits of a direction still grant (R59). -/
def LaneState.freeSupply (l : LaneState) (d : Direction) : Nat :=
  ((l.pq.permits.filter fun p =>
    decide (p.dir = d) && decide (p.origin = .free) && decide (p.state = .ready)).map (·.remaining)).sum

/-- Append up to n FREE permits, stopping at the first refusal (R59). -/
def serveFree (e : Env) (d : Direction) : Nat → Work → Work
  | 0, w => w
  | n + 1, w =>
    match append e (freeReq d) w with
    | .accepted w' _ _ => serveFree e d n w'
    | .laneBusy => w
    | .queueFull => w

/-- The least distance to the barrier of a direction's counted walkers (R59). -/
def LaneState.nearest (l : LaneState) (d : Direction) : Option Int :=
  ((l.freeWalkers d).map fun t => (l.geo.xf d : Int) - (l.geo.lead d t.ext : Int)).min?

/-- The order in which the service takes the directions: the nearest walker's first, ENTRY on equal distances (R59). -/
def LaneState.freeOrder (l : LaneState) : List Direction :=
  match l.nearest .entry, l.nearest .exit with
  | some a, some b => if b < a then [.exit, .entry] else [.entry, .exit]
  | none, some _ => [.exit, .entry]
  | some _, none => [.entry, .exit]
  | none, none => [.entry, .exit]

/-- Serve one direction when its policy is FREE and the claim allows it (R59). -/
def serveDirection (e : Env) (w : Work) (d : Direction) : Work :=
  if w.lane.lsv.policy.setting d = .free ∧ (w.lane.pq.claim = none ∨ w.lane.pq.claim = some d) then
    serveFree e d ((w.lane.freeWalkers d).length - w.lane.freeSupply d) w
  else w

/-- The free-direction service (R59). -/
def freeService (e : Env) (w : Work) : Work :=
  if w.lane.lsv.mode = .service then w.lane.freeOrder.foldl (serveDirection e) w else w

/-! ## Binding (R51, R52) -/

/-- Use one passage of the first READY permit of a direction: the permit as bound and the queue after it (R51). -/
def bindFirst (deadline : Nat) (d : Direction) : List Permit → Option (Permit × List Permit)
  | [] => none
  | p :: ps =>
    if p.dir = d ∧ p.state = .ready then
      let bound := { p with used := p.used + 1, deadline := deadline }
      some (bound, bound :: ps)
    else (bindFirst deadline d ps).map fun x => (x.1, p :: x.2)

/-- Remove a permit from the queue, work the claim out again and report its end (R64). -/
def removePermit (p : Permit) (ended : PermitEnd) (w : Work) : Work :=
  (w.mod fun l => l.setPermits (l.pq.permits.filter fun x => decide (x.number ≠ p.number))).emit (.permitEnd p ended)

/-- After a binding: a permit with nothing remaining leaves USED, and the place freed is an occasion of the free-direction service
(R52). -/
def settleUsed (e : Env) (p : Permit) (w : Work) : Work :=
  if p.remaining = 0 then freeService e (removePermit p .used w) else w.mod LaneState.reclaim

/-! ## Backout (R53, R54) -/

/-- A passage given back to a queued permit (R53). -/
def Permit.givenBack (deadline : Nat) (p : Permit) : Permit :=
  if p.used = 0 then { p with allowance := p.allowance + 1, deadline := deadline }
  else { p with used := p.used - 1, deadline := deadline }

/-- The RETURNED permit that a copy gives back (R54). -/
def returnedPermit (deadline : Nat) (d : Direction) (c : PermitCopy) : Permit where
  number := c.number
  dir := d
  origin := .returned
  credential := c.credential
  cls := c.cls
  reader := c.reader
  state := .ready
  allowance := 1
  used := 0
  deadline := deadline
  soft := c.soft

/-- Whether a RETURNED permit may be inserted (R54). -/
def LaneState.takesReturned (l : LaneState) (d : Direction) : Bool :=
  (decide (l.lsv.mode = .service) || decide (l.lsv.mode = .lockdown)) && decide (l.pq.permits.length < Config.maxPermits)
    && (decide (l.pq.claim = none) || decide (l.pq.claim = some d))

/-- The backout of a bound track reaches the Permit Queue (R53, R54). -/
def giveBack (e : Env) (d : Direction) (c : PermitCopy) (w : Work) : Work :=
  let deadline := e.now + w.lane.timing.grantPeriod
  if w.lane.pq.permits.any fun p => p.number == c.number then
    w.mod fun l =>
      l.setPermits (l.pq.permits.map fun p => if p.number = c.number then p.givenBack deadline else p)
  else
    let p := returnedPermit deadline d c
    if w.lane.takesReturned d then evalOpen e (w.mod fun l => l.setPermits (p :: l.pq.permits))
    else w.emit (.permitEnd p .dropped)

/-! ## Expiries (R55, R56, R58) -/

/-- The queued permit with a number, in a state, whose deadline has fallen due. -/
def LaneState.duePermit (now n : Nat) (st : PermitState) (l : LaneState) : Option Permit :=
  l.pq.permits.find? fun p => p.number == n && decide (p.state = st) && due now p.deadline

/-- A queued permit's deadline falls due (R55, R58). -/
def expirePermit (e : Env) (n : Nat) (st : PermitState) (ended : PermitEnd) (w : Work) : Work :=
  match w.lane.duePermit e.now n st with
  | some p => freeService e (removePermit p ended w)
  | none => w

/-- An escort window reaches its end (R56). -/
def LaneState.endWindow (now : Nat) (d : Direction) (l : LaneState) : LaneState :=
  match l.pq.window d with
  | some t => if due now t then l.modPq (Pq.setWindow d none) else l
  | none => l

/-! ## Cancellation (R61 to R63) -/

/-- A whole-lane cancellation (R62). -/
def cancelAll (w : Work) : Work :=
  let told := w.lane.pq.permits.foldl (fun v p => v.emit (.permitEnd p .cancelled)) w
  told.mod fun l => (l.modPq fun q => { q with entryWindow := none, exitWindow := none }).setPermits []

/-- Whether a reader's tamper removes a permit (R63). -/
def tamperTakes (p : Port) (x : Permit) : Bool := decide (x.reader = some p) && decide (x.used = 0)

/-- A reader port enters TAMPERED: its unused permits leave (R63). -/
def tamperRemove (p : Port) (w : Work) : Work :=
  let told := (w.lane.pq.permits.filter (tamperTakes p)).foldl (fun v x => v.emit (.permitEnd x .tamper)) w
  told.mod fun l => l.setPermits (l.pq.permits.filter fun x => !tamperTakes p x)

end Sys2Proof.Machine
end

