-- ==== Sys2Proof/Machine/StatusReplies.lean ====
section
/-! DEFINITION. The payloads of the query replies: LANE_STATUS (R15, R87, R105, R123, R131, R161, R171), LANE_TRACKS (R43), LANE_PERMITS
(R66), DEVICE_STATUS (R161, R186, R196) and IDENT (R197), in the order each rule lists its fields (R200, Log 21). -/

namespace Sys2Proof.Machine

/-- Milliseconds left to a count; 0 once the count has been reached (Log 3). -/
def leftTo (now t : Nat) : List Byte := fld 4 (t - now)

/-- Milliseconds left to a count that may be absent. -/
def optLeft (now : Nat) (o : Option Nat) : List Byte := optField (o.map (leftTo now))

/-- A list of one-byte numbers. -/
def numbers (ns : List Nat) : List Byte := listField (ns.map b1)

/-! ## LANE_STATUS -/

/-- The fields of R15. The filtered vector is a list of one byte a beam, occluded 1 and clear 0, codes of the model's choice (Log 57). -/
def LaneState.scanStatus (l : LaneState) : List Byte :=
  l.geo.bytes ++ l.timing.scanBytes ++ flagByte l.bsu.chainFault ++ fld 4 l.bsu.answered ++ numbers l.bsu.faulting
    ++ flagByte l.bsu.result.valid ++ listField (l.bsu.result.vector.map flagByte) ++ flagByte l.bsu.result.guardOccupied
    ++ numbers (stuckBeams l.bsu.beams) ++ flagByte l.bsu.causes.any ++ b1 l.bsu.causes.flags

/-- The assessment of a track (R78), its verdict as feasible 1, infeasible 0: a code of the model's choice (Log 52). -/
def Assessment.bytes (a : Assessment) : List Byte :=
  b1 a.track ++ fld 4 a.distance ++ optField (a.arithmetic.map fun x => fld 4 x.1 ++ fld 4 x.2) ++ flagByte a.feasible

/-- The last shut evaluation with its age (R77, R87). -/
def ShutEvaluation.bytes (now : Nat) (v : ShutEvaluation) : List Byte :=
  fld 6 v.time ++ numbers v.failed ++ listField (v.assessed.map Assessment.bytes) ++ flagByte v.obstruct ++ fld 4 (now - v.time)

/-- The fields of R87. -/
def LaneState.barrierStatus (now : Nat) (l : LaneState) : List Byte :=
  b1 l.bc.state.code ++ flagByte l.bc.openLimit ++ flagByte l.bc.shutLimit ++ flagByte l.bc.obstruct ++ flagByte l.bc.driveOpen
    ++ flagByte l.bc.driveShut ++ optLeft now l.bc.motionEnd ++ fld 4 l.bc.reversals ++ flagByte l.bc.jam
    ++ optLeft now l.bc.jamHoldEnd ++ flagByte l.bc.stall ++ flagByte l.bc.positionUnknown ++ l.timing.barrierBytes
    ++ optField (l.bc.last.map (ShutEvaluation.bytes now)) ++ flagByte l.bc.risk

/-- A latched kind in LANE_STATUS (R105). -/
def LatchedAlarm.status (now : Nat) (a : LatchedAlarm) : List Byte := flagByte a.set ++ fld 4 a.raises ++ optLeft now a.deadline

/-- A condition kind in a reply (R105). -/
def ConditionAlarm.bytes (a : ConditionAlarm) : List Byte := flagByte a.active ++ flagByte a.silenced

/-- The passage tallies, in the order of Table 5-4 (R95). -/
def Tallies.bytes (t : Tallies) : List Byte :=
  [t.completedEntry, t.completedExit, t.backouts, t.tailgate, t.intrusion, t.wrongWay, t.lost, t.overflowFrames].flatMap
    fun n => fld 4 n.toNat

/-- The fields of R105: the kinds in code order, the lobby side ahead of the secure side, a choice of the model (Log 58). -/
def LaneState.alarmStatus (now : Nat) (slots : List Slot) (k : Lane) (l : LaneState) : List Byte :=
  LatchedKind.all.flatMap (fun a => (l.lsv.alarms.latched a).status now)
    ++ ConditionKind.all.flatMap (fun a => (l.lsv.alarms.condition a).bytes) ++ fld 2 l.timing.autoClear ++ flagByte l.lsv.buzzer
    ++ b1 l.lsv.lobbyColour.code ++ b1 l.lsv.secureColour.code ++ flagByte (sideWork slots l (sidePort k .entry))
    ++ flagByte l.lsv.riskLobby ++ flagByte (sideWork slots l (sidePort k .exit)) ++ flagByte l.lsv.riskSecure
    ++ l.lsv.tallies.bytes

/-- The pending mode, its policy and its link. -/
def PendingMode.bytes (p : PendingMode) : List Byte := b1 p.mode.code ++ p.policy.bytes ++ b1 (linkCode p.link)

/-- The mode and policy in force and the pending mode (R110, R123). -/
def Lsv.modeBytes (v : Lsv) : List Byte := b1 v.mode.code ++ v.policy.bytes ++ optField (v.pending.map PendingMode.bytes)

/-- The fields of R123. -/
def LaneState.modeStatus (s : State) (l : LaneState) : List Byte :=
  l.lsv.modeBytes ++ b1 l.lsv.startMode.code ++ l.lsv.startPolicy.bytes ++ optLeft s.tmb.ms l.lsv.hold ++ b1 l.lsv.health.code
    ++ flagByte l.lsv.sensorMark ++ flagByte l.lsv.barrierMark ++ flagByte s.egressLine ++ flagByte s.deskKey

/-- The fields of R171 for one port. -/
def State.portStatus (s : State) (p : Port) : List Byte :=
  let r := s.port p
  let t := (s.lane (portLane p)).timing
  b1 r.state.code ++ flagByte r.tamper ++ fld 4 r.bad ++ optNum 4 (r.lastGood.map fun x => s.tmb.ms - x) ++ fld 4 r.tx.length
    ++ fld 4 r.dropped.toNat ++ b1 t.retryLimit ++ b1 t.silenceTime

/-- The number of occupied slots of a port (R161). -/
def State.slotsOf (s : State) (p : Port) : List Byte := fld 4 (s.rfu.slots.filter fun x => x.reader == p).length

/-- The payload of a LANE_STATUS reply: the fields that Table 12-4 lists. BR, K, C, loiter time, grant time, escort window and WIDE are
not among them, although R180 has a partner read the settings there: a choice of the model (Log 44). T_f and the fault posture are
given as set, also before they come into force: a choice of the model (Log 50). The ENTRY side and its port stand ahead of the EXIT side and
its port (Log 58). -/
def State.laneStatus (s : State) (k : Lane) : List Byte :=
  let l := s.lane k
  l.scanStatus ++ l.barrierStatus s.tmb.ms ++ l.alarmStatus s.tmb.ms s.rfu.slots k ++ l.modeStatus s
    ++ b1 l.timing.unknownFallback.code ++ fld 2 l.timing.referralTimeout ++ s.slotsOf (sidePort k .entry)
    ++ s.slotsOf (sidePort k .exit) ++ s.portStatus (sidePort k .entry) ++ s.portStatus (sidePort k .exit)

/-! ## LANE_TRACKS and LANE_PERMITS -/

/-- A permit copy (R45). -/
def PermitCopy.bytes (c : PermitCopy) : List Byte :=
  b1 c.number ++ optNum 8 c.credential ++ b1 c.origin.code ++ clsBytes c.cls ++ readerBytes c.reader ++ flagByte c.soft

/-- A track in LANE_TRACKS (R43). -/
def Track.bytes (g : Geometry) (now : Nat) (t : Track) : List Byte :=
  b1 t.number ++ b1 (optDirCode t.dir) ++ t.ext.bytes
    ++ optField (t.dir.map fun d => fld 4 (g.lead d t.ext) ++ fld 4 (g.trail d t.ext)) ++ flagByte t.crossed
    ++ optField (t.bound.map PermitCopy.bytes) ++ b1 t.flags ++ flagByte t.held ++ fld 4 t.coastCount ++ fld 4 t.speed
    ++ fld 4 t.history.length ++ fld 4 (now - t.born)

/-- The payload of a LANE_TRACKS reply (R43): the tracker as it stood after the last frame event, the ages at the request. -/
def LaneState.tracksReply (now : Nat) (l : LaneState) : List Byte :=
  flagByte l.reported.untracked ++ listField (l.reported.shadows.map Extent.bytes)
    ++ listField (l.reported.tracks.map (Track.bytes l.reported.geo now))

/-- A queued permit in LANE_PERMITS (R66, Table 3-1). -/
def Permit.bytes (now : Nat) (p : Permit) : List Byte :=
  b1 p.number ++ b1 (dirCode p.dir) ++ b1 p.origin.code ++ optNum 8 p.credential ++ clsBytes p.cls ++ readerBytes p.reader
    ++ b1 p.state.code ++ fld 4 p.allowance ++ fld 4 p.used ++ fld 4 p.remaining ++ leftTo now p.deadline ++ flagByte p.soft

/-- The payload of a LANE_PERMITS reply (R66). The flag that tells whether an escort window is open is at once the presence byte of its
milliseconds left: a choice of the model (Log 53); ENTRY stands ahead of EXIT (Log 58). -/
def LaneState.permitsReply (now : Nat) (l : LaneState) : List Byte :=
  b1 (optDirCode l.pq.claim) ++ b1 l.pq.next ++ optLeft now l.pq.entryWindow ++ optLeft now l.pq.exitWindow ++ l.timing.queueBytes
    ++ listField (l.pq.permits.map (Permit.bytes now))

/-! ## ALARM_ACK -/

/-- The alarm set in an ALARM_ACK reply, 60 bytes (Table 12-4). -/
def AlarmSet.bytes (now : Nat) (a : AlarmSet) : List Byte :=
  LatchedKind.all.flatMap (fun k =>
      let x := a.latched k
      flagByte x.set ++ fld 4 x.raises ++ fld 4 ((x.deadline.map fun t => t - now).getD 0))
    ++ ConditionKind.all.flatMap fun k => (a.condition k).bytes

/-! ## Device replies -/

/-- The clock seconds, 0 while the clock is not valid, and the flag (R189, R196). -/
def State.clockBytes (s : State) : List Byte := fld 4 (s.clock.getD 0) ++ flagByte s.tmb.valid

/-- The store state, with stage and records-written count while SAVING (R196). -/
def Ims.storeBytes (i : Ims) : List Byte :=
  flagByte i.saving.isSome ++ optField (i.saving.map fun r => b1 r.stage.code ++ fld 4 r.written)

/-- The last save (R196): the code, then DONE's count or FAILED's cause with no presence byte before it: a choice of the model (Log 47). -/
def LastSave.bytes : LastSave → List Byte
  | .never => b1 0
  | .done t => b1 1 ++ fld 6 t
  | .failed c => b1 2 ++ b1 c.code

/-- An occupied slot in DEVICE_STATUS (R161). -/
def Slot.bytes (now : Nat) (x : Slot) : List Byte :=
  b1 x.tag ++ b1 (laneNumber (portLane x.reader)) ++ b1 (portNumber x.reader) ++ fld 8 x.number ++ clsBytes x.cls
    ++ b1 x.reason.code ++ leftTo now x.deadline

/-- The state of one link (R186). -/
def LinkPort.bytes (p : LinkPort) : List Byte :=
  fld 4 p.queue.length ++ flagByte p.overflow ++ fld 4 p.tx.length ++ fld 4 p.lengthDiscards.toNat ++ fld 4 p.crcDiscards.toNat
    ++ fld 4 p.gapDiscards.toNat ++ flagByte p.rx.isSome

/-- The payload of a DEVICE_STATUS reply (R196, R161, R186), the site link ahead of the desk link (Log 58). -/
def State.deviceStatus (s : State) : List Byte :=
  fld 6 s.tmb.ms ++ s.clockBytes ++ b1 s.ims.unit ++ s.ims.storeBytes ++ s.ims.lastSave.bytes ++ b1 s.ims.startResult.code
    ++ b1 (resetCauseCode s.ims.resetCause) ++ fld 4 s.cst.creds.length ++ flagByte s.egressLine ++ flagByte s.deskKey
    ++ flagByte s.ims.strap ++ b1 s.rfu.tagCounter ++ fld 4 s.rfu.slots.length ++ listField (s.rfu.slots.map (Slot.bytes s.tmb.ms))
    ++ s.site.bytes ++ s.desk.bytes ++ s.routing.bytes

/-- The payload of an IDENT reply, 19 bytes (R197, Table 12-4). -/
def identBytes (unit : Nat) : List Byte :=
  [0x48#8, 0x47#8, 0x2D#8, 0x36#8] ++ fld 2 Config.formatCode ++ b1 unit ++ b1 6 ++ b1 12 ++ fld 2 Config.maxRecords ++ b1 16
    ++ b1 Config.maxSlots ++ b1 Config.maxPermits ++ b1 Config.maxTracks ++ b1 Config.siteQueueCap ++ b1 Config.deskQueueCap
    ++ fld 2 1024

end Sys2Proof.Machine
end

