-- ==== Sys2Proof/Machine/Requests.lean ====
section
/-! DEFINITION. Taking a request (R174 to R177): the checks of the Link Unit, the judgement by the owning block, and the reply. -/

namespace Sys2Proof.Machine

/-- A request judged by its owning block: the state after it, the status, and the reply payload after the status byte (R176). -/
structure Judged where
  state : State
  status : Status
  body : List Byte

/-- A refusal with the status alone: nothing changes (R177, R200). -/
def refused (s : State) (st : Status) : Judged := { state := s, status := st, body := [] }

/-- A query or a request that changes no indicator: the state as given. -/
def answered (s : State) (body : List Byte) : Judged := { state := s, status := .ok, body := body }

/-- A request carried out on lane k: its buzzer and indicators follow the state it leaves (R100, R102). -/
def done (k : Lane) (st : Status) (s : State) (body : List Byte) : Judged := { state := s.refresh k, status := st, body := body }

/-- The kind byte of a reply: the request's plus hex 80, or hex FF for a kind of hex 80 or above (R176). -/
def replyKind (kind : Nat) : Byte := if kind < 0x80 then BitVec.ofNat 8 (kind + 0x80) else 0xFF#8

/-- Place the reply of a judged request on its link's transmit list (R176). -/
def Judged.send (l : Link) (tag : Byte) (kind : Nat) (j : Judged) : State :=
  j.state.reply l { tag := tag, kind := replyKind kind, status := j.status, body := j.body }

/-- The receiver of a link goes back to hunting (R174). -/
def State.hunt (l : Link) (s : State) : State := s.modLink l fun p => { p with rx := none }

/-- Whether a link's transmit list is full (R176). -/
def State.txFull (l : Link) (s : State) : Bool := decide (Config.linkTxCap ≤ (s.link l).tx.length)

/-- Raise a link's gap count (R175). -/
def State.countGap (l : Link) (s : State) : State := s.modLink l fun p => { p with gapDiscards := p.gapDiscards + 1 }

/-- A received frame: the receiver hunts again; a full transmit list loses the frame, otherwise it is judged and answered (R174,
R176). -/
def State.take (l : Link) (tag : Byte) (kind : Nat) (judge : State → Judged) (s : State) : State :=
  if s.txFull l then (s.hunt l).countGap l else (judge (s.hunt l)).send l tag kind

/-- The length check, then the owning block (R177). -/
def judgeFrame (kind : RequestKind) (judge : List Byte → State → Judged) (payload : List Byte) (s : State) : Judged :=
  if payload.length = kind.payloadLength payload then judge payload s else refused s .badLength

/-- The lane check of a request that carries a lane (R177). -/
def onLane (judge : Lane → List Byte → State → Judged) (payload : List Byte) (s : State) : Judged :=
  match laneOfByte (byteAt payload 0) with
  | none => refused s .badLane
  | some k => judge k payload s

/-- Whether a desk hold keeps a link from changing a lane (R119). -/
def State.heldFor (s : State) (l : Link) (k : Lane) : Bool := decide (l = .site) && (s.lane k).lsv.hold.isSome

end Sys2Proof.Machine
end

