-- ==== Sys2Proof/Machine/Referrals.lean ====
section
/-! DEFINITION. The referral slots (Chapter 8): tags, opening, closure, and finding a slot by its tag. -/

namespace Sys2Proof.Machine

/-- The slot that an opening fills (R152). -/
def newSlot (s : State) (p : Port) (n : Nat) (cls : Option ClassNo) (r : ReferralReason) : Slot where
  tag := firstFree (s.rfu.slots.map (·.tag)) 255 s.rfu.tagCounter
  reader := p
  number := n
  cls := cls
  reason := r
  opened := s.tmb.ms
  deadline := s.tmb.ms + (s.lane (portLane p)).timing.referralTimeout

/-- The OPENED notice of a slot (R153). -/
def openedNotice (s : State) (x : Slot) : NoticeBody :=
  .referralOpened x.tag x.reader x.number x.cls x.reason (s.lane (portLane x.reader)).timing.referralTimeout

/-- Occupy a slot and post its OPENED notice (R152). -/
def State.openSlot (x : Slot) (s : State) : State :=
  State.post (laneNumber (portLane x.reader)) (openedNotice s x)
    { s with rfu := { slots := s.rfu.slots ++ [x], tagCounter := next255 x.tag } }

/-- Post the CLOSED notice of a slot (R153). -/
def postClosed (cause : ClosureCause) (s : State) (x : Slot) : State :=
  s.post (laneNumber (portLane x.reader)) (.referralClosed x.tag x.reader x.number cause)

/-- Close the slots that a test picks, oldest opening first (R158). -/
def State.closeSlots (test : Slot → Bool) (cause : ClosureCause) (s : State) : State :=
  (s.rfu.slots.filter test).foldl (postClosed cause)
    { s with rfu := { s.rfu with slots := s.rfu.slots.filter fun x => !test x } }

/-- Close every slot of a lane (R158). -/
def State.closeLane (k : Lane) (cause : ClosureCause) (s : State) : State :=
  s.closeSlots (fun x => portLane x.reader == k) cause

/-- The occupied slot with a tag (R154). -/
def State.slot (s : State) (tag : Nat) : Option Slot := s.rfu.slots.find? fun x => x.tag == tag

/-- Free the slot with a tag (R149). -/
def State.freeSlot (tag : Nat) (s : State) : State :=
  { s with rfu := { s.rfu with slots := s.rfu.slots.filter fun x => decide (x.tag ≠ tag) } }

/-- Why a referral cannot be opened, when it cannot: no free slot first, then a full site queue (R138, Log 23). -/
def State.noReferral (s : State) : Option FallbackCause :=
  if Config.maxSlots ≤ s.rfu.slots.length then some .noSlot
  else if Config.siteQueueCap ≤ s.site.queue.length then some .siteQueueFull
  else none

/-- Whether a lane holds a credential number in a queued permit or in a copy bound to a live track (R135). -/
def LaneState.holds (l : LaneState) (n : Nat) : Bool :=
  l.pq.permits.any (fun p => p.credential == some n)
    || l.ot.tracks.any fun t => (t.bound.bind fun c => c.credential) == some n

/-- Whether a credential number is held anywhere (R135). -/
def State.held (s : State) (n : Nat) : Bool :=
  allLanes.any (fun k => (s.lane k).holds n) || s.rfu.slots.any fun x => x.number == n

end Sys2Proof.Machine
end

