-- ==== Sys2Proof/Machine/ReadDecision.lean ====
section
/-! DEFINITION. The read decision (R132 to R140), its fallback, and the conclusion of a referral by DECIDE or by its deadline (R154 to
R157, R160). -/

namespace Sys2Proof.Machine

/-- How a decision ends without an append: verdict, reason, and the step at which it ends. -/
structure Ending where
  verdict : Verdict
  reason : Reason
  step : Nat
  deriving DecidableEq, Repr

/-- A denial. -/
def deny (r : Reason) (step : Nat) : Ending := { verdict := .deny, reason := r, step := step }

/-! ## Steps 1 to 4 (R133) -/

/-- Step 2 where the mode alone decides; in LOCKDOWN and SERVICE the decision goes on (R133). -/
def modeStep : Mode → Option Ending
  | .dark => some (deny .laneClosed 2)
  | .closed => some (deny .laneClosed 2)
  | .egress => some { verdict := .free, reason := .egress, step := 2 }
  | .lockdown => none
  | .service => none

/-- The policy part of step 3, tested in SERVICE alone (R133). -/
def policyStep (v : Lsv) (d : Direction) : Option Ending :=
  if v.mode = .service then
    match v.policy.setting d with
    | .barred => some (deny .directionBarred 3)
    | .free => some { verdict := .free, reason := .freeDirection, step := 3 }
    | .badged => none
  else none

/-- Step 3: health, pending mode, policy (R133). -/
def healthStep (v : Lsv) (d : Direction) : Option Ending :=
  if v.health ≠ .ok then some (deny .laneFault 3)
  else if v.pending.isSome then some (deny .modeChanging 3)
  else policyStep v d

/-- Step 4: the opposite claim (R133). -/
def claimStep (claim : Option Direction) (d : Direction) : Option Ending :=
  if claim = none ∨ claim = some d then none else some (deny .laneBusy 4)

/-- Steps 1 to 4 of a read at a port (R133). -/
def earlySteps (s : State) (p : Port) : Option Ending :=
  let l := s.lane (portLane p)
  if (s.port p).state = .tampered then some (deny .readerTamper 1)
  else (modeStep l.lsv.mode).or ((healthStep l.lsv (portDir p)).or (claimStep l.pq.claim (portDir p)))

/-! ## Step 5 (R134) -/

/-- What step 5 finds: a denial, a referral, or a record to go on with. -/
inductive Lookup where
  | denied (r : Reason)
  | refer (r : ReferralReason)
  | found (c : Cred)

/-- Step 5 on a record that was found (R134, items 2 to 9). -/
def recordStep (s : State) (p : Port) (c : Cred) : Lookup :=
  let k := s.cst.cls c.cls
  if (s.lane (portLane p)).lsv.mode = .lockdown ∧ k.lockdownPass = false then .denied .lockdown
  else if c.state = .suspended then .denied .suspended
  else if c.state = .spent then .denied .spent
  else if k.alwaysRefer then .refer .classRefer
  else if !k.allows (portLane p) (portDir p) then .denied .notPermitted
  else if !k.holds s.clock s.deskKey then .denied .condition
  else match s.clock with
    | none => if c.hasWindow then .refer .noClock else .found c
    | some t => if c.notYet t then .denied .notYet else if c.expired t then .denied .expired else .found c

/-- Step 5: lookup and record tests (R134). -/
def lookupStep (s : State) (p : Port) (record : Option Cred) : Lookup :=
  match record with
  | some c => recordStep s p c
  | none => if (s.lane (portLane p)).lsv.mode = .lockdown then .denied .lockdown else .refer .notInTable

/-! ## Appends (R47, R137, R139, R156) -/

/-- The append request of a read or of a conclusion (R137, R156). -/
def permitReq (s : State) (p : Port) (o : Origin) (n : Nat) (cls : Option ClassNo) (allowance : Nat) (soft : Bool) : AppendReq where
  dir := portDir p
  origin := o
  credential := some n
  cls := cls
  reader := some p
  allowance := allowance
  soft := soft
  escort := (cls.map fun k => (s.cst.cls k).escort).getD false
  needsEscort := (cls.map fun k => (s.cst.cls k).needsEscort).getD false

/-- How an append ends a decision: GRANT with a reason when the permit is READY, WAIT ESCORT otherwise (R137). -/
def grantEnding (r : Reason) : PermitState → Ending
  | .ready => { verdict := .grant, reason := r, step := 9 }
  | .awaitingEscort => { verdict := .wait, reason := .escort, step := 9 }

/-- Steps 8 and 9: ask for an append; the state after it, how the decision ends, and what the READ notice says of it (R137). -/
def appendStep (r : Reason) (q : AppendReq) (p : Port) (s : State) : State × Ending × Option AppendInfo :=
  match append (s.env (portLane p)) q (s.work (portLane p)) with
  | .laneBusy => (s, deny .laneBusy 4, none)
  | .queueFull => (s, deny .queueFull 8, none)
  | .accepted w number st =>
    (s.absorb (portLane p) w, grantEnding r st,
     some { number := number, state := st, allowance := q.allowance, soft := q.soft })

/-! ## The read (R132, R135 to R140) -/

/-- What a read adds to the state and to its READ notice. -/
structure ReadResult where
  state : State
  ending : Ending
  append : Option AppendInfo
  referral : Option (Nat × ReferralReason)
  fallback : Option FallbackCause

/-- A read that ends without an append, a referral or a fallback. -/
def plainEnd (s : State) (e : Ending) : ReadResult := { state := s, ending := e, append := none, referral := none, fallback := none }

/-- The fallback in force for a read: its class's timeout fallback, or the lane's unknown fallback (R131, R139, R157). -/
def fallbackOf (s : State) (p : Port) (cls : Option ClassNo) : Fallback :=
  match cls with
  | some k => (s.cst.cls k).fallback
  | none => (s.lane (portLane p)).timing.unknownFallback

/-- A read that cannot be referred takes its fallback (R139). -/
def readFallback (p : Port) (n : Nat) (record : Option Cred) (cause : FallbackCause) (s : State) : ReadResult :=
  match fallbackOf s p (record.map (·.cls)) with
  | .deny => { plainEnd s (deny .noReferral 5) with fallback := some cause }
  | .grant =>
    let x := appendStep .fallback (permitReq s p .badge n (record.map (·.cls)) ((record.map (·.group)).getD 1) false) p s
    { state := x.1, ending := x.2.1, append := x.2.2, referral := none, fallback := some cause }

/-- A read sent to the referral path (R138, R152, Log 22). -/
def referRead (p : Port) (n : Nat) (record : Option Cred) (r : ReferralReason) (s : State) : ReadResult :=
  match s.noReferral with
  | some cause => readFallback p n record cause s
  | none =>
    let x := newSlot s p n (record.map (·.cls)) r
    { state := s.openSlot x
      ending := { verdict := .wait, reason := .referral, step := 5 }
      append := none
      referral := some (x.tag, r)
      fallback := none }

/-- Steps 7 to 9 of a read whose record passed (R136, R137). -/
def grantRead (p : Port) (n : Nat) (c : Cred) (s : State) : ReadResult :=
  let passback := c.presence.passback (portDir p)
  match (s.cst.cls c.cls).passback, passback with
  | .hard, true => plainEnd s (deny .passback 7)
  | mode, _ =>
    let x := appendStep .local_ (permitReq s p .badge n (some c.cls) c.group (decide (mode = .soft) && passback)) p s
    { state := x.1, ending := x.2.1, append := x.2.2, referral := none, fallback := none }

/-- Steps 5 to 9 of a read (R134 to R138). -/
def lateSteps (p : Port) (n : Nat) (record : Option Cred) (s : State) : ReadResult :=
  match lookupStep s p record with
  | .denied r => plainEnd s (deny r 5)
  | .refer r => if s.held n then plainEnd s (deny .duplicate 6) else referRead p n record r s
  | .found c => if s.held n then plainEnd s (deny .duplicate 6) else grantRead p n c s

/-- The READ notice of a read (R140); the class stands in it when the record was looked up and found. -/
def readBody (p : Port) (n : Nat) (cls : Option ClassNo) (r : ReadResult) : ReadBody where
  reader := p
  number := n
  cls := cls
  verdict := r.ending.verdict
  reason := r.ending.reason
  append := r.append
  referral := r.referral
  fallback := r.fallback
  step := r.ending.step

/-- The end of a read: the verdict to the reader, then the READ notice (R140). -/
def finishRead (p : Port) (n : Nat) (cls : Option ClassNo) (r : ReadResult) : State :=
  (r.state.sendReader p (.verdict r.ending.verdict r.ending.reason n)).post (laneNumber (portLane p)) (.read (readBody p n cls r))

/-- A read is taken: the whole decision (R132 to R140). -/
def State.read (p : Port) (n : Nat) (s : State) : State :=
  match earlySteps s p with
  | some e => finishRead p n none (plainEnd s e)
  | none =>
    let record := findCred n s.cst.creds
    finishRead p n (record.map (·.cls)) (lateSteps p n record s)

/-! ## The conclusion of a referral (R155 to R157, R160) -/

/-- Step 2 of the re-check (R156). -/
def decidedModeStep (s : State) (p : Port) (cls : Option ClassNo) : Option Ending :=
  if (s.lane (portLane p)).lsv.mode = .lockdown then
    match cls with
    | none => some (deny .lockdown 2)
    | some k => if (s.cst.cls k).lockdownPass then none else some (deny .lockdown 2)
  else modeStep (s.lane (portLane p)).lsv.mode

/-- Steps 2, 3, 4 and 6 of the re-check (R156). -/
def recheck (s : State) (p : Port) (n : Nat) (cls : Option ClassNo) : Option Ending :=
  let l := s.lane (portLane p)
  (decidedModeStep s p cls).or
    ((healthStep l.lsv (portDir p)).or
      ((claimStep l.pq.claim (portDir p)).or (if s.held n then some (deny .duplicate 6) else none)))

/-- A GRANT concluded by the re-check (R156); the slot has been freed. -/
def concludeGrant (r : Reason) (x : Slot) (cls : Option ClassNo) (allowance : Nat) (s : State) :
    State × Ending × Option AppendInfo :=
  match recheck s x.reader x.number cls with
  | some e => (s, e, none)
  | none => appendStep r (permitReq s x.reader .referred x.number cls allowance false) x.reader s

/-- The READ notice of a conclusion (R160). -/
def conclusionBody (x : Slot) (cls : Option ClassNo) (by_ : Option Link) (e : Ending) (a : Option AppendInfo) : ConclusionBody where
  reader := x.reader
  number := x.number
  cls := cls
  verdict := e.verdict
  reason := e.reason
  tag := x.tag
  referralReason := x.reason
  decidedBy := by_
  append := a
  step := e.step

/-- The end of a conclusion: the verdict to the reader, then the READ notice (R160). -/
def finishConclusion (x : Slot) (cls : Option ClassNo) (by_ : Option Link) (r : State × Ending × Option AppendInfo) : State :=
  (r.1.sendReader x.reader (.verdict r.2.1.verdict r.2.1.reason x.number)).post (laneNumber (portLane x.reader))
    (.conclusion (conclusionBody x cls by_ r.2.1 r.2.2))

/-- The group allowance that a deadline's GRANT takes (R157). -/
def deadlineAllowance (s : State) (n : Nat) : Nat := ((findCred n s.cst.creds).map (·.group)).getD 1

/-- A slot is settled by its deadline (R157). Under a fallback of DENY no rule names a decided class: that the READ notice carries the slot's
class is a choice of the model (Log 55). -/
def settleByDeadline (x : Slot) (s : State) : State :=
  let freed := s.freeSlot x.tag
  match fallbackOf s x.reader x.cls with
  | .deny => finishConclusion x x.cls none (freed, deny .referralTimeout 5, none)
  | .grant => finishConclusion x x.cls none (concludeGrant .fallback x x.cls (deadlineAllowance s x.number) freed)

/-- A referral deadline falls due (R157). -/
def State.referralDue (tag : Nat) (s : State) : State :=
  match s.slot tag with
  | none => s
  | some x => if due s.tmb.ms x.deadline then (settleByDeadline x s).refresh (portLane x.reader) else s

end Sys2Proof.Machine
end

