-- ==== Sys2Proof/Machine/TableRequests.lean ====
section
/-! DEFINITION. The requests to the Credential Store (R127, R142 to R146) and DECIDE (R154 to R156). -/

namespace Sys2Proof.Machine

/-! ## Replies and the BUSY test (R142) -/

/-- The record count that every reply to a table or class request carries (R142). -/
def State.countBytes (s : State) : List Byte := fld 2 s.cst.creds.length

/-- A table or class request refused, its reply with the record count (R142, Log 24). -/
def tableRefused (s : State) (st : Status) : Judged := { state := s, status := st, body := s.countBytes }

/-- A table or class request carried out: the reply's own fields, then the record count (R142). -/
def tableDone (s : State) (body : List Byte) : Judged := answered s (body ++ s.countBytes)

/-- Replace the credential table. -/
def State.setCreds (cs : List Cred) (s : State) : State := { s with cst := { s.cst with creds := cs } }

/-! ## CRED_PUT (R143) -/

/-- The record that a CRED_PUT asks for, with the presence and last passage fields of a new record; none when it is refused
BAD_VALUE. -/
def putRequest (p : List Byte) : Option Cred :=
  let from_ := bitSet (byteAt p 11) 0
  let until_ := bitSet (byteAt p 11) 1
  let uses := bitSet (byteAt p 11) 2
  match classOfByte (byteAt p 8), CredState.ofCode (byteAt p 9) with
  | some cls, some state =>
    let c : Cred :=
      { number := natAt p 0 8
        cls := cls
        state := state
        validFrom := fieldIf from_ (natAt p 12 4)
        validUntil := fieldIf until_ (natAt p (12 + sizeIf from_ 4) 4)
        uses := fieldIf uses (byteAt p (12 + sizeIf from_ 4 + sizeIf until_ 4))
        group := byteAt p 10
        presence := .unknown
        lastTime := none
        lastLane := none }
    if byteAt p 11 < 8 ∧ c.ok = true then some c else none
  | _, _ => none

/-- A record put over one that has its number keeps presence, last passage time and last lane (R143). -/
def Cred.putOver (old new : Cred) : Cred :=
  { new with presence := old.presence, lastTime := old.lastTime, lastLane := old.lastLane }

/-- CRED_PUT as the Credential Store judges it (R143): INSERTED 1, REPLACED 2. -/
def judgeCredPut (p : List Byte) (s : State) : Judged :=
  if s.saving then tableRefused s .busy
  else match putRequest p with
    | none => tableRefused s .badValue
    | some c =>
      match findCred c.number s.cst.creds with
      | some old => tableDone (s.setCreds (insertCred (old.putOver c) s.cst.creds)) (b1 2)
      | none =>
        if Config.maxRecords ≤ s.cst.creds.length then tableRefused s .tableFull
        else tableDone (s.setCreds (insertCred c s.cst.creds)) (b1 1)

/-! ## CRED_DROP, CRED_CLEAR (R144) -/

/-- CRED_DROP as the Credential Store judges it (R144). -/
def judgeCredDrop (p : List Byte) (s : State) : Judged :=
  if s.saving then tableRefused s .busy
  else match findCred (natAt p 0 8) s.cst.creds with
    | none => tableRefused s .notFound
    | some _ => tableDone (s.setCreds (dropCred (natAt p 0 8) s.cst.creds)) []

/-- CRED_CLEAR as the Credential Store judges it (R144). -/
def judgeCredClear (_p : List Byte) (s : State) : Judged :=
  if s.saving then tableRefused s .busy else tableDone (s.setCreds []) (fld 2 s.cst.creds.length)

/-! ## CRED_GET, CRED_SCAN (R145) -/

/-- CRED_GET (R145). -/
def judgeCredGet (p : List Byte) (s : State) : Judged :=
  match findCred (natAt p 0 8) s.cst.creds with
  | none => tableRefused s .notFound
  | some c => tableDone s c.packed

/-- A count in which 0 stands for 8 (R145, R184). -/
def countOf (n : Nat) : Nat := if n = 0 then 8 else n

/-- The reply of a CRED_SCAN: record count, records, next number (R145, Table 12-4). -/
def scanBytes (start count : Nat) (s : State) : List Byte :=
  let above := s.cst.creds.filter fun c => decide (start ≤ c.number)
  s.countBytes ++ listField ((above.take count).map Cred.packed) ++ optNum 8 ((above.drop count).head?.map (·.number))

/-- CRED_SCAN (R145). -/
def judgeCredScan (p : List Byte) (s : State) : Judged :=
  if 8 < byteAt p 8 then tableRefused s .badValue else answered s (scanBytes (natAt p 0 8) (countOf (byteAt p 8)) s)

/-! ## PRESENCE_SET, PRESENCE_RESET (R127) -/

/-- PRESENCE_SET (R127). -/
def judgePresenceSet (p : List Byte) (s : State) : Judged :=
  if s.saving then tableRefused s .busy
  else match Presence.ofCode (byteAt p 8) with
    | none => tableRefused s .badValue
    | some x =>
      match findCred (natAt p 0 8) s.cst.creds with
      | none => tableRefused s .notFound
      | some c =>
        let c' := { c with presence := x }
        tableDone (s.setCreds (insertCred c' s.cst.creds)) c'.packed

/-- PRESENCE_RESET (R127). -/
def judgePresenceReset (_p : List Byte) (s : State) : Judged :=
  if s.saving then tableRefused s .busy
  else tableDone (s.setCreds (s.cst.creds.map fun c => { c with presence := .unknown })) []

/-! ## CLASS_SET, CLASS_GET (R146) -/

/-- CLASS_SET (R146). -/
def judgeClassSet (p : List Byte) (s : State) : Judged :=
  if s.saving then tableRefused s .busy
  else match classOfByte (byteAt p 0), classOfBytes (p.drop 1) with
    | some k, some c => tableDone { s with cst := { s.cst with classes := s.cst.classes.set k.val c k.isLt } } []
    | _, _ => tableRefused s .badValue

/-- CLASS_GET (R146). -/
def judgeClassGet (p : List Byte) (s : State) : Judged :=
  match classOfByte (byteAt p 0) with
  | none => tableRefused s .badValue
  | some k => tableDone s (s.cst.cls k).bytes

/-! ## DECIDE (R154 to R156) -/

/-- A decision of the server: DENY, or GRANT with its allowance and class (R154). -/
inductive Decision where
  | deny
  | grant (allowance : Nat) (cls : Option ClassNo)

/-- The class that a DECIDE carries: none when it is absent; no answer when it is present and above 15 (R154). -/
def decidedClass (p : List Byte) : Option (Option ClassNo) :=
  if bitSet (byteAt p 3) 0 then (classOfByte (byteAt p 4)).map some else some none

/-- The decision of a DECIDE, or none when item 1 of R154 refuses it. -/
def decision (p : List Byte) : Option Decision :=
  if 1 < byteAt p 3 then none
  else match Verdict.ofCode (byteAt p 1), decidedClass p with
    | some .deny, _ => some .deny
    | some .grant, some cls => if 1 ≤ byteAt p 2 ∧ byteAt p 2 ≤ 8 then some (.grant (byteAt p 2) cls) else none
    | _, _ => none

/-- The reply of a DECIDE that settles a slot (R154, Table 12-4). -/
def decideBytes (tag : Nat) (e : Ending) (a : Option AppendInfo) : List Byte :=
  b1 tag ++ b1 e.verdict.code ++ b1 e.reason.code ++ b1 e.step ++ optField (a.map fun x => b1 x.number ++ b1 x.state.code)

/-- A DECIDE settles a slot (R154 item 3, R155, R156). -/
def settleByDecide (l : Link) (x : Slot) (d : Decision) (s : State) : Judged :=
  let freed := s.freeSlot x.tag
  match d with
  | .deny =>
    let r := (freed, deny .referralDenied 5, (none : Option AppendInfo))
    done (portLane x.reader) .ok (finishConclusion x x.cls (some l) r) (decideBytes x.tag r.2.1 r.2.2)
  | .grant allowance cls =>
    let r := concludeGrant .referred x (cls.or x.cls) allowance freed
    done (portLane x.reader) .ok (finishConclusion x (cls.or x.cls) (some l) r) (decideBytes x.tag r.2.1 r.2.2)

/-- DECIDE as the Referral Unit judges it (R154). -/
def judgeDecide (l : Link) (p : List Byte) (s : State) : Judged :=
  match decision p with
  | none => { refused s .badValue with body := b1 (byteAt p 0) }
  | some d =>
    match s.slot (byteAt p 0) with
    | none => { refused s .late with body := b1 (byteAt p 0) }
    | some x => settleByDecide l x d s

end Sys2Proof.Machine
end

