-- ==== Sys2Proof/Machine/DeviceRequests.lean ====
section
/-! DEFINITION. The requests to the device: FETCH (R184), ROUTE (R182), CLOCK_SET (R189), DEVICE_STATUS (R196), SAVE (R192) and IDENT
(R197). -/

namespace Sys2Proof.Machine

/-! ## FETCH (R184) -/

/-- The reply of a FETCH: number returned, overflow flag as noted, number left, the notice records (R184, Table 12-4). -/
def fetchBytes (n : Nat) (p : LinkPort) : List Byte :=
  b1 (p.queue.take n).length ++ flagByte p.overflow ++ b1 (p.queue.drop n).length ++ (p.queue.take n).flatMap Notice.bytes

/-- A link after a FETCH of up to n notices (R184). -/
def LinkPort.fetched (n : Nat) (p : LinkPort) : LinkPort := { p with queue := p.queue.drop n, overflow := false }

/-- FETCH (R184). -/
def judgeFetch (l : Link) (p : List Byte) (s : State) : Judged :=
  if 8 < byteAt p 0 then refused s .badValue
  else answered (s.modLink l (LinkPort.fetched (countOf (byteAt p 0)))) (fetchBytes (countOf (byteAt p 0)) (s.link l))

/-! ## ROUTE (R182) -/

/-- One entry of a ROUTE, when its codes are codes and it leaves REFERRAL at SITE (R182). -/
def routeEntry (p : List Byte) (i : Nat) : Option (NoticeKind × Route) :=
  match NoticeKind.ofCode (byteAt p (1 + 2 * i)), Route.ofCode (byteAt p (2 + 2 * i)) with
  | some k, some r => if k = .referral ∧ r ≠ .site then none else some (k, r)
  | _, _ => none

/-- The entries of a ROUTE, or none when item 2 of R182 refuses it. -/
def routeEntries (p : List Byte) : Option (List (NoticeKind × Route)) :=
  match (List.range (byteAt p 0)).mapM (routeEntry p) with
  | none => none
  | some es => if (es.map Prod.fst).eraseDups.length = es.length then some es else none

/-- The routing table with an entry applied, an alarm-bearing kind's NONE as BOTH (R182). -/
def Routing.apply (r : Routing) (e : NoticeKind × Route) : Routing := r.put e.1 (correctedRoute e.1 e.2)

/-- ROUTE (R182). -/
def judgeRoute (p : List Byte) (s : State) : Judged :=
  if byteAt p 0 ≠ 0 ∧ s.saving = true then refused s .busy
  else match routeEntries p with
    | none => refused s .badValue
    | some es =>
      let r := es.foldl Routing.apply s.routing
      { state := { s with routing := r }
        status := if es.all (fun e => decide (correctedRoute e.1 e.2 = e.2)) then .ok else .clamped
        body := r.bytes }

/-! ## CLOCK_SET (R189) -/

/-- The clock set to a seconds value (R189). -/
def State.setClock (seconds : Nat) (s : State) : State :=
  { s with tmb := { s.tmb with valid := true, base := seconds, baseAt := s.tmb.ms } }

/-- The clock cleared (R189). -/
def State.clearClock (s : State) : State := { s with tmb := { s.tmb with valid := false } }

/-- CLOCK_SET (R189): CLEAR 0, SET 1. -/
def judgeClockSet (p : List Byte) (s : State) : Judged :=
  if byteAt p 0 = 1 then
    let t := s.setClock (natAt p 1 4)
    answered t (s.clockBytes ++ t.clockBytes)
  else if byteAt p 0 = 0 then answered s.clearClock (s.clockBytes ++ s.clearClock.clockBytes)
  else refused s .badValue

/-! ## DEVICE_STATUS, SAVE, IDENT (R196, R192, R197) -/

/-- DEVICE_STATUS changes nothing (R196). The transmit list it reports does not hold this reply yet: a choice of the model (Log 45). -/
def judgeDeviceStatus (_p : List Byte) (s : State) : Judged := answered s s.deviceStatus

/-- A save begins (R192). -/
def State.beginSave (s : State) : State :=
  { s with ims := { s.ims with saving := some { stage := .erase, written := 0, timerEnd := s.tmb.ms + Config.saveTime } } }

/-- SAVE (R192). -/
def judgeSave (_p : List Byte) (s : State) : Judged :=
  if s.saving then refused s .busy else answered s.beginSave (fld 2 s.cst.creds.length)

/-- The unit number takes a value (R197). -/
def State.setUnit (n : Nat) (s : State) : State := { s with ims := { s.ims with unit := n } }

/-- An IDENT refused, its reply with the fields that every IDENT reply carries (R197, Log 24). -/
def identRefused (s : State) (st : Status) : Judged := { state := s, status := st, body := identBytes s.ims.unit }

/-- IDENT (R197, Log 25). -/
def judgeIdent (p : List Byte) (s : State) : Judged :=
  if bitSet (byteAt p 0) 0 = true ∧ s.saving = true then identRefused s .busy
  else if 1 < byteAt p 0 then identRefused s .badValue
  else if bitSet (byteAt p 0) 0 then answered (s.setUnit (byteAt p 1)) (identBytes (byteAt p 1))
  else answered s (identBytes s.ims.unit)

end Sys2Proof.Machine
end

