-- ==== Sys2Proof/Machine/Passages.lean ====
section
/-! DEFINITION. Passage outcomes (Chapter 5): the kind of an unauthorized crossing, the update of a credential record at a completion,
PASSAGE notices and the passage tallies. -/

namespace Sys2Proof.Machine

/-! ## Unauthorized crossings (R90, R91) -/

/-- The kind of an unauthorized crossing: the first row of Table 5-1 that applies (R90). -/
def LaneState.crossingKind (l : LaneState) (d : Direction) : CrossingKind :=
  if l.lsv.mode = .service ∧ l.lsv.policy.setting d = .barred then .wrongWay
  else match l.bc.state with
    | .opened => .tailgate
    | .opening => .tailgate
    | .shut => .intrusion
    | .shutting => .intrusion
    | .stalled => .intrusion

/-- The latched alarm kind that a crossing kind raises (Table 5-2). -/
def CrossingKind.latched : CrossingKind → LatchedKind
  | .tailgate => .tailgate
  | .intrusion => .intrusion
  | .wrongWay => .wrongWay

/-- Change the tallies (R95). -/
def LaneState.tally (f : Tallies → Tallies) (l : LaneState) : LaneState := l.modLsv fun v => { v with tallies := f v.tallies }

/-- Count a violation of a crossing kind (Table 5-4). -/
def Tallies.crossing (k : CrossingKind) (t : Tallies) : Tallies :=
  match k with
  | .tailgate => { t with tailgate := t.tailgate + 1 }
  | .intrusion => { t with intrusion := t.intrusion + 1 }
  | .wrongWay => { t with wrongWay := t.wrongWay + 1 }

/-- Count a LOST drop (Table 5-4). -/
def Tallies.lostOne (t : Tallies) : Tallies := { t with lost := t.lost + 1 }

/-- Count an overflow frame (Table 5-4). -/
def Tallies.overflowOne (t : Tallies) : Tallies := { t with overflowFrames := t.overflowFrames + 1 }

/-- Count a PASSAGE notice (Table 5-4). -/
def Tallies.passage (ended : PassageEnd) (d : Direction) (t : Tallies) : Tallies :=
  match ended, d with
  | .backout, _ => { t with backouts := t.backouts + 1 }
  | .completed, .entry => { t with completedEntry := t.completedEntry + 1 }
  | .completed, .exit => { t with completedExit := t.completedExit + 1 }

/-- An unauthorized crossing reaches the Lane Supervisor: alarm kind, tally, and VIOLATION notice (R37, R91, R95). -/
def reportCrossing (e : Env) (d : Direction) (t : Track) (w : Work) : Work :=
  let kind := w.lane.crossingKind d
  (w.mod fun l => (l.raise e.now kind.latched).tally (Tallies.crossing kind)).emit
    (.crossing kind t.number d t.ext w.lane.bc.state w.lane.lsv.mode)

/-! ## The credential record (R92, R93) -/

/-- The presence that a completion in a direction gives (R92). -/
def Presence.after : Direction → Presence
  | .entry => .inside
  | .exit => .outside

/-- A record after a completion: presence, last passage time and last lane (R92). -/
def Cred.passed (e : Env) (d : Direction) (c : Cred) : Cred :=
  { c with presence := Presence.after d, lastTime := e.clock, lastLane := some e.lane }

/-- A record after one of its uses is counted; the flag tells that the completion made it SPENT (R93). A record that was SPENT already
and loses its last use is flagged too: a choice of the model (Log 42). -/
def Cred.counted (c : Cred) : Cred × Bool :=
  match c.uses with
  | none => (c, false)
  | some u => if u ≤ 1 then ({ c with state := .spent, uses := none }, true) else ({ c with uses := some (u - 1) }, false)

/-- The credential number that a copy carries to the Credential Store: origin BADGE, REFERRED or RETURNED (R92). -/
def PermitCopy.updates (c : PermitCopy) : Option Nat :=
  match c.origin with
  | .badge => c.credential
  | .referred => c.credential
  | .returned => c.credential
  | .pulse => none
  | .free => none

/-- Replace a record by number. -/
def putCred (c : Cred) (cs : List Cred) : List Cred := cs.map fun x => if x.number = c.number then c else x

/-- A completion reaches the Credential Store: the table after it, and the record field of its PASSAGE notice (R92 to R94,
Log 19). -/
def recordPassage (e : Env) (mode : Mode) (d : Direction) (copy : Option PermitCopy) (cs : List Cred) : List Cred × RecordOutcome :=
  match copy.bind (·.updates) with
  | none => (cs, .notApplied)
  | some n =>
    if mode = .egress then (cs, .notApplied)
    else match cs.find? fun c => c.number == n with
      | none => (cs, .absent)
      | some c =>
        let after := (c.passed e d).counted
        (putCred after.1 cs, if after.2 then .spent else .updated)

/-! ## PASSAGE (R94, R95) -/

/-- The PASSAGE notice of a track's end (Table 5-3). -/
def passageBody (e : Env) (mode : Mode) (ended : PassageEnd) (d : Direction) (r : RecordOutcome) (t : Track) : PassageBody where
  track := t.number
  ended := ended
  dir := d
  copy := t.bound
  duration := e.now - t.born
  violation := t.violated
  exempt := t.exempt
  egress := decide (mode = .egress)
  record := r

/-- Post a PASSAGE notice and count it (R94, R95). -/
def reportPassage (e : Env) (ended : PassageEnd) (d : Direction) (r : RecordOutcome) (t : Track) (w : Work) : Work :=
  (w.mod (LaneState.tally (Tallies.passage ended d))).emit (.passage (passageBody e w.lane.lsv.mode ended d r t))

/-- A completion is handed on (R38, R92 to R94). -/
def completeTrack (e : Env) (d : Direction) (t : Track) (w : Work) : Work :=
  let updated := recordPassage e w.lane.lsv.mode d t.bound w.creds
  reportPassage e .completed d updated.2 t { w with creds := updated.1 }

/-- A backout is handed on: to the Permit Queue when the track is bound, and to passage reporting (R39). -/
def backOutTrack (e : Env) (d : Direction) (t : Track) (w : Work) : Work :=
  let returned :=
    match t.bound with
    | some c => giveBack e d c w
    | none => w
  reportPassage e .backout d .notApplied t returned

/-- A track is dropped LOST (R40). -/
def loseTrack (cause : LostCause) (t : Track) (w : Work) : Work :=
  (w.mod (LaneState.tally Tallies.lostOne)).emit (.lost t.number t.dir t.ext cause (t.bound.bind (·.credential)))

end Sys2Proof.Machine
end

