-- ==== Sys2Proof/Machine/Supervisor.lean ====
section
/-! DEFINITION. What the Lane Supervisor does on one lane (Chapters 5 and 6): applying modes, the pending mode, EXEMPT marking, the desk
hold, alarm clearing and acknowledgement, and the lane reset. -/

namespace Sys2Proof.Machine

/-! ## Modes (R107, R111 to R117) -/

/-- Apply a mode and policy and empty the pending slot (R107, R112). -/
def LaneState.applyMode (m : Mode) (p : Policy) (l : LaneState) : LaneState :=
  l.modLsv fun v => { v with mode := m, policy := p, pending := none }

/-- Apply a mode and post MODE_APPLIED (R107, R122). -/
def applyMode (m : Mode) (p : Policy) (cause : ModeCause) (link : Option Link) (w : Work) : Work :=
  (w.mod (LaneState.applyMode m p)).emitLane (.modeApplied cause link)

/-- Drop the pending mode, posting PENDING_DISCARDED when the slot held one (R111, R114, R116). -/
def discardPending (cause : ModeCause) (w : Work) : Work :=
  match w.lane.lsv.pending with
  | none => w
  | some p => (w.mod fun l => l.modLsv fun v => { v with pending := none }).emitLane (.pendingDiscarded p.mode p.policy cause)

/-- Flag every live track EXEMPT (R42). -/
def LaneState.exemptAll (l : LaneState) : LaneState :=
  l.modOt fun o => { o with tracks := o.tracks.map fun t => { t with exempt := true } }

/-- Whether the permit queue and the track list hold nothing (R111, R112). -/
def LaneState.empty (l : LaneState) : Bool := l.pq.permits.isEmpty && l.ot.tracks.isEmpty

/-- The Lane Supervisor's part of a frame event: the pending mode is applied to an empty lane (R112). -/
def pendingFrame (w : Work) : Work :=
  match w.lane.lsv.pending with
  | none => w
  | some p => if w.lane.empty then applyMode p.mode p.policy .pending none w else w

/-- A LANE_MODE target becomes the pending mode (R112). -/
def holdPending (link : Link) (m : Mode) (p : Policy) (w : Work) : Work :=
  (w.mod fun l => l.modLsv fun v => { v with pending := some { mode := m, policy := p, link := link } }).emitLane
    (.modePending m p w.lane.lsv.pending.isSome)

/-- The lane enters EGRESS, after its permits and referrals are cancelled (R116, steps 3 to 5). -/
def takeEgress (e : Env) (w : Work) : Work :=
  let discarded := discardPending .egressLine w
  enterEgress e (applyMode .egress discarded.lane.lsv.policy .egressLine none discarded)

/-! ## Desk hold (R118 to R120) -/

/-- Whether the lane is under desk hold. -/
def LaneState.held (l : LaneState) : Bool := l.lsv.hold.isSome

/-- Set or renew the desk hold (R118). -/
def setHold (e : Env) (minutes : Nat) (w : Work) : Work :=
  (w.mod fun l => l.modLsv fun v => { v with hold := some (e.now + minutes * 60000) }).emitLane
    (.holdSet minutes w.lane.held)

/-- Remove the desk hold (R120). -/
def dropHold (event : LaneEvent) (w : Work) : Work :=
  (w.mod fun l => l.modLsv fun v => { v with hold := none }).emitLane event

/-- The desk hold reaches its end (R120). -/
def expireHold (e : Env) (w : Work) : Work :=
  match w.lane.lsv.hold with
  | some t => if due e.now t then dropHold .holdExpired w else w
  | none => w

/-! ## Alarms (R98, R99, R101) -/

/-- Clear a latched kind (R98, R99). -/
def LaneState.clearLatched (k : LatchedKind) (l : LaneState) : LaneState :=
  l.modLsv fun v => { v with alarms := v.alarms.putLatched k .clear }

/-- Silence a condition kind that is active (R99). -/
def LaneState.silence (k : ConditionKind) (l : LaneState) : LaneState :=
  l.modLsv fun v => { v with alarms := v.alarms.putCondition k { active := true, silenced := true } }

/-- A clear deadline falls due (R98). -/
def autoClear (e : Env) (k : LatchedKind) (w : Work) : Work :=
  match (w.lane.lsv.alarms.latched k).deadline with
  | some t => if due e.now t then (w.mod (LaneState.clearLatched k)).emitLane (.alarmsAutoCleared k) else w
  | none => w

/-- The latched kinds of a list of kind codes; the empty list stands for all nine kinds (R99). Each is taken once, in code order,
whatever the order of the list: a choice of the model (Log 49). -/
def ackLatched (codes : List Nat) : List LatchedKind :=
  if codes.isEmpty then LatchedKind.all else LatchedKind.all.filter fun k => codes.contains (latchedCode k)

/-- The condition kinds of a list of kind codes, each once and in code order (R99, Log 49). -/
def ackConditions (codes : List Nat) : List ConditionKind :=
  if codes.isEmpty then ConditionKind.all else ConditionKind.all.filter fun k => codes.contains k.code

/-- Acknowledge alarms: clear the set latched kinds named, silence the active condition kinds named, and report when anything changed
(R99). -/
def ackAlarms (link : Link) (codes : List Nat) (w : Work) : Work :=
  let cleared := (ackLatched codes).filter fun k => (w.lane.lsv.alarms.latched k).set
  let silenced := (ackConditions codes).filter fun k =>
    (w.lane.lsv.alarms.condition k).active && !(w.lane.lsv.alarms.condition k).silenced
  let acked := w.mod fun l => silenced.foldl (fun m k => m.silence k) (cleared.foldl (fun m k => m.clearLatched k) l)
  if cleared.isEmpty && silenced.isEmpty then acked else acked.emitLane (.alarmsAcked cleared silenced link)

/-- The alarm set after a lane reset; the condition kinds follow their causes (R101). -/
def AlarmSet.laneReset (a : AlarmSet) : AlarmSet where
  tailgate := .clear
  intrusion := .clear
  wrongWay := .clear
  loiter := .clear
  overflow := .clear
  tamper := .clear
  jam := { a.jam with silenced := false }
  stall := { a.stall with silenced := false }
  sensor := { a.sensor with silenced := false }

end Sys2Proof.Machine
end

