-- ==== Sys2Proof/Machine/Tracker.lean ====
section
/-! DEFINITION. The Occupant Tracker's frame event (Chapter 2): shadows, groups, settling, births, direction, history and speed,
crossings, and the events of a frame handed on in the order of R22. -/

namespace Sys2Proof.Machine

/-! ## Shadows (R18) -/

/-- Add an occluded lane beam to the shadows so far, newest first: it extends the newest one when the gap is bridged (R18). -/
def shadowBeam (bridge : Nat) (found : List Extent) (j : Nat) : List Extent :=
  match found with
  | [] => [{ lo := j, hi := j }]
  | x :: rest => if j ≤ x.hi + 1 + bridge then { x with hi := j } :: rest else { lo := j, hi := j } :: x :: rest

/-- The indices of the occluded beams of a vector, ascending. -/
def occludedBeams (v : List Bool) : List Nat := v.zipIdx.filterMap fun x => if x.1 then some x.2 else none

/-- The shadows of a filtered vector, in lane order (R18). -/
def shadowsOf (bridge : Nat) (v : List Bool) : List Extent := ((occludedBeams v).foldl (shadowBeam bridge) []).reverse

/-! ## Groups (R24) -/

/-- Whether a shadow meets a track's extent widened by one beam at each end (R24). -/
def overlaps (t s : Extent) : Bool := decide (s.lo ≤ t.hi + 1) && decide (t.lo ≤ s.hi + 1)

/-- A group: its tracks with their places in the track list, and its shadows (R24). -/
structure Group where
  tracks : List (Nat × Track)
  shadows : List Extent

/-- Add a track to the groups so far: the groups whose shadows it meets become one (R24). -/
def joinGroups (gs : List Group) (t : Nat × Track) : List Group :=
  let met := gs.filter fun g => g.shadows.any (overlaps t.2.ext)
  let rest := gs.filter fun g => !g.shadows.any (overlaps t.2.ext)
  rest ++ [{ tracks := met.flatMap Group.tracks ++ [t], shadows := met.flatMap Group.shadows }]

/-- A group with its tracks in list order and its shadows in lane order. -/
def Group.ordered (g : Group) : Group where
  tracks := sortBy (fun a b => decide (a.1 < b.1)) g.tracks
  shadows := sortBy (fun a b => decide (a.lo < b.lo)) g.shadows

/-- The groups of a frame (R24). -/
def groupsOf (tracks : List Track) (shadows : List Extent) : List Group :=
  ((tracks.zipIdx.map fun x => (x.2, x.1)).foldl joinGroups (shadows.map fun s => { tracks := [], shadows := [s] })).map
    Group.ordered

/-! ## Settling (R25 to R30) -/

/-- A track's new extent, and whether it shares it (R25, R28). -/
structure Assigned where
  place : Nat
  ext : Extent
  merged : Bool

/-- The site of a birth: its shadow, and the direction of the track it splits from when it is split-born (R27, R28). -/
structure Site where
  ext : Extent
  splitFrom : Option (Option Direction)

/-- The longer of two shadows, the first on equal lengths. -/
def longer (a b : Extent) : Extent := if a.hi - a.lo < b.hi - b.lo then b else a

/-- The shadow a track keeps in a split (R28). -/
def keptShadow (d : Option Direction) (s : Extent) (ss : List Extent) : Extent :=
  match d with
  | some .entry => ss.getLast?.getD s
  | some .exit => s
  | none => ss.foldl longer s

/-- Settle a group: extents for the tracks that have a shadow, and the sites of births (Table 2-4, R30). -/
def settle : List (Nat × Track) → List Extent → List Assigned × List Site
  | [], ss => ([], ss.map fun s => { ext := s, splitFrom := none })
  | _ :: _, [] => ([], [])
  | [t], s :: ss =>
    let kept := keptShadow t.2.dir s ss
    ([{ place := t.1, ext := kept, merged := false }],
     ((s :: ss).filter fun x => decide (x ≠ kept)).map fun x => { ext := x, splitFrom := some t.2.dir })
  | t :: u :: ts, [s] => ((t :: u :: ts).map fun x => { place := x.1, ext := s, merged := true }, [])
  | t :: u :: ts, s :: r :: ss =>
    let rest := settle (u :: ts) (r :: ss)
    ({ place := t.1, ext := s, merged := false } :: rest.1, rest.2)

/-- How a track ends (R26). -/
inductive TrackEnd where
  | completed (d : Direction)
  | backedOut (d : Direction)
  | lost (cause : LostCause)

/-- The end of a track that has no shadow, or none when it coasts (R26, Table 2-5). -/
def Track.endWithoutShadow (g : Geometry) (coastLimit : Nat) (t : Track) : Option TrackEnd :=
  match t.dir with
  | some d =>
    if g.touchesFar d t.ext then some (.completed d)
    else if g.touchesStart d t.ext then some (.backedOut d)
    else if coastLimit < t.coastCount + 1 then some (.lost .coasted)
    else none
  | none =>
    if g.touchesFar .entry t.ext || g.touchesStart .entry t.ext then some (.lost .endUnset)
    else if coastLimit < t.coastCount + 1 then some (.lost .coasted)
    else none

/-- A track that takes an extent (R25, R28). -/
def Track.take (a : Assigned) (t : Track) : Track :=
  { t with ext := a.ext, merged := a.merged, coasting := false, coastCount := 0 }

/-- A track that coasts through a frame (R26). -/
def Track.coast (t : Track) : Track := { t with coasting := true, coastCount := t.coastCount + 1 }

/-- A track that ends in a frame, as it stood before: its end, and whether it crosses at its completion (R36). -/
structure Ended where
  track : Track
  ended : TrackEnd
  crosses : Bool

/-- What a frame makes of a track: it lives on, or it ends. -/
inductive Fate where
  | live (t : Track)
  | ended (x : Ended)

/-- The fate of a track of the list before the frame; a rear member that completes uncrossed crosses (R26, R36). -/
def fateOf (g : Geometry) (coastLimit : Nat) (assigned : List Assigned) (place : Nat) (t : Track) (rear : Bool) : Fate :=
  match assigned.find? fun a => a.place == place with
  | some a => .live (t.take a)
  | none =>
    match t.endWithoutShadow g coastLimit with
    | none => .live t.coast
    | some (.completed d) =>
      .ended { track := { t with crossed := t.crossed || rear }, ended := .completed d, crosses := rear && !t.crossed }
    | some (.backedOut d) => .ended { track := t, ended := .backedOut d, crosses := false }
    | some (.lost c) => .ended { track := t, ended := .lost c, crosses := false }

/-- The tracks that live on. -/
def Fate.liveTrack : Fate → Option Track
  | .live t => some t
  | .ended _ => none

/-- The tracks that end. -/
def Fate.endedTrack : Fate → Option Ended
  | .live _ => none
  | .ended x => some x

/-! ## Births (R20, R27, R28, R31) -/

/-- The direction that the ends a shadow touches give a new track (R27). -/
def Geometry.bornDirection (g : Geometry) (e : Extent) : Option Direction :=
  match decide (e.lo = 0), g.touchesTop e with
  | true, false => some .entry
  | false, true => some .exit
  | true, true => none
  | false, false => none

/-- The track born at a site (R27, R28). -/
def newTrack (g : Geometry) (now number : Nat) (s : Site) : Track where
  number := number
  dir := s.splitFrom.getD (g.bornDirection s.ext)
  ext := s.ext
  firstPos := s.ext.lo + s.ext.hi
  history := []
  peak := 0
  held := false
  crossed := false
  bound := none
  merged := false
  splitBorn := s.splitFrom.isSome
  retreating := false
  exempt := false
  coasting := false
  loitered := false
  violated := false
  coastCount := 0
  born := now
  speed := 0

/-- The births of a frame so far: the live tracks with the born ones behind them, the next number, the untracked shadows, and how many
births the Permit Queue is handed. -/
structure Births where
  tracks : List Track
  next : Nat
  untracked : List Extent
  startEnd : Nat

/-- Whether a birth is handed to the Permit Queue: a track of known direction whose shadow touches its start end (R27, R28). -/
def Geometry.startEndBirth (g : Geometry) (t : Track) : Bool :=
  match t.dir with
  | none => false
  | some d => g.touchesStart d t.ext

/-- Make a birth while the list has room (R20, R31). -/
def giveBirth (g : Geometry) (now : Nat) (b : Births) (s : Site) : Births :=
  if b.tracks.length < Config.maxTracks then
    let number := firstFree (b.tracks.map (·.number)) 255 b.next
    let t := newTrack g now number s
    { b with
      tracks := b.tracks ++ [t]
      next := next255 number
      startEnd := b.startEnd + (if g.startEndBirth t then 1 else 0) }
  else { b with untracked := b.untracked ++ [s.ext] }

/-- The list order of R20. -/
def listAhead (a b : Track) : Bool := decide (a.ext.lo < b.ext.lo) || (decide (a.ext.lo = b.ext.lo) && decide (a.ext.hi < b.ext.hi))

/-! ## Direction, history, speed (R32 to R35) -/

/-- Direction finding (R32). -/
def Track.findDirection (t : Track) : Track :=
  if t.dir.isNone && !t.coasting then
    if t.firstPos + 4 ≤ t.ext.lo + t.ext.hi then { t with dir := some .entry }
    else if t.ext.lo + t.ext.hi + 4 ≤ t.firstPos then { t with dir := some .exit }
    else t
  else t

/-- The speed of a history, oldest lead first (R34). -/
def speedOf (tf vNom : Nat) (history : List Nat) : Nat :=
  match history with
  | [] => vNom
  | [_] => vNom
  | oldest :: rest => min Config.vMax ((rest.getLast?.getD oldest - oldest) * 1000 / (rest.length * tf))

/-- The newest k entries of a history (R19, R33). -/
def newest (k : Nat) (history : List Nat) : List Nat := history.drop (history.length - k)

/-- A history started or restarted at a lead (R29, R33, R34, R35). -/
def Track.startHistory (vNom lead : Nat) (held : Bool) (t : Track) : Track :=
  { t with history := [lead], peak := lead, held := held, retreating := false, speed := vNom }

/-- Retreat marking at an appended lead, against the peak lead before it (R35). -/
def retreatAfter (pitch lead peak : Nat) (was : Bool) : Bool := if peak ≤ lead then false else was || decide (lead + 2 * pitch ≤ peak)

/-- A lead appended to a history (R33 to R35). -/
def Track.appendLead (p : Nat) (t : Timing) (lead : Nat) (x : Track) : Track :=
  let history := newest t.k (x.history ++ [lead])
  { x with
    history := history
    peak := max x.peak lead
    retreating := retreatAfter p lead x.peak x.retreating
    speed := speedOf t.tf t.vNom history }

/-- The lead history of a live track in a frame: a track that has a direction and no history starts it, a rear member is held, a held
track that is no longer a rear member restarts, any other appends (R29, R33). -/
def Track.follow (g : Geometry) (t : Timing) (x : Track) (rear : Bool) : Track :=
  match x.dir with
  | none => x
  | some d =>
    if x.coasting then x
    else if x.history.isEmpty then x.startHistory t.vNom (g.lead d x.ext) rear
    else if rear then { x with held := true }
    else if x.held then x.startHistory t.vNom (g.lead d x.ext) false
    else x.appendLead g.p t (g.lead d x.ext)

/-! ## Crossing (R36, R37) -/

/-- Whether a live track crosses in this frame (R36). -/
def Track.crosses (g : Geometry) (x : Track) (rear : Bool) : Bool :=
  match x.dir with
  | none => false
  | some d => !x.crossed && !rear && decide (g.fd d ≤ g.uhi d x.ext)

/-- A crossing to be handed on: the track as it stands, and whether it ended in this frame. -/
structure Crosser where
  track : Track
  ended : Bool

/-- The frame's events at work (stage 8 of R22): the lane's work, and the tracks that ended in the frame. -/
structure Handing where
  work : Work
  ended : List Ended

/-- Change the track that a crossing is about: a live one in the list, or one that ended in the frame. -/
def Handing.modTrack (c : Crosser) (f : Track → Track) (h : Handing) : Handing :=
  if c.ended then
    { h with ended := h.ended.map fun x => if x.track.number = c.track.number then { x with track := f x.track } else x }
  else
    { h with
      work := h.work.mod fun l => l.modOt fun o =>
        { o with tracks := o.tracks.map fun t => if t.number = c.track.number then f t else t } }

/-- Run part of the lane's work while events are handed on. -/
def Handing.run (f : Work → Work) (h : Handing) : Handing := { h with work := f h.work }

/-- One crossing is handed on: bound, unauthorized, or exempt (R37, R51). -/
def handCrossing (e : Env) (d : Direction) (h : Handing) (c : Crosser) : Handing :=
  if c.track.exempt then h
  else match bindFirst (e.now + h.work.lane.timing.grantPeriod) d h.work.lane.pq.permits with
    | some (p, queue) =>
      ((h.modTrack c fun t => { t with bound := some p.copy }).run fun w =>
        settleUsed e p (w.mod fun l => l.modPq fun q => { q with permits := queue }))
    | none =>
      if h.work.lane.lsv.mode = .egress then h
      else (h.modTrack c fun t => { t with violated := true }).run (reportCrossing e d c.track)

/-- One order of two lists that each keep their own: true takes the next of the first (Log 8). -/
def interleave {α : Type} : List Bool → List α → List α → List α
  | [], xs, ys => xs ++ ys
  | true :: order, x :: xs, ys => x :: interleave order xs ys
  | false :: order, xs, y :: ys => y :: interleave order xs ys
  | true :: _, [], ys => ys
  | false :: _, xs, [] => xs

/-- The crossings of one direction, front to rear; on equal leads the tracks that ended stand ahead of the live ones (R21, R37,
Log 32). -/
def crossersOf (g : Geometry) (d : Direction) (live ended : List Crosser) : List (Direction × Crosser) :=
  let ofDir (cs : List Crosser) := cs.filter fun c => decide (c.track.dir = some d)
  let listed :=
    match d with
    | .entry => ofDir live ++ ofDir ended
    | .exit => ofDir ended ++ ofDir live
  (frontToRear (fun c => c.track.ext) g d listed).map fun c => (d, c)

/-- The completions of one direction, front to rear (R22). -/
def completersOf (g : Geometry) (d : Direction) (ended : List Ended) : List (Direction × Track) :=
  (frontToRear Track.ext g d
    (ended.filterMap fun x =>
      match x.ended with
      | .completed c => if c = d then some x.track else none
      | .backedOut _ => none
      | .lost _ => none)).map fun t => (d, t)

/-! ## The frame event (R22, R23) -/

/-- A frame up to stage 7: the live tracks, the tracks that ended, the crossings of live tracks, the births handed to the Permit Queue,
and the untracked shadows. -/
structure TrackFrame where
  ot : Ot
  ended : List Ended
  crossers : List Crosser
  startEnd : Nat
  untracked : List Extent

/-- Stages 6 and 7 on one live track, with whether it crosses. -/
def advance (g : Geometry) (t : Timing) (x : Track) (rear : Bool) : Track × Bool :=
  let followed := x.follow g t rear
  ({ followed with crossed := followed.crossed || followed.crosses g rear }, followed.crosses g rear)

/-- Stages 1 to 7 of a valid frame (R22). -/
def trackFrame (g : Geometry) (t : Timing) (now : Nat) (vector : List Bool) (o : Ot) : TrackFrame :=
  let shadows := shadowsOf t.br vector
  let settled := (groupsOf o.tracks shadows).map fun x => settle x.tracks x.shadows
  let assigned := settled.flatMap Prod.fst
  let sites := sortBy (fun a b => decide (a.ext.lo < b.ext.lo)) (settled.flatMap Prod.snd)
  let fates := (withRear o.tracks).zipIdx.map fun x => fateOf g t.c assigned x.2 x.1.1 x.1.2
  let births := sites.foldl (giveBirth g now)
    { tracks := fates.filterMap Fate.liveTrack, next := o.next, untracked := [], startEnd := 0 }
  let found := (sortBy listAhead births.tracks).map Track.findDirection
  let advanced := (withRear found).map fun x => advance g t x.1 x.2
  { ot := { tracks := advanced.map Prod.fst, shadows := shadows, untracked := !births.untracked.isEmpty, next := births.next }
    ended := fates.filterMap Fate.endedTrack
    crossers := advanced.filterMap fun x => if x.2 then some { track := x.1, ended := false } else none
    startEnd := births.startEnd
    untracked := births.untracked }

/-- A backout or LOST drop is handed on (stage 8.1 of R22). -/
def handEnd (e : Env) (w : Work) (x : Ended) : Work :=
  match x.ended with
  | .backedOut d => backOutTrack e d x.track w
  | .lost c => loseTrack c x.track w
  | .completed _ => w

/-- Run the free-direction service once for each birth handed on (stage 8.2 of R22, R59). -/
def handBirths (e : Env) : Nat → Work → Work
  | 0, w => w
  | n + 1, w => handBirths e n (freeService e w)

/-- The loiter test of one live track (R41). -/
def Track.loiters (now loiterTime : Nat) (t : Track) : Bool := !t.loitered && decide (loiterTime * 1000 ≤ now - t.born)

/-- LOITER is handed on for one track: alarm and notice (R41). -/
def reportLoiter (e : Env) (w : Work) (t : Track) : Work :=
  (w.mod (LaneState.raise e.now .loiter)).emit (.loiter t.number t.dir t.ext (e.now - t.born))

/-- The loiters of a frame; none in EGRESS (R41). Their order among themselves is the list order, a choice of the model (Log 41). -/
def handLoiters (e : Env) (w : Work) : Work :=
  if w.lane.lsv.mode = .egress then w
  else
    let loiterers := w.lane.ot.tracks.filter (Track.loiters e.now w.lane.timing.loiter)
    loiterers.foldl (reportLoiter e)
      (w.mod fun l => l.modOt fun o =>
        { o with tracks := o.tracks.map fun t => { t with loitered := t.loitered || t.loiters e.now l.timing.loiter } })

/-- The overflow of a frame: alarm and tally at each, notice at the first of a run, its extents in lane order (R31, R91, R95, Log 58). -/
def handOverflow (e : Env) (before : Bool) (untracked : List Extent) (w : Work) : Work :=
  if untracked.isEmpty then w
  else
    let raised := w.mod fun l => (l.raise e.now .overflow).tally Tallies.overflowOne
    if before then raised else raised.emit (.overflow untracked)

/-- The crossings of a frame, in an order that keeps each direction front to rear (stage 8.3 of R22, Log 8). -/
def handCrossings (e : Env) (order : List Bool) (f : TrackFrame) (h : Handing) : Handing :=
  let live := f.crossers
  let ended := f.ended.filterMap fun x => if x.crosses then some { track := x.track, ended := true } else none
  let g := h.work.lane.geo
  (interleave order (crossersOf g .entry live ended) (crossersOf g .exit live ended)).foldl
    (fun k c => handCrossing e c.1 k c.2) h

/-- The completions of a frame (stage 8.4 of R22, Log 8). -/
def handCompletions (e : Env) (order : List Bool) (h : Handing) : Work :=
  let g := h.work.lane.geo
  (interleave order (completersOf g .entry h.ended) (completersOf g .exit h.ended)).foldl
    (fun w c => completeTrack e c.1 c.2 w) h.work

/-- Stage 8 of a valid frame (R22). -/
def handEvents (e : Env) (order : FrameOrder) (before : Bool) (f : TrackFrame) (w : Work) : Work :=
  let left := f.ended.foldl (handEnd e) (w.mod fun l => { l with ot := f.ot })
  let crossed := handCrossings e order.crossings f { work := handBirths e f.startEnd left, ended := f.ended }
  handOverflow e before f.untracked (handLoiters e (handCompletions e order.completions crossed))

/-- The tracker takes a frame result: the whole of R22 on a valid one, nothing on an invalid one (R22, R23). The first overflow frame of a
run is told by the untracked flag as it stands, which a lane reset has cleared: a choice of the model (Log 51). -/
def trackerFrame (e : Env) (order : FrameOrder) (w : Work) : Work :=
  if w.lane.bsu.result.valid then
    handEvents e order w.lane.ot.untracked
      (trackFrame w.lane.geo w.lane.frameTiming e.now w.lane.bsu.result.vector w.lane.ot) w
  else w

/-- The Permit Queue's part of a frame event: the claim is worked out; when it has cleared, the free-direction service runs (R48,
R59, Log 10). -/
def claimFrame (e : Env) (w : Work) : Work :=
  let found := w.lane.claimNow
  let noted := w.mod fun l => l.modPq fun q => { q with claim := found, frameClaim := found }
  if found = none ∧ w.lane.pq.frameClaim ≠ none then freeService e noted else noted

/-- Keep the tracker as a frame event leaves it, for LANE_TRACKS (R43). -/
def LaneState.recordTracks (l : LaneState) : LaneState :=
  { l with reported := { geo := l.geo, untracked := l.ot.untracked, shadows := l.ot.shadows, tracks := l.ot.tracks } }

/-- A chain read completes: a marked one is dropped; any other runs the Beam Scan Unit, the tracker, the claim, the pending mode and the
Barrier Controller in turn, and the tracker is kept as it then stands (R9, R22, R43, R48, R76, R112). A dropped read hands the tracker no
frame result and is no frame event of it (Log 48). -/
def frameEvent (e : Env) (chain : List (Option BarAnswer)) (order : FrameOrder) (w : Work) : Work :=
  match w.lane.bsu.read with
  | .idle => w
  | .discarding => w.mod fun l => l.modBsu fun b => { b with read := .idle }
  | .reading =>
    (barrierFrame e (pendingFrame (claimFrame e (trackerFrame e order (scanFrame e chain w))))).mod LaneState.recordTracks

end Sys2Proof.Machine
end

