-- ==== Sys2Proof/Machine/LaneRequests.lean ====
section
/-! DEFINITION. The requests that carry a lane, each judged by its owning block: LANE_MODE, LANE_GEOMETRY, LANE_TIMING, the three lane
queries, LANE_RESET, PULSE, CANCEL, ALARM_ACK, RESTORE, HOLD and RELEASE. -/

namespace Sys2Proof.Machine

/-! ## LANE_MODE (R110 to R114) -/

/-- The fields of a valid LANE_MODE. -/
structure ModeRequest where
  start : Bool
  current : Bool
  mode : Mode
  policy : Policy
  force : Bool

/-- Whether a scope byte names the running lane: CURRENT 0 or BOTH 2 (R110). -/
def scopeCurrent (n : Nat) : Bool := decide (n = 0) || decide (n = 2)

/-- Whether a scope byte names the start settings: START 1 or BOTH 2 (R110). -/
def scopeStart (n : Nat) : Bool := decide (n = 1) || decide (n = 2)

/-- The LANE_MODE that a payload holds, or none when item 4 of R110 refuses it. -/
def modeRequest (p : List Byte) : Option ModeRequest :=
  match Mode.ofCode (byteAt p 2), policyOfBytes (byteAt p 3) (byteAt p 4), flagOf (byteAt p 5) with
  | some m, some policy, some force =>
    if byteAt p 1 ≤ 2 ∧ m ≠ .egress ∧ (m = .dark → scopeCurrent (byteAt p 1) = false) then
      some
        { start := scopeStart (byteAt p 1)
          current := scopeCurrent (byteAt p 1)
          mode := m
          policy := policy
          force := force }
    else none
  | _, _, _ => none

/-- The start mode and policy are set (R109, R110). -/
def LaneState.setStart (m : Mode) (p : Policy) (l : LaneState) : LaneState :=
  l.modLsv fun v => { v with startMode := m, startPolicy := p }

/-- The Lane Supervisor's part of a LOCKDOWN: EXEMPT marks under FORCE, the mode, the pending mode dropped, MODE_APPLIED (R114). -/
def takeLockdown (link : Link) (r : ModeRequest) (w : Work) : Work :=
  let marked := if r.force then w.mod LaneState.exemptAll else w
  let applied := marked.mod fun l => l.modLsv fun v => { v with mode := .lockdown, policy := r.policy }
  (discardPending .lockdown applied).emitLane (.modeApplied .lockdown (some link))

/-- LOCKDOWN is applied (R114). -/
def State.lockdown (k : Lane) (link : Link) (r : ModeRequest) (s : State) : State :=
  ((s.runLane k fun _ w => cancelAll w).closeLane k .lockdown).runLane k fun _ w => takeLockdown link r w

/-- A forced application (R113). -/
def State.forceMode (k : Lane) (link : Link) (r : ModeRequest) (s : State) : State :=
  ((s.runLane k fun _ w => cancelAll w).closeLane k .forced).runLane k fun _ w =>
    applyMode r.mode r.policy .forced (some link) (w.mod LaneState.exemptAll)

/-- The case of R111 that handles a target for the running lane; the status of the reply beside the state. -/
def State.changeMode (k : Lane) (link : Link) (r : ModeRequest) (s : State) : State × Status :=
  let l := s.lane k
  if r.mode = .lockdown then (s.lockdown k link r, .ok)
  else if r.mode = l.lsv.mode ∧ r.policy = l.lsv.policy then
    (s.runLane k fun _ w => applyMode r.mode r.policy .request (some link) (discardPending .request w), .ok)
  else if r.force then (s.forceMode k link r, .ok)
  else if l.empty then (s.runLane k fun _ w => applyMode r.mode r.policy .request (some link) w, .ok)
  else (s.runLane k fun _ w => holdPending link r.mode r.policy w, .pending)

/-- LANE_MODE as the Lane Supervisor judges it (R110). -/
def judgeLaneMode (l : Link) (k : Lane) (p : List Byte) (s : State) : Judged :=
  if s.heldFor l k then refused s .held
  else if scopeCurrent (byteAt p 1) = true ∧ (s.lane k).lsv.mode = .egress then refused s .egress
  else if scopeStart (byteAt p 1) = true ∧ s.saving = true then refused s .busy
  else match modeRequest p with
    | none => refused s .badValue
    | some r =>
      let started := if r.start then s.modLane k (LaneState.setStart r.mode r.policy) else s
      let x := if r.current then started.changeMode k l r else (started, .ok)
      done k x.2 x.1 (x.1.lane k).lsv.modeBytes

/-! ## LANE_GEOMETRY and LANE_TIMING (R5, R6, R180) -/

/-- Apply a valid geometry and judge the SENSOR condition (R6, R13). -/
def State.setGeometry (k : Lane) (g : Geometry) (s : State) : State :=
  s.runLane k fun _ w => judgeSensor (w.mod (LaneState.applyGeometry g))

/-- LANE_GEOMETRY as the Beam Scan Unit judges it (R5). -/
def judgeLaneGeometry (l : Link) (k : Lane) (p : List Byte) (s : State) : Judged :=
  let lane := s.lane k
  if s.heldFor l k then refused s .held
  else if lane.lsv.mode = .egress then refused s .egress
  else if s.saving then refused s .busy
  else if (lane.lsv.mode ≠ .dark ∧ lane.lsv.mode ≠ .closed) ∨ lane.ot.tracks ≠ [] then refused s .notClosed
  else match geometryOfBytes (p.drop 1) with
    | none => refused s .badValue
    | some written =>
      let g := written.resolved
      if g.ok then done k .ok (s.setGeometry k g) (b1 (laneNumber k) ++ g.bytes) else refused s .badValue

/-- What changed timing settings do at once: new vote count, shorter histories, a frame period other than the one in force (R7, R19).
The period itself comes into force at the next restart of the frame timer. -/
def LaneState.applyTiming (t : Timing) (l : LaneState) : LaneState :=
  let counters := if t.v = l.timing.v then l.bsu.beams else l.bsu.beams.map fun b => { b with counter := 0 }
  let trim (h : List Nat) := if t.tf = l.bsu.period then newest t.k h else newest 1 h
  { l with
    timing := t
    bsu := { l.bsu with beams := counters }
    ot := { l.ot with tracks := l.ot.tracks.map fun x => { x with history := trim x.history } } }

/-- LANE_TIMING as R180 judges it. -/
def judgeLaneTiming (l : Link) (k : Lane) (p : List Byte) (s : State) : Judged :=
  if s.heldFor l k then refused s .held
  else if (s.lane k).lsv.mode = .egress then refused s .egress
  else if s.saving then refused s .busy
  else match timingOfBytes (p.drop 1) with
    | none => refused s .badValue
    | some t =>
      done k (if t.clamped = t then .ok else .clamped) (s.modLane k (LaneState.applyTiming t.clamped))
        (b1 (laneNumber k) ++ t.clamped.bytes)

/-! ## Queries (R15, R43, R66) -/

/-- LANE_STATUS changes nothing (R15). -/
def judgeLaneStatus (k : Lane) (_p : List Byte) (s : State) : Judged := answered s (s.laneStatus k)

/-- LANE_TRACKS changes nothing (R43). -/
def judgeLaneTracks (k : Lane) (_p : List Byte) (s : State) : Judged := answered s ((s.lane k).tracksReply s.tmb.ms)

/-- LANE_PERMITS changes nothing (R66). -/
def judgeLanePermits (k : Lane) (_p : List Byte) (s : State) : Judged := answered s ((s.lane k).permitsReply s.tmb.ms)

/-! ## LANE_RESET (R121) -/

/-- The Permit Queue's part of a lane reset (R62, R67). -/
def resetQueue (w : Work) : Work := (cancelAll w).mod fun l => l.modPq fun q => { q with next := 1 }

/-- The tracker, scan, barrier and supervisor parts of a lane reset; the claim no longer rests on the tracks removed (R17, R44, R48,
R89, R101, R121). -/
def LaneState.resetLane (l : LaneState) : LaneState :=
  let tracked := ({ l with ot := Ot.reset } : LaneState).reclaim
  (tracked.resetScan.resetBarrier).modLsv fun v =>
    { v with alarms := v.alarms.laneReset, pending := none, mode := .closed }

/-- The RESET notice (R121, R122). -/
def reportReset (w : Work) : Work := w.emitLane (.reset w.lane.bc.state w.lane.lsv.health)

/-- A lane reset, block by block (R121). -/
def State.resetLane (k : Lane) (s : State) : State :=
  ((s.runLane k fun _ w => resetQueue w).closeLane k .laneReset).runLane k fun _ w => reportReset (w.mod LaneState.resetLane)

/-- LANE_RESET as the Lane Supervisor judges it (R121). -/
def judgeLaneReset (l : Link) (k : Lane) (_p : List Byte) (s : State) : Judged :=
  if s.heldFor l k then refused s .held
  else if (s.lane k).lsv.mode = .egress then refused s .egress
  else if (s.lane k).bc.state.motion.isSome then refused s .busy
  else done k .ok (s.resetLane k) []

/-! ## PULSE and CANCEL (R60, R61) -/

/-- A PULSE permit's append request (R60). -/
def pulseReq (d : Direction) (allowance : Nat) : AppendReq where
  dir := d
  origin := .pulse
  credential := none
  cls := none
  reader := none
  allowance := allowance
  soft := false
  escort := false
  needsEscort := false

/-- The direction and allowance of a PULSE, or none when item 3 of R60 refuses it. -/
def pulseFields (m : Mode) (p : List Byte) : Option (Direction × Nat) :=
  if m ≠ .dark ∧ m ≠ .closed ∧ 1 ≤ byteAt p 2 ∧ byteAt p 2 ≤ 8 then (dirOfCode (byteAt p 1)).map fun d => (d, byteAt p 2)
  else none

/-- PULSE as the Permit Queue judges it (R60). -/
def judgePulse (l : Link) (k : Lane) (p : List Byte) (s : State) : Judged :=
  if s.heldFor l k then refused s .held
  else if (s.lane k).lsv.mode = .egress then refused s .egress
  else match pulseFields (s.lane k).lsv.mode p with
    | none => refused s .badValue
    | some x =>
      match append (s.env k) (pulseReq x.1 x.2) (s.work k) with
      | .laneBusy => refused s .laneBusy
      | .queueFull => refused s .queueFull
      | .accepted w number _ => done k .ok (s.absorb k w) (b1 number)

/-- CANCEL as the Permit Queue judges it (R61). -/
def judgeCancel (l : Link) (k : Lane) (p : List Byte) (s : State) : Judged :=
  if s.heldFor l k then refused s .held
  else if (s.lane k).lsv.mode = .egress then refused s .egress
  else if byteAt p 1 = 0 then done k .ok (s.runLane k fun _ w => cancelAll w) []
  else match (s.lane k).pq.permits.find? fun x => x.number == byteAt p 1 with
    | some x => done k .ok (s.runLane k fun _ w => removePermit x .cancelled w) []
    | none => refused s .notFound

/-! ## ALARM_ACK (R99) -/

/-- The kind codes that an ALARM_ACK lists. -/
def ackCodes (p : List Byte) : List Nat := (p.drop 2).map BitVec.toNat

/-- ALARM_ACK as the Lane Supervisor judges it (R99). -/
def judgeAlarmAck (l : Link) (k : Lane) (p : List Byte) (s : State) : Judged :=
  if s.heldFor l k then refused s .held
  else if (ackCodes p).all fun c => decide (1 ≤ c ∧ c ≤ 9) then
    let acked := s.runLane k fun _ w => ackAlarms l (ackCodes p) w
    done k .ok acked ((acked.lane k).lsv.alarms.bytes s.tmb.ms)
  else refused s .badValue

/-! ## RESTORE (R117) -/

/-- Whether RESTORE may take a lane to a mode (R117). -/
def restorable (m : Mode) : Bool := decide (m = .closed) || decide (m = .service) || decide (m = .lockdown)

/-- The mode and policy of a RESTORE, or none when item 2 of R117 refuses it. -/
def restoreFields (inForce : Mode) (p : List Byte) : Option (Mode × Policy) :=
  match Mode.ofCode (byteAt p 1), policyOfBytes (byteAt p 2) (byteAt p 3) with
  | some m, some policy => if restorable m = true ∧ inForce = .egress then some (m, policy) else none
  | _, _ => none

/-- A lane leaves EGRESS: tracks EXEMPT, the cancellation of a LOCKDOWN, the mode (R117). -/
def takeRestore (link : Link) (m : Mode) (p : Policy) (w : Work) : Work :=
  let marked := w.mod LaneState.exemptAll
  applyMode m p .restore (some link) (if m = .lockdown then cancelAll marked else marked)

/-- RESTORE as the Lane Supervisor judges it (R117). -/
def judgeRestore (l : Link) (k : Lane) (p : List Byte) (s : State) : Judged :=
  if s.heldFor l k then refused s .held
  else match restoreFields (s.lane k).lsv.mode p with
    | none => refused s .badValue
    | some x =>
      if s.egressLine then refused s .egress
      else done k .ok (s.runLane k fun _ w => takeRestore l x.1 x.2 w) []

/-! ## HOLD and RELEASE (R118, R120) -/

/-- The duration that a HOLD gives: 0 stands for 10 minutes, and at most 60 (R118). -/
def holdMinutes (n : Nat) : Nat := if n = 0 then 10 else min n 60

/-- HOLD as the Lane Supervisor judges it (R118). -/
def judgeHold (l : Link) (k : Lane) (p : List Byte) (s : State) : Judged :=
  match l with
  | .site => refused s .deskOnly
  | .desk =>
    done k (if 60 < byteAt p 1 then .clamped else .ok) (s.runLane k fun e w => setHold e (holdMinutes (byteAt p 1)) w)
      (b1 (holdMinutes (byteAt p 1)))

/-- RELEASE as the Lane Supervisor judges it (R120). -/
def judgeRelease (l : Link) (k : Lane) (_p : List Byte) (s : State) : Judged :=
  match l with
  | .site => refused s .deskOnly
  | .desk => if (s.lane k).held then done k .ok (s.runLane k fun _ w => dropHold .holdReleased w) [] else refused s .notFound

end Sys2Proof.Machine
end

