-- ==== Sys2Proof/Machine/ReaderPorts.lean ====
section
/-! DEFINITION. The Reader Port Unit (Chapter 9): good and bad frames, port states, the silence test, the byte receiver (R163, R202), the
transmit list, and the meanings of the reader commands and of REFERRAL_DEADLINE. -/

namespace Sys2Proof.Machine

/-! ## Bad frames (R165) -/

/-- Post a READER notice with the port state as it stands (R171). -/
def State.postReader (p : Port) (e : ReaderEvent) (s : State) : State :=
  s.post (laneNumber (portLane p)) (.reader p e (s.port p).state)

/-- Forget the partial frame of a port (R163). -/
def ReaderPort.idle (r : ReaderPort) : ReaderPort := { r with rx := none }

/-- A bad frame is taken (R165). -/
def State.badFrame (p : Port) (s : State) : State :=
  let count := (s.port p).bad + 1
  if count ≤ (s.lane (portLane p)).timing.retryLimit then
    (s.modPort p fun r => { r.idle with bad := count }).sendReader p .nak
  else (s.modPort p fun r => { r.idle with bad := 0 }).postReader p (.readError count)

/-! ## Good frames (R164, R167 to R169) -/

/-- Step 1 of a good frame (R164). -/
def State.goodFrame (p : Port) (s : State) : State :=
  s.modPort p fun r => { r.idle with bad := 0, lastGood := some s.tmb.ms }

/-- A port takes a state. -/
def State.setPort (p : Port) (x : PortState) (s : State) : State := s.modPort p fun r => { r with state := x }

/-- A port becomes PRESENT from ABSENT (R167). -/
def State.portPresent (p : Port) (s : State) : State := (s.setPort p .present).postReader p .present

/-- A port enters TAMPERED, in the order of R168. -/
def State.tamperEntry (p : Port) (s : State) : State :=
  let left := (s.port p).state
  let k := portLane p
  (((((s.setPort p .tampered).runLane k fun _ w => tamperRemove p w).closeSlots (fun x => x.reader == p) .tamper).modLane k
    (LaneState.raise s.tmb.ms .tamper)).postReader p (.tamper left))

/-- The change of port state that a good CARD calls for (R164, R167). -/
def State.cardState (p : Port) (s : State) : State :=
  match (s.port p).state with
  | .absent => s.portPresent p
  | .present => s
  | .tampered => s

/-- The change of port state that a good STATUS calls for (R167 to R169). -/
def State.statusState (p : Port) (tamper : Bool) (s : State) : State :=
  match (s.port p).state, tamper with
  | .absent, false => s.portPresent p
  | .present, false => s
  | .tampered, false => (s.setPort p .present).postReader p .tamperCleared
  | .absent, true => s.tamperEntry p
  | .present, true => s.tamperEntry p
  | .tampered, true => s

/-- A CARD frame that passes every test of R163 but that of its number. -/
def State.cardFrame (p : Port) (n : Nat) (s : State) : State :=
  if 1 ≤ n ∧ n < 2 ^ 64 then ((s.goodFrame p).cardState p).read p n else s.badFrame p

/-- A good STATUS frame (R164). -/
def State.statusFrame (p : Port) (tamper : Bool) (s : State) : State :=
  ((s.goodFrame p).statusState p tamper).modPort p fun r => { r with tamper := tamper }

/-- The event of a CARD frame, indicators and buzzer included (R164, R100, R102). -/
def State.cardEvent (p : Port) (n : Nat) (s : State) : State := (s.cardFrame p n).refresh (portLane p)

/-- The event of a good STATUS frame, indicators and buzzer included (R164, R100, R102). -/
def State.statusEvent (p : Port) (tamper : Bool) (s : State) : State := (s.statusFrame p tamper).refresh (portLane p)

/-! ## Timed events (R163, R167) -/

/-- The millisecond count at which a partial frame is abandoned: 10 ms after its last byte (R163, Log 27). -/
def readerGapEnd (x : Partial) : Nat := x.last + 10

/-- The silence test of a port (R167). -/
def State.silenceTest (p : Port) (s : State) : State :=
  match (s.port p).lastGood with
  | none => s
  | some t =>
    if (s.port p).state ≠ .absent ∧ due s.tmb.ms (t + (s.lane (portLane p)).timing.silenceTime * 1000) = true then
      (s.setPort p .absent).postReader p (.absent (s.port p).state)
    else s

/-! ## The byte receiver (R163, R202) -/

/-- What the bytes of a frame so far amount to (R202). -/
inductive ReaderRead where
  | unfinished
  | bad
  | card (n : Nat)
  | status (tamper : Bool)
  deriving DecidableEq, Repr

/-- Whether the last byte of a frame is the CRC-8 of those before it (R163). -/
def crc8Ok (bytes : List Byte) : Bool := decide (bytes.getLast? = some (crc8 bytes.dropLast))

/-- Judge a CARD so far: its length byte, then its completion (R163, R202). -/
def judgeCard (bytes : List Byte) : ReaderRead :=
  if bytes.length < 3 then .unfinished
  else if byteAt bytes 2 = 0 ∨ 8 < byteAt bytes 2 then .bad
  else if bytes.length < 4 + byteAt bytes 2 then .unfinished
  else if crc8Ok bytes = true ∧ natAt bytes 3 (byteAt bytes 2) ≠ 0 then .card (natAt bytes 3 (byteAt bytes 2))
  else .bad

/-- Judge a STATUS so far (R163, R202). -/
def judgeStatus (bytes : List Byte) : ReaderRead :=
  if bytes.length < 4 then .unfinished
  else if crc8Ok bytes = true ∧ byteAt bytes 2 ≤ 1 then .status (decide (byteAt bytes 2 = 1))
  else .bad

/-- Judge the bytes of a frame so far; the kind byte fixes where it ends (R202). -/
def judgeReader (bytes : List Byte) : ReaderRead :=
  if bytes.length < 2 then .unfinished
  else if byteAt bytes 1 = 0x43 then judgeCard bytes
  else if byteAt bytes 1 = 0x53 then judgeStatus bytes
  else .bad

/-- Keep the bytes of a frame that is not complete. -/
def State.gatherReader (p : Port) (bytes : List Byte) (s : State) : State :=
  s.modPort p fun r => { r with rx := some { bytes := bytes, last := s.tmb.ms } }

/-- Take the bytes of a frame so far, the newest included; a completed frame is the event of its kind (R163, R202, Log 28). -/
def State.takeReader (p : Port) (bytes : List Byte) (s : State) : State :=
  match judgeReader bytes with
  | .unfinished => s.gatherReader p bytes
  | .bad => s.badFrame p
  | .card n => s.cardEvent p n
  | .status tamper => s.statusEvent p tamper

/-- A byte outside a frame: a start byte begins one, any other is discarded (R163). -/
def State.huntReader (p : Port) (b : Byte) (s : State) : State := if b = 0x5A#8 then s.gatherReader p [b] else s

/-- A byte arrives at a port; after more than 10 ms the frame before it has been abandoned as a bad frame (R163). -/
def State.readerByte (p : Port) (b : Byte) (s : State) : State :=
  match (s.port p).rx with
  | none => s.huntReader p b
  | some x => if readerGapEnd x < s.tmb.ms then (s.badFrame p).huntReader p b else s.takeReader p (x.bytes ++ [b])

/-! ## Meanings -/

/-- READER_CARD_FRAME (R164). -/
def execReaderCardFrame (p : Port) (number : Nat) (s : State) : Host.Outcome State Fault Refusal :=
  .next (s.cardEvent p number)

/-- READER_STATUS_FRAME (R164). -/
def execReaderStatusFrame (p : Port) (tamper : Bool) (s : State) : Host.Outcome State Fault Refusal :=
  .next (s.statusEvent p tamper)

/-- READER_BAD_FRAME (R165). -/
def execReaderBadFrame (p : Port) (s : State) : Host.Outcome State Fault Refusal := .next (s.badFrame p)

/-- READER_FRAME_GAP (R163): the partial frame is abandoned and taken as a bad frame. -/
def execReaderFrameGap (p : Port) (s : State) : Host.Outcome State Fault Refusal :=
  match (s.port p).rx with
  | none => .next s
  | some x => if due s.tmb.ms (readerGapEnd x) then .next (s.badFrame p) else .next s

/-- SILENCE_TEST (R167). -/
def execSilenceTest (p : Port) (s : State) : Host.Outcome State Fault Refusal := .next (s.silenceTest p)

/-- READER_FRAME_SENT (R170): the oldest frame leaves the transmit list. -/
def execReaderFrameSent (p : Port) (s : State) : Host.Outcome State Fault Refusal :=
  .next (s.modPort p fun r => { r with tx := r.tx.tail })

/-- READER_FRAME_BYTE (R163, R202). -/
def execReaderFrameByte (p : Port) (b : Byte) (s : State) : Host.Outcome State Fault Refusal := .next (s.readerByte p b)

/-- REFERRAL_DEADLINE (R157). -/
def execReferralDeadline (tag : Nat) (s : State) : Host.Outcome State Fault Refusal := .next (s.referralDue tag)

end Sys2Proof.Machine
end

