-- ==== Sys2Proof/Machine/ImageStore.lean ====
section
/-! DEFINITION. The Image Store (R190 to R193, R203): the image as bytes, its judgement, and the stages of a save, with the meanings of
the SAVE_ commands. -/

namespace Sys2Proof.Machine

/-! ## The image as bytes (R203) -/

/-- Where the header ends and the records begin (Table 12-7). -/
def headerSize : Nat := 416

/-- The size of a packed credential record (Table 12-8). -/
def recordSize : Nat := 27

/-- The header after the format code: unit number, lane settings blocks, routing table, classes, record count (R190, Table 12-7). -/
def State.headerBody (s : State) : List Byte :=
  b1 s.ims.unit ++ allLanes.flatMap (fun k => (s.lane k).settings) ++ s.routing.bytes
    ++ s.cst.classes.toList.flatMap ClassRec.bytes ++ fld 2 s.cst.creds.length

/-- The header of the image, 416 bytes. -/
def State.header (s : State) : List Byte := fld 2 Config.formatCode ++ s.headerBody

/-! ## Reading the image back (R191) -/

/-- The settings of a lane as its 40-byte block gives them. -/
structure LaneSettings where
  geo : Geometry
  timing : Timing
  startMode : Mode
  startPolicy : Policy

/-- What a good image holds. -/
structure Image where
  unit : Nat
  lanes : List LaneSettings
  routing : Routing
  classes : List ClassRec
  creds : List Cred

/-- Whether a mode may be a start mode (R109, R191). -/
def startable (m : Mode) : Bool := decide (m ≠ .egress)

/-- The lane settings that 40 bytes hold, when they pass item 4 of R191. F is tested as written, so an F of 0 fails: a choice of the model
(Log 56). -/
def laneSettings (b : List Byte) : Option LaneSettings :=
  match geometryOfBytes b, timingOfBytes (b.drop 6), Mode.ofCode (byteAt b 37), policyOfBytes (byteAt b 38) (byteAt b 39) with
  | some g, some t, some m, some p =>
    if g.ok = true ∧ t.clamped = t ∧ startable m = true then some { geo := g, timing := t, startMode := m, startPolicy := p }
    else none
  | _, _, _, _ => none

/-- The routing table that eleven route codes give, when each is a route (R191, R200). -/
def routingOf (b : List Byte) : Option Routing :=
  (NoticeKind.all.mapM fun k => (Route.ofCode (byteAt b (k.code - 1))).map fun r => (k, r)).map fun es =>
    es.foldl (fun r e => r.put e.1 e.2) .reset

/-- The record count that a header holds (Table 12-7). -/
def imageCount (b : List Byte) : Nat := natAt b 414 2

/-- The bytes of an image without its CRC: header and records. -/
def Memory.imageBytes (m : Memory) : List Byte :=
  let header := m.readBytes 0 headerSize
  header ++ m.readBytes headerSize (recordSize * imageCount header)

/-- The CRC-16 stored behind an image (Table 12-7). -/
def Memory.imageCrc (m : Memory) (size : Nat) : Nat := fromLe (m.readBytes size 2)

/-- The contents of an image whose count and CRC are good, when they pass item 4 of R191. -/
def imageContents (b : List Byte) : Option Image :=
  match (List.range 6).mapM (fun k => laneSettings ((b.drop (3 + 40 * k)).take 40)), routingOf ((b.drop 243).take 11),
      (List.range 16).mapM (fun c => classOfBytes ((b.drop (254 + 10 * c)).take 10)),
      (List.range (imageCount b)).mapM (fun i => unpackCred ((b.drop (headerSize + recordSize * i)).take recordSize)) with
  | some lanes, some routing, some classes, some creds =>
    if ascending creds then
      some { unit := byteAt b 2, lanes := lanes, routing := routing, classes := classes, creds := creds }
    else none
  | _, _, _, _ => none

/-- The format code that the flash holds. -/
def Memory.formatCode (m : Memory) : Nat := fromLe (m.readBytes 0 2)

/-- The judgement of an image read from a flash that answers; the contents beside LOADED (R191). -/
def Memory.judge (m : Memory) : StartResult × Option Image :=
  if m.formatCode = 0xFFFF then (.noImage, none)
  else if m.formatCode ≠ Config.formatCode then (.badImage, none)
  else if Config.maxRecords < imageCount (m.readBytes 0 headerSize) then (.badImage, none)
  else
    let b := m.imageBytes
    if (crc16 b).toNat ≠ m.imageCrc b.length then (.badImage, none)
    else match imageContents b with
      | none => (.badImage, none)
      | some i => (.loaded, some i)

/-! ## The end of a save (R193) -/

/-- A save ends: the store is IDLE, and the last save is recorded. -/
def State.endSave (last : LastSave) (s : State) : State := { s with ims := { s.ims with saving := none, lastSave := last } }

/-- A save fails: FAILED with its cause, the stage in progress and the records written (R193, Log 33). -/
def State.failSave (cause : SaveCause) (r : SaveRun) (s : State) : State :=
  (s.endSave (.failed cause)).post 0 (.storeFailed cause r.stage r.written)

/-- A save is done: DONE with the record count and the duration (R193). -/
def State.finishSave (r : SaveRun) (s : State) : State :=
  (s.endSave (.done s.tmb.ms)).post 0 (.storeDone r.written (s.tmb.ms - (r.timerEnd - Config.saveTime)))

/-- The save in flight goes on. -/
def State.setRun (r : SaveRun) (s : State) : State := { s with ims := { s.ims with saving := some r } }

/-- The flash takes a value. -/
def State.setFlash (m : Memory) (s : State) : State := { s with ims := { s.ims with flash := m } }

/-! ## What a stage writes (R193) -/

/-- The erased flash: every position reads hex FF. An erase that had got only so far has erased the positions below (R193, Log 7), the
two bytes of the format code in any case and at once (Log 30): a save that does not finish leaves no image. -/
def Memory.erased (taken : Option Nat) (m : Memory) : Memory :=
  match taken with
  | none => []
  | some n => m.eraseFirst (max 2 n)

/-- The bytes that a stage writes, and where, after `written` records. -/
def stageBytes (s : State) (r : SaveRun) : Nat × List Byte :=
  match r.stage with
  | .erase => (0, [])
  | .header => (0, s.header)
  | .records => (headerSize + recordSize * r.written, ((s.cst.creds.drop r.written).take 1).flatMap Cred.packed)
  | .crc =>
    (headerSize + recordSize * r.written,
     le 2 (crc16 (s.ims.flash.readBytes 0 (headerSize + recordSize * r.written))).toNat)

/-- The first bytes of a stage that the flash had taken when the save ended there; the two bytes of the format code are taken at once
(Log 7, Log 30). -/
def cutBytes (stage : SaveStage) (n : Nat) (bytes : List Byte) : List Byte :=
  match stage with
  | .header => if n < 2 then [] else bytes.take n
  | .erase | .records | .crc => bytes.take n

/-- The flash that a save leaves when it does not finish: it holds no good image (R193). Bytes that would pass R191 by themselves are
left with the first byte of the CRC not as it should be (Log 39). -/
def Memory.unfinished (m : Memory) : Memory :=
  if m.judge.1 = .loaded then m.write m.imageBytes.length (~~~(m.read m.imageBytes.length)) else m

/-- The flash after a stage of which it took all, or only the first bytes when the save ended there (R193, Log 7). -/
def State.stageWritten (taken : Option Nat) (r : SaveRun) (s : State) : Memory :=
  match r.stage with
  | .erase => s.ims.flash.erased taken
  | .header | .records | .crc =>
    let x := stageBytes s r
    match taken with
    | none => Memory.writeBytes x.1 x.2 s.ims.flash
    | some n => (Memory.writeBytes x.1 (cutBytes r.stage n x.2) s.ims.flash).unfinished

/-- The failure that a flash outcome tells, with the bytes the flash had taken. -/
def flashFailure : FlashOutcome → Option (SaveCause × Nat)
  | .ok => none
  | .noAnswer n => some (.noFlash, n)
  | .notAccepted n => some (.write, n)

/-- The stage that follows the header or a record: RECORDS while a record is left to write, then CRC (R193, Log 30). -/
def SaveRun.nextStage (r : SaveRun) (records : Nat) : SaveStage := if r.written < records then .records else .crc

/-- The run after a stage that the flash took whole (R193, Log 30). -/
def SaveRun.next (records : Nat) (r : SaveRun) : SaveRun :=
  match r.stage with
  | .erase => { r with stage := .header }
  | .header => { r with stage := r.nextStage records }
  | .records =>
    let counted := { r with written := r.written + 1 }
    { counted with stage := counted.nextStage records }
  | .crc => r

/-- A stage ends: it fails, or the flash holds its bytes and the save goes on (R193). -/
def State.stageDone (f : FlashOutcome) (r : SaveRun) (s : State) : State :=
  match flashFailure f with
  | some x => (s.setFlash (s.stageWritten (some x.2) r)).failSave x.1 r
  | none => (s.setFlash (s.stageWritten none r)).setRun (r.next s.cst.creds.length)

/-- A stage command acts on a save that is in that stage, and on nothing else (Log 2). -/
def State.onStage (stage : SaveStage) (act : SaveRun → State → State) (s : State) : State :=
  match s.ims.saving with
  | none => s
  | some r => if r.stage = stage then act r s else s

/-- Stage 4: the CRC is written, the image read back and judged (R193); positions may read back altered (Log 7). -/
def State.readBack (f : FlashOutcome) (altered : List Host.Cell) (r : SaveRun) (s : State) : State :=
  match flashFailure f with
  | some x => (s.setFlash (s.stageWritten (some x.2) r)).failSave x.1 r
  | none =>
    let written := s.setFlash (Memory.writeCells altered (s.stageWritten none r))
    if written.ims.flash.judge.1 = StartResult.loaded then written.finishSave r else written.failSave .verify r

/-- The save timer reaches its end; the stage in progress has written its first bytes (R193, Log 7). -/
def State.saveTimeout (taken : Nat) (s : State) : State :=
  match s.ims.saving with
  | none => s
  | some r => if due s.tmb.ms r.timerEnd then (s.setFlash (s.stageWritten (some taken) r)).failSave .timeout r else s

/-! ## Meanings -/

/-- SAVE_ERASE_DONE (R193). -/
def execSaveEraseDone (f : FlashOutcome) (s : State) : Host.Outcome State Fault Refusal := .next (s.onStage .erase (State.stageDone f))

/-- SAVE_HEADER_DONE (R193). -/
def execSaveHeaderDone (f : FlashOutcome) (s : State) : Host.Outcome State Fault Refusal :=
  .next (s.onStage .header (State.stageDone f))

/-- SAVE_RECORD_WRITTEN (R193). -/
def execSaveRecordWritten (f : FlashOutcome) (s : State) : Host.Outcome State Fault Refusal :=
  .next (s.onStage .records (State.stageDone f))

/-- SAVE_READBACK_DONE (R193). -/
def execSaveReadbackDone (f : FlashOutcome) (altered : List Host.Cell) (s : State) : Host.Outcome State Fault Refusal :=
  .next (s.onStage .crc (State.readBack f altered))

/-- SAVE_TIMEOUT (R193). -/
def execSaveTimeout (taken : Nat) (s : State) : Host.Outcome State Fault Refusal := .next (s.saveTimeout taken)

end Sys2Proof.Machine
end

