-- ==== Sys2Proof/Machine/LaneEvents.lean ====
section
/-! DEFINITION. The meanings of the commands that are events of a lane or of the site lines: the frame timer and the chain read, the
barrier's inputs and timers, the expiries of permits, windows, alarms and holds, the EGRESS line and the desk key. -/

namespace Sys2Proof.Machine

/-- FRAME_TIMER_EXPIRY (R8). -/
def execFrameTimerExpiry (k : Lane) (s : State) : Host.Outcome State Fault Refusal :=
  .next (s.modLane k (LaneState.frameExpiry s.tmb.ms))

/-- CHAIN_READ_COMPLETE (R9, R22, R76). -/
def execChainReadComplete (k : Lane) (chain : List (Option BarAnswer)) (order : FrameOrder) (s : State) :
    Host.Outcome State Fault Refusal :=
  .next ((s.runLane k fun e w => frameEvent e chain order w).refresh k)

/-- OPEN_LIMIT_CHANGE (R70, R72). -/
def execOpenLimitChange (k : Lane) (active : Bool) (s : State) : Host.Outcome State Fault Refusal :=
  .next ((s.runLane k fun e w => onOpenLimit e active w).refresh k)

/-- SHUT_LIMIT_CHANGE (R70, R72). -/
def execShutLimitChange (k : Lane) (active : Bool) (s : State) : Host.Outcome State Fault Refusal :=
  .next ((s.runLane k fun e w => onShutLimit e active w).refresh k)

/-- OBSTRUCT_CHANGE (R81). -/
def execObstructChange (k : Lane) (active : Bool) (s : State) : Host.Outcome State Fault Refusal :=
  .next ((s.runLane k fun e w => onObstruct e active w).refresh k)

/-- MOTION_TIMEOUT (R71). -/
def execMotionTimeout (k : Lane) (s : State) : Host.Outcome State Fault Refusal :=
  .next ((s.runLane k fun e w => stallMotion e w).refresh k)

/-- JAM_HOLD_END (R82). -/
def execJamHoldEnd (k : Lane) (s : State) : Host.Outcome State Fault Refusal :=
  .next ((s.runLane k fun e w => endJamHold e w).refresh k)

/-- PERMIT_EXPIRY (R55). -/
def execPermitExpiry (k : Lane) (number : Nat) (s : State) : Host.Outcome State Fault Refusal :=
  .next ((s.runLane k fun e w => expirePermit e number .ready .expired w).refresh k)

/-- ESCORT_TIMEOUT (R58). -/
def execEscortTimeout (k : Lane) (number : Nat) (s : State) : Host.Outcome State Fault Refusal :=
  .next ((s.runLane k fun e w => expirePermit e number .awaitingEscort .escortTimeout w).refresh k)

/-- ESCORT_WINDOW_END (R56). -/
def execEscortWindowEnd (k : Lane) (d : Direction) (s : State) : Host.Outcome State Fault Refusal :=
  .next (s.modLane k (LaneState.endWindow s.tmb.ms d))

/-- ALARM_AUTO_CLEAR (R98). -/
def execAlarmAutoClear (k : Lane) (kind : LatchedKind) (s : State) : Host.Outcome State Fault Refusal :=
  .next ((s.runLane k fun e w => autoClear e kind w).refresh k)

/-- HOLD_EXPIRY (R120). -/
def execHoldExpiry (k : Lane) (s : State) : Host.Outcome State Fault Refusal :=
  .next (s.runLane k fun e w => expireHold e w)

/-! ## The EGRESS line (R115, R116) -/

/-- A lane that is not in EGRESS takes an assertion: whole-lane cancellation, referral closure, then the mode (R116). -/
def State.egressLane (s : State) (k : Lane) : State :=
  if (s.lane k).lsv.mode = .egress then s
  else ((s.runLane k fun _ w => cancelAll w).closeLane k .egressLine).runLane k fun e w => takeEgress e w

/-- EGRESS_ASSERT (R116): every lane in turn, in the order given (Log 8); with the line already asserted nothing changes (Log 2). -/
def execEgressAssert (order : List Lane) (s : State) : Host.Outcome State Fault Refusal :=
  if s.egressLine then .next s
  else .next ((fullOrder order).foldl State.egressLane { s with egressLine := true }).refreshAll

/-- EGRESS_DEASSERT (R115): no lane changes. -/
def execEgressDeassert (s : State) : Host.Outcome State Fault Refusal := .next { s with egressLine := false }

/-- DESK_KEY_CHANGE (R129). -/
def execDeskKeyChange (asserted : Bool) (s : State) : Host.Outcome State Fault Refusal := .next { s with deskKey := asserted }

end Sys2Proof.Machine
end

