-- ==== Sys2Proof/Machine/StartUp.lean ====
section
/-! DEFINITION. Full reset and start-up (R187, R194, R195, and the reset rules of every chapter), with the meaning of FULL_RESET. -/

namespace Sys2Proof.Machine

/-! ## What full reset keeps -/

/-- A lane at full reset: its three inputs are lines, which no reset changes. -/
def LaneState.resetKeeping (old : LaneState) : LaneState :=
  LaneState.reset.modBc fun c =>
    { c with openLimit := old.bc.openLimit, shutLimit := old.bc.shutLimit, obstruct := old.bc.obstruct }

/-- The flash as the power-up or the RESET line finds it: positions may have changed (Log 7), but a save in flight stops in its stage
and leaves what R193 says. -/
def flashAtReset (r : ResetInputs) (s : State) : Memory :=
  match s.ims.saving with
  | none => Memory.writeCells r.altered s.ims.flash
  | some run => s.stageWritten (some r.saveTaken) run

/-- What the image gives: nothing with the strap low; NO_IMAGE from a flash that does not answer; otherwise the judgement of R191
(R194). -/
def startImage (r : ResetInputs) (flash : Memory) : StartResult × Option Image :=
  if !r.strap then (.notRequested, none) else if !r.flashAnswers then (.noImage, none) else flash.judge

/-- The format code that START carries: none when no image was read (R195, Log 34). -/
def startFormat (r : ResetInputs) (flash : Memory) : Option Nat :=
  if r.strap && r.flashAnswers then some flash.formatCode else none

/-- The lanes at full reset, in order. -/
def State.resetLanes (s : State) : Vector LaneState 6 :=
  #v[(s.lane 0).resetKeeping, (s.lane 1).resetKeeping, (s.lane 2).resetKeeping, (s.lane 3).resetKeeping,
     (s.lane 4).resetKeeping, (s.lane 5).resetKeeping]

/-- Every block at its full reset values, the input lines, the flash and the waiting commands kept (R16, R44, R67, R88, R106, R124, R148,
R149, R172, R187 to R189, R196, R197). -/
def State.cleared (r : ResetInputs) (s : State) : State :=
  { State.reset with
    lanes := s.resetLanes
    site := .reset []
    desk := .reset []
    tmb := { ms := min r.elapsed Config.maxMs, valid := false, base := 0, baseAt := 0 }
    ims :=
      { saving := none
        lastSave := .never
        flash := flashAtReset r s
        startResult := (startImage r (flashAtReset r s)).1
        resetCause := r.cause
        strap := r.strap
        unit := 0 }
    egressLine := s.egressLine
    deskKey := s.deskKey
    pending := s.pending }

/-! ## Loading the image (R194) -/

/-- A lane takes its settings block, the fault posture in force at once (R194). -/
def LaneState.load (x : LaneSettings) (l : LaneState) : LaneState :=
  (({ l with geo := x.geo, timing := x.timing, bsu := Bsu.reset x.geo.nb 0 } : LaneState).takePosture).modLsv fun v =>
    { v with startMode := x.startMode, startPolicy := x.startPolicy }

/-- Lane k takes its block of the image. -/
def State.loadLane (i : Image) (s : State) (k : Lane) : State :=
  match i.lanes[k.val]? with
  | none => s
  | some x => s.modLane k (LaneState.load x)

/-- The routing table of the image, corrected (R187). -/
def Routing.corrected (r : Routing) : Routing := NoticeKind.all.foldl (fun t k => t.put k (correctedRoute k (r.get k))) r

/-- The class table with the image's sixteen records. -/
def loadClasses (cs : List ClassRec) (old : Vector ClassRec 16) : Vector ClassRec 16 := Vector.ofFn fun k => cs[k.val]?.getD (old.get k)

/-- A good image is loaded in one step (R194). -/
def State.load (i : Image) (s : State) : State :=
  let t := allLanes.foldl (State.loadLane i) s
  { t with
    routing := i.routing.corrected
    cst := { creds := i.creds, classes := loadClasses i.classes t.cst.classes }
    ims := { t.ims with unit := i.unit } }

/-- Load what the image gives. -/
def State.loadStart (o : Option Image) (s : State) : State :=
  match o with
  | none => s
  | some i => s.load i

/-! ## Start-up (R194, R195) -/

/-- The START notice (R195). -/
def startBody (r : ResetInputs) (s : State) : NoticeBody :=
  .start s.ims.startResult r.cause (startFormat r s.ims.flash) s.cst.creds.length s.ims.unit s.egressLine

/-- A lane's start mode is applied, unless it is DARK (R124). -/
def applyStart (w : Work) : Work :=
  let m := w.lane.lsv.startMode
  let p := w.lane.lsv.startPolicy
  if m = .dark then w
  else applyMode m p .start none (if m = .lockdown then cancelAll w else w)

/-- A lane reads its barrier position, reporting an unknown one (R88). -/
def reportPosition (w : Work) : Work :=
  let read := w.mod LaneState.readPosition
  if read.lane.bc.positionUnknown then
    read.emitBarrier (.positionUnknown read.lane.bc.openLimit read.lane.bc.shutLimit)
  else read

/-- The frame timer starts, and with it the T_f set comes into force (R8, Table 1-3). -/
def LaneState.startFrames (now : Nat) (l : LaneState) : LaneState :=
  l.modBsu fun b => { b with frameTimer := now + l.timing.tf, period := l.timing.tf }

/-- A lane completes start-up: barrier position, start mode, EGRESS line, frame timer (R194). -/
def State.startLane (s : State) (k : Lane) : State :=
  let started := s.runLane k fun _ w => applyStart (reportPosition w)
  let sampled := if started.egressLine then started.egressLane k else started
  sampled.modLane k (LaneState.startFrames s.tmb.ms)

/-- A full reset from its beginning to the end of start-up (R194). -/
def State.fullReset (r : ResetInputs) (s : State) : State :=
  let cleared := s.cleared r
  let loaded := cleared.loadStart (startImage r cleared.ims.flash).2
  ((fullOrder r.laneOrder).foldl State.startLane (loaded.post 0 (startBody r loaded))).refreshAll

/-- FULL_RESET (R194). -/
def execFullReset (r : ResetInputs) (s : State) : Host.Outcome State Fault Refusal := .next (s.fullReset r)

end Sys2Proof.Machine
end

