-- ==== Sys2Proof/Machine/Links.lean ====
section
/-! DEFINITION. The two links (Chapter 10): which block judges each request kind (Table 10-1), the byte receiver (R174), the discards
(R175), and the meanings of the link commands and of every request. -/

namespace Sys2Proof.Machine

/-! ## Requests to their owners (R177, Table 10-1) -/

/-- The owning block's judgement of a request kind, behind the lane check where the kind carries a lane. -/
def judgeOf (l : Link) : RequestKind → List Byte → State → Judged
  | .laneMode => onLane (judgeLaneMode l)
  | .laneGeometry => onLane (judgeLaneGeometry l)
  | .laneTiming => onLane (judgeLaneTiming l)
  | .laneStatus => onLane judgeLaneStatus
  | .laneTracks => onLane judgeLaneTracks
  | .lanePermits => onLane judgeLanePermits
  | .laneReset => onLane (judgeLaneReset l)
  | .pulse => onLane (judgePulse l)
  | .cancel => onLane (judgeCancel l)
  | .alarmAck => onLane (judgeAlarmAck l)
  | .restore => onLane (judgeRestore l)
  | .hold => onLane (judgeHold l)
  | .release => onLane (judgeRelease l)
  | .credPut => judgeCredPut
  | .credGet => judgeCredGet
  | .credDrop => judgeCredDrop
  | .credScan => judgeCredScan
  | .credClear => judgeCredClear
  | .presenceSet => judgePresenceSet
  | .presenceReset => judgePresenceReset
  | .classSet => judgeClassSet
  | .classGet => judgeClassGet
  | .decideReq => judgeDecide l
  | .fetch => judgeFetch l
  | .route => judgeRoute
  | .clockSet => judgeClockSet
  | .deviceStatus => judgeDeviceStatus
  | .save => judgeSave
  | .ident => judgeIdent

/-- A received frame of a request kind: taken, checked, judged and answered (R174, R176, R177, Log 29). -/
def State.request (kind : RequestKind) (l : Link) (tag : Byte) (payload : List Byte) (s : State) : State :=
  s.take l tag kind.code (judgeFrame kind (judgeOf l kind) payload)

/-- A received frame of a kind not in Table 10-1 (R176, R177). -/
def State.unknown (l : Link) (tag kind : Byte) (s : State) : State := s.take l tag kind.toNat fun t => refused t .unknownKind

/-- A received frame of any kind (R177). -/
def State.received (l : Link) (tag kind : Byte) (payload : List Byte) (s : State) : State :=
  match RequestKind.ofCode kind.toNat with
  | some k => s.request k l tag payload
  | none => s.unknown l tag kind

/-! ## Discards (R174, R175) -/

/-- A frame is discarded for its length. -/
def State.badLength (l : Link) (s : State) : State := (s.hunt l).modLink l fun p => { p with lengthDiscards := p.lengthDiscards + 1 }

/-- A frame is discarded for its CRC. -/
def State.badCrc (l : Link) (s : State) : State := (s.hunt l).modLink l fun p => { p with crcDiscards := p.crcDiscards + 1 }

/-- A frame is abandoned on the gap. -/
def State.abandon (l : Link) (s : State) : State := (s.hunt l).countGap l

/-- The millisecond count at which a frame being gathered is abandoned: 20 ms after its last byte (R174, Log 27). -/
def linkGapEnd (x : Partial) : Nat := x.last + 20

/-! ## The byte receiver (R174) -/

/-- What the bytes of a frame so far amount to. -/
inductive LinkRead where
  | unfinished
  | badLength
  | badCrc
  | frame (tag kind : Byte) (payload : List Byte)
  deriving DecidableEq, Repr

/-- The length field of a frame (Table 12-2). -/
def frameLength (bytes : List Byte) : Nat := natAt bytes 1 2

/-- Judge a frame all of whose bytes have arrived: its CRC-16 over offsets 1 to 2 + LEN (R174, Table 12-2). -/
def judgeWhole (bytes : List Byte) : LinkRead :=
  if (crc16 ((bytes.drop 1).take (2 + frameLength bytes))).toNat = natAt bytes (3 + frameLength bytes) 2 then
    .frame (bytes.getD 3 0) (bytes.getD 4 0) ((bytes.drop 5).take (frameLength bytes - 2))
  else .badCrc

/-- Judge the bytes of a frame so far: its length field, then its completion (R174). -/
def judgeLink (bytes : List Byte) : LinkRead :=
  if bytes.length < 3 then .unfinished
  else if frameLength bytes < 2 ∨ 1024 < frameLength bytes then .badLength
  else if bytes.length < 5 + frameLength bytes then .unfinished
  else judgeWhole bytes

/-- Keep the bytes of a frame that is not complete. -/
def State.gatherLink (l : Link) (bytes : List Byte) (s : State) : State :=
  s.modLink l fun p => { p with rx := some { bytes := bytes, last := s.tmb.ms } }

/-- Take the bytes of a frame so far, the newest included; a frame that ends here is the event of its kind (R174, Log 28). -/
def State.takeLink (l : Link) (bytes : List Byte) (s : State) : State :=
  match judgeLink bytes with
  | .unfinished => s.gatherLink l bytes
  | .badLength => s.badLength l
  | .badCrc => s.badCrc l
  | .frame tag kind payload => s.received l tag kind payload

/-- A byte while hunting: hex A5 begins a frame, any other is discarded (R174). -/
def State.huntLink (l : Link) (b : Byte) (s : State) : State := if b = 0xA5#8 then s.gatherLink l [b] else s

/-- A byte arrives on a link; after more than 20 ms the frame before it has been abandoned (R174). -/
def State.linkByte (l : Link) (b : Byte) (s : State) : State :=
  match (s.link l).rx with
  | none => s.huntLink l b
  | some x => if linkGapEnd x < s.tmb.ms then (s.abandon l).huntLink l b else s.takeLink l (x.bytes ++ [b])

/-! ## Meanings of the link commands -/

/-- LINK_FRAME_BYTE (R174). -/
def execLinkFrameByte (l : Link) (b : Byte) (s : State) : Host.Outcome State Fault Refusal := .next (s.linkByte l b)

/-- LINK_FRAME_BAD_LENGTH (R174, R175). -/
def execLinkFrameBadLength (l : Link) (s : State) : Host.Outcome State Fault Refusal := .next (s.badLength l)

/-- LINK_FRAME_BAD_CRC (R174, R175). -/
def execLinkFrameBadCrc (l : Link) (s : State) : Host.Outcome State Fault Refusal := .next (s.badCrc l)

/-- LINK_FRAME_GAP (R174, R175). -/
def execLinkFrameGap (l : Link) (s : State) : Host.Outcome State Fault Refusal :=
  match (s.link l).rx with
  | none => .next s
  | some x => if due s.tmb.ms (linkGapEnd x) then .next (s.abandon l) else .next s

/-- LINK_FRAME_TX_FULL (R176): with room in the transmit list the command is no event (Log 2). -/
def execLinkFrameTxFull (l : Link) (s : State) : Host.Outcome State Fault Refusal :=
  if s.txFull l then .next (s.abandon l) else .next s

/-- LINK_REPLY_SENT (R176): the oldest reply leaves the transmit list. -/
def execLinkReplySent (l : Link) (s : State) : Host.Outcome State Fault Refusal :=
  .next (s.modLink l fun p => { p with tx := p.tx.tail })

/-- UNKNOWN_KIND (R176, R177): with a kind of Table 10-1 the command is no event (Log 2). -/
def execUnknownKind (l : Link) (tag kind : Byte) (s : State) : Host.Outcome State Fault Refusal :=
  match RequestKind.ofCode kind.toNat with
  | some _ => .next s
  | none => .next (s.unknown l tag kind)

/-! ## Meanings of the requests -/

/-- LANE_MODE (R110 to R114). -/
def execLaneMode (l : Link) (tag : Byte) (payload : List Byte) (s : State) : Host.Outcome State Fault Refusal :=
  .next (s.request .laneMode l tag payload)

/-- LANE_GEOMETRY (R5, R6). -/
def execLaneGeometry (l : Link) (tag : Byte) (payload : List Byte) (s : State) : Host.Outcome State Fault Refusal :=
  .next (s.request .laneGeometry l tag payload)

/-- LANE_TIMING (R180). -/
def execLaneTiming (l : Link) (tag : Byte) (payload : List Byte) (s : State) : Host.Outcome State Fault Refusal :=
  .next (s.request .laneTiming l tag payload)

/-- LANE_STATUS (R15). -/
def execLaneStatus (l : Link) (tag : Byte) (payload : List Byte) (s : State) : Host.Outcome State Fault Refusal :=
  .next (s.request .laneStatus l tag payload)

/-- LANE_TRACKS (R43). -/
def execLaneTracks (l : Link) (tag : Byte) (payload : List Byte) (s : State) : Host.Outcome State Fault Refusal :=
  .next (s.request .laneTracks l tag payload)

/-- LANE_PERMITS (R66). -/
def execLanePermits (l : Link) (tag : Byte) (payload : List Byte) (s : State) : Host.Outcome State Fault Refusal :=
  .next (s.request .lanePermits l tag payload)

/-- LANE_RESET (R121). -/
def execLaneReset (l : Link) (tag : Byte) (payload : List Byte) (s : State) : Host.Outcome State Fault Refusal :=
  .next (s.request .laneReset l tag payload)

/-- PULSE (R60). -/
def execPulse (l : Link) (tag : Byte) (payload : List Byte) (s : State) : Host.Outcome State Fault Refusal :=
  .next (s.request .pulse l tag payload)

/-- CANCEL (R61). -/
def execCancel (l : Link) (tag : Byte) (payload : List Byte) (s : State) : Host.Outcome State Fault Refusal :=
  .next (s.request .cancel l tag payload)

/-- ALARM_ACK (R99). -/
def execAlarmAck (l : Link) (tag : Byte) (payload : List Byte) (s : State) : Host.Outcome State Fault Refusal :=
  .next (s.request .alarmAck l tag payload)

/-- RESTORE (R117). -/
def execRestore (l : Link) (tag : Byte) (payload : List Byte) (s : State) : Host.Outcome State Fault Refusal :=
  .next (s.request .restore l tag payload)

/-- HOLD (R118). -/
def execHold (l : Link) (tag : Byte) (payload : List Byte) (s : State) : Host.Outcome State Fault Refusal :=
  .next (s.request .hold l tag payload)

/-- RELEASE (R120). -/
def execRelease (l : Link) (tag : Byte) (payload : List Byte) (s : State) : Host.Outcome State Fault Refusal :=
  .next (s.request .release l tag payload)

/-- CRED_PUT (R143). -/
def execCredPut (l : Link) (tag : Byte) (payload : List Byte) (s : State) : Host.Outcome State Fault Refusal :=
  .next (s.request .credPut l tag payload)

/-- CRED_GET (R145). -/
def execCredGet (l : Link) (tag : Byte) (payload : List Byte) (s : State) : Host.Outcome State Fault Refusal :=
  .next (s.request .credGet l tag payload)

/-- CRED_DROP (R144). -/
def execCredDrop (l : Link) (tag : Byte) (payload : List Byte) (s : State) : Host.Outcome State Fault Refusal :=
  .next (s.request .credDrop l tag payload)

/-- CRED_SCAN (R145). -/
def execCredScan (l : Link) (tag : Byte) (payload : List Byte) (s : State) : Host.Outcome State Fault Refusal :=
  .next (s.request .credScan l tag payload)

/-- CRED_CLEAR (R144). -/
def execCredClear (l : Link) (tag : Byte) (payload : List Byte) (s : State) : Host.Outcome State Fault Refusal :=
  .next (s.request .credClear l tag payload)

/-- PRESENCE_SET (R127). -/
def execPresenceSet (l : Link) (tag : Byte) (payload : List Byte) (s : State) : Host.Outcome State Fault Refusal :=
  .next (s.request .presenceSet l tag payload)

/-- PRESENCE_RESET (R127). -/
def execPresenceReset (l : Link) (tag : Byte) (payload : List Byte) (s : State) : Host.Outcome State Fault Refusal :=
  .next (s.request .presenceReset l tag payload)

/-- CLASS_SET (R146). -/
def execClassSet (l : Link) (tag : Byte) (payload : List Byte) (s : State) : Host.Outcome State Fault Refusal :=
  .next (s.request .classSet l tag payload)

/-- CLASS_GET (R146). -/
def execClassGet (l : Link) (tag : Byte) (payload : List Byte) (s : State) : Host.Outcome State Fault Refusal :=
  .next (s.request .classGet l tag payload)

/-- DECIDE (R154 to R156). -/
def execDecideReq (l : Link) (tag : Byte) (payload : List Byte) (s : State) : Host.Outcome State Fault Refusal :=
  .next (s.request .decideReq l tag payload)

/-- FETCH (R184). -/
def execFetch (l : Link) (tag : Byte) (payload : List Byte) (s : State) : Host.Outcome State Fault Refusal :=
  .next (s.request .fetch l tag payload)

/-- ROUTE (R182). -/
def execRoute (l : Link) (tag : Byte) (payload : List Byte) (s : State) : Host.Outcome State Fault Refusal :=
  .next (s.request .route l tag payload)

/-- CLOCK_SET (R189). -/
def execClockSet (l : Link) (tag : Byte) (payload : List Byte) (s : State) : Host.Outcome State Fault Refusal :=
  .next (s.request .clockSet l tag payload)

/-- DEVICE_STATUS (R196). -/
def execDeviceStatus (l : Link) (tag : Byte) (payload : List Byte) (s : State) : Host.Outcome State Fault Refusal :=
  .next (s.request .deviceStatus l tag payload)

/-- SAVE (R192). -/
def execSave (l : Link) (tag : Byte) (payload : List Byte) (s : State) : Host.Outcome State Fault Refusal :=
  .next (s.request .save l tag payload)

/-- IDENT (R197). -/
def execIdent (l : Link) (tag : Byte) (payload : List Byte) (s : State) : Host.Outcome State Fault Refusal :=
  .next (s.request .ident l tag payload)

end Sys2Proof.Machine
end

