-- ==== Sys2Proof/Machine/Dispatch.lean ====
section
/-! DEFINITION. One arm per command: the meaning of each row of spec/opcode_table.json. -/

namespace Sys2Proof.Machine

def exec (i : Instr) (s : State) : Host.Outcome State Fault Refusal :=
  match i with
  | .fullReset r => Sys2Proof.Machine.execFullReset r s
  | .frameTimerExpiry k => Sys2Proof.Machine.execFrameTimerExpiry k s
  | .chainReadComplete k chain order => Sys2Proof.Machine.execChainReadComplete k chain order s
  | .openLimitChange k active => Sys2Proof.Machine.execOpenLimitChange k active s
  | .shutLimitChange k active => Sys2Proof.Machine.execShutLimitChange k active s
  | .obstructChange k active => Sys2Proof.Machine.execObstructChange k active s
  | .motionTimeout k => Sys2Proof.Machine.execMotionTimeout k s
  | .jamHoldEnd k => Sys2Proof.Machine.execJamHoldEnd k s
  | .egressAssert order => Sys2Proof.Machine.execEgressAssert order s
  | .egressDeassert => Sys2Proof.Machine.execEgressDeassert s
  | .permitExpiry k number => Sys2Proof.Machine.execPermitExpiry k number s
  | .escortTimeout k number => Sys2Proof.Machine.execEscortTimeout k number s
  | .escortWindowEnd k d => Sys2Proof.Machine.execEscortWindowEnd k d s
  | .alarmAutoClear k kind => Sys2Proof.Machine.execAlarmAutoClear k kind s
  | .holdExpiry k => Sys2Proof.Machine.execHoldExpiry k s
  | .referralDeadline tag => Sys2Proof.Machine.execReferralDeadline tag s
  | .readerCardFrame p number => Sys2Proof.Machine.execReaderCardFrame p number s
  | .readerStatusFrame p tamper => Sys2Proof.Machine.execReaderStatusFrame p tamper s
  | .readerBadFrame p => Sys2Proof.Machine.execReaderBadFrame p s
  | .readerFrameGap p => Sys2Proof.Machine.execReaderFrameGap p s
  | .silenceTest p => Sys2Proof.Machine.execSilenceTest p s
  | .readerFrameSent p => Sys2Proof.Machine.execReaderFrameSent p s
  | .linkFrameBadLength l => Sys2Proof.Machine.execLinkFrameBadLength l s
  | .linkFrameBadCrc l => Sys2Proof.Machine.execLinkFrameBadCrc l s
  | .linkFrameGap l => Sys2Proof.Machine.execLinkFrameGap l s
  | .linkFrameTxFull l => Sys2Proof.Machine.execLinkFrameTxFull l s
  | .linkReplySent l => Sys2Proof.Machine.execLinkReplySent l s
  | .unknownKind l tag kind => Sys2Proof.Machine.execUnknownKind l tag kind s
  | .laneMode l tag payload => Sys2Proof.Machine.execLaneMode l tag payload s
  | .laneGeometry l tag payload => Sys2Proof.Machine.execLaneGeometry l tag payload s
  | .laneTiming l tag payload => Sys2Proof.Machine.execLaneTiming l tag payload s
  | .laneStatus l tag payload => Sys2Proof.Machine.execLaneStatus l tag payload s
  | .laneTracks l tag payload => Sys2Proof.Machine.execLaneTracks l tag payload s
  | .lanePermits l tag payload => Sys2Proof.Machine.execLanePermits l tag payload s
  | .laneReset l tag payload => Sys2Proof.Machine.execLaneReset l tag payload s
  | .pulse l tag payload => Sys2Proof.Machine.execPulse l tag payload s
  | .cancel l tag payload => Sys2Proof.Machine.execCancel l tag payload s
  | .alarmAck l tag payload => Sys2Proof.Machine.execAlarmAck l tag payload s
  | .restore l tag payload => Sys2Proof.Machine.execRestore l tag payload s
  | .hold l tag payload => Sys2Proof.Machine.execHold l tag payload s
  | .release l tag payload => Sys2Proof.Machine.execRelease l tag payload s
  | .credPut l tag payload => Sys2Proof.Machine.execCredPut l tag payload s
  | .credGet l tag payload => Sys2Proof.Machine.execCredGet l tag payload s
  | .credDrop l tag payload => Sys2Proof.Machine.execCredDrop l tag payload s
  | .credScan l tag payload => Sys2Proof.Machine.execCredScan l tag payload s
  | .credClear l tag payload => Sys2Proof.Machine.execCredClear l tag payload s
  | .presenceSet l tag payload => Sys2Proof.Machine.execPresenceSet l tag payload s
  | .presenceReset l tag payload => Sys2Proof.Machine.execPresenceReset l tag payload s
  | .classSet l tag payload => Sys2Proof.Machine.execClassSet l tag payload s
  | .classGet l tag payload => Sys2Proof.Machine.execClassGet l tag payload s
  | .decideReq l tag payload => Sys2Proof.Machine.execDecideReq l tag payload s
  | .fetch l tag payload => Sys2Proof.Machine.execFetch l tag payload s
  | .route l tag payload => Sys2Proof.Machine.execRoute l tag payload s
  | .clockSet l tag payload => Sys2Proof.Machine.execClockSet l tag payload s
  | .deviceStatus l tag payload => Sys2Proof.Machine.execDeviceStatus l tag payload s
  | .save l tag payload => Sys2Proof.Machine.execSave l tag payload s
  | .ident l tag payload => Sys2Proof.Machine.execIdent l tag payload s
  | .saveEraseDone f => Sys2Proof.Machine.execSaveEraseDone f s
  | .saveHeaderDone f => Sys2Proof.Machine.execSaveHeaderDone f s
  | .saveRecordWritten f => Sys2Proof.Machine.execSaveRecordWritten f s
  | .saveReadbackDone f altered => Sys2Proof.Machine.execSaveReadbackDone f altered s
  | .saveTimeout taken => Sys2Proof.Machine.execSaveTimeout taken s
  | .linkFrameByte l b => Sys2Proof.Machine.execLinkFrameByte l b s
  | .readerFrameByte p b => Sys2Proof.Machine.execReaderFrameByte p b s
  | .deskKeyChange asserted => Sys2Proof.Machine.execDeskKeyChange asserted s

end Sys2Proof.Machine
end

