-- ==== Sys2Proof/Safety.lean ====
section
/-! DEFINITION. What the statements about the part are made of: what an event on one lane leaves alone, the replies of requests, the
tests and ends of a read and of a referral's conclusion, and the laws of the part that every step keeps (the spec's own "never" and
"at most" sentences). -/

namespace Sys2Proof.Machine

/-! ## What an event leaves alone -/

/-- Two states of a link that differ in nothing but the notice queue and its overflow flag. -/
def LinkPort.sameButQueue (a b : LinkPort) : Prop :=
  b.rx = a.rx ∧ b.tx = a.tx ∧ b.lengthDiscards = a.lengthDiscards ∧ b.crcDiscards = a.crcDiscards ∧ b.gapDiscards = a.gapDiscards

/-- Nothing differs between two states but the notice queues with their overflow flags, lane k, and the credential records. -/
def State.sameButLane (k : Lane) (s t : State) : Prop :=
  (∀ j, j ≠ k → t.lane j = s.lane j) ∧ t.ports = s.ports ∧ LinkPort.sameButQueue s.site t.site
    ∧ LinkPort.sameButQueue s.desk t.desk ∧ t.routing = s.routing ∧ t.cst.classes = s.cst.classes ∧ t.rfu = s.rfu
    ∧ t.tmb = s.tmb ∧ t.ims = s.ims ∧ t.egressLine = s.egressLine ∧ t.deskKey = s.deskKey ∧ t.pending = s.pending

/-- Nothing differs between two states but the notice queues with their overflow flags, the lanes, and the referral slots: what an event
of the reader or of the Referral Unit leaves alone besides the readers' own state. -/
def State.sameDevice (s t : State) : Prop :=
  LinkPort.sameButQueue s.site t.site ∧ LinkPort.sameButQueue s.desk t.desk ∧ t.routing = s.routing ∧ t.cst = s.cst
    ∧ t.tmb = s.tmb ∧ t.ims = s.ims ∧ t.egressLine = s.egressLine ∧ t.deskKey = s.deskKey ∧ t.pending = s.pending

/-- Lane k takes the state l, and the notices are posted for it in order (R181). -/
def State.laneEvent (k : Lane) (l : LaneState) (bodies : List NoticeBody) (s : State) : State :=
  State.postAll (laneNumber k) bodies (s.setLane k l)

/-! ## Requests and their replies -/

/-- The command of a request kind: the row of the table with that name. -/
def Instr.ofRequest (l : Link) (tag : Byte) (payload : List Byte) : RequestKind → Instr
  | .laneMode => .laneMode l tag payload
  | .laneGeometry => .laneGeometry l tag payload
  | .laneTiming => .laneTiming l tag payload
  | .laneStatus => .laneStatus l tag payload
  | .laneTracks => .laneTracks l tag payload
  | .lanePermits => .lanePermits l tag payload
  | .laneReset => .laneReset l tag payload
  | .pulse => .pulse l tag payload
  | .cancel => .cancel l tag payload
  | .alarmAck => .alarmAck l tag payload
  | .restore => .restore l tag payload
  | .hold => .hold l tag payload
  | .release => .release l tag payload
  | .credPut => .credPut l tag payload
  | .credGet => .credGet l tag payload
  | .credDrop => .credDrop l tag payload
  | .credScan => .credScan l tag payload
  | .credClear => .credClear l tag payload
  | .presenceSet => .presenceSet l tag payload
  | .presenceReset => .presenceReset l tag payload
  | .classSet => .classSet l tag payload
  | .classGet => .classGet l tag payload
  | .decideReq => .decideReq l tag payload
  | .fetch => .fetch l tag payload
  | .route => .route l tag payload
  | .clockSet => .clockSet l tag payload
  | .deviceStatus => .deviceStatus l tag payload
  | .save => .save l tag payload
  | .ident => .ident l tag payload

/-- The reply of a request: the request's tag, its kind plus hex 80, the status, and what follows it (R176). -/
def replyOf (kind : RequestKind) (tag : Byte) (st : Status) (body : List Byte) : Reply :=
  { tag := tag, kind := BitVec.ofNat 8 (kind.code + 0x80), status := st, body := body }

/-- A request reaches its owner: the transmit list has room and the payload has the length its kind calls for (R176, R177). -/
def State.reaches (s : State) (l : Link) (kind : RequestKind) (p : List Byte) : Prop :=
  (s.link l).tx.length < 4 ∧ p.length = kind.payloadLength p

/-- A lane request reaches its owner: it also names lane k (R177). -/
def State.reachesLane (s : State) (l : Link) (kind : RequestKind) (p : List Byte) (k : Lane) : Prop :=
  s.reaches l kind p ∧ byteAt p 0 = laneNumber k

/-- A request of a link that the lane's desk hold does not stop (R119). -/
def State.mayChange (s : State) (l : Link) (k : Lane) : Prop := l = .desk ∨ (s.lane k).lsv.hold = none

/-! ## Reads and the conclusions of referrals -/

/-- The health of a lane is OK (R108). -/
def LaneState.healthy (l : LaneState) : Prop := l.lsv.sensorMark = false ∧ l.lsv.barrierMark = false

/-- A direction that a claim leaves open (R47, R133). -/
def claimAllows (claim : Option Direction) (d : Direction) : Prop := claim = none ∨ claim = some d

/-- A read of direction d passes steps 2 to 4: in SERVICE with the direction BADGED, or in LOCKDOWN (R133). -/
def LaneState.admitsRead (l : LaneState) (d : Direction) : Prop :=
  ((l.lsv.mode = .service ∧ l.lsv.policy.setting d = .badged) ∨ l.lsv.mode = .lockdown) ∧ l.healthy ∧ l.lsv.pending = none
    ∧ claimAllows l.pq.claim d

/-- The state after a CARD frame is heard at a port that is not TAMPERED: the good frame is recorded, and a port that was ABSENT is
PRESENT, with its notice (R164, R167). -/
def State.cardHeard (p : Port) (s : State) : State :=
  let heard :=
    s.modPort p fun r =>
      { r with bad := 0, lastGood := some s.tmb.ms, rx := none, state := if r.state = .absent then .present else r.state }
  if (s.port p).state = .absent then heard.post (laneNumber (portLane p)) (.reader p .present .present) else heard

/-- A read ends: its verdict goes to the reader, its READ notice is posted, and buzzer and indicators follow (R140). -/
def State.readEnds (b : ReadBody) (s : State) : State :=
  State.refresh (portLane b.reader)
    (State.post (laneNumber (portLane b.reader)) (.read b) (s.sendReader b.reader (.verdict b.verdict b.reason b.number)))

/-- The READ notice of a read that ends without a permit, a referral or a fallback. -/
def plainRead (p : Port) (n : Nat) (cls : Option ClassNo) (v : Verdict) (r : Reason) (step : Nat) : ReadBody where
  reader := p
  number := n
  cls := cls
  verdict := v
  reason := r
  append := none
  referral := none
  fallback := none
  step := step

/-- A lane in LOCKDOWN admits a class only when it is marked LOCKDOWN_PASS (R134, R156). -/
def State.classPasses (s : State) (p : Port) (cls : ClassNo) : Prop :=
  (s.lane (portLane p)).lsv.mode = .lockdown → (s.cst.cls cls).lockdownPass = true

/-- A record reaches the test of its lane mask in step 5: its state is ACTIVE and its class is not marked ALWAYS_REFER (R134). -/
def State.judgedHere (s : State) (p : Port) (c : Cred) : Prop :=
  s.classPasses p c.cls ∧ c.state = .active ∧ (s.cst.cls c.cls).alwaysRefer = false

/-- Lane mask and condition of a record's class admit the read (R134, items 6 and 7). -/
def State.classAdmits (s : State) (p : Port) (c : Cred) : Prop :=
  (s.cst.cls c.cls).allows (portLane p) (portDir p) = true ∧ (s.cst.cls c.cls).holds s.clock s.deskKey = true

/-- Step 5 refers a read for a reason (R134, items 1, 5 and 8). -/
def State.refersRead (s : State) (p : Port) (record : Option Cred) : ReferralReason → Prop
  | .notInTable => record = none ∧ (s.lane (portLane p)).lsv.mode ≠ .lockdown
  | .classRefer => ∃ c, record = some c ∧ s.classPasses p c.cls ∧ c.state = .active ∧ (s.cst.cls c.cls).alwaysRefer = true
  | .noClock =>
    ∃ c, record = some c ∧ s.judgedHere p c ∧ s.classAdmits p c ∧ s.clock = none ∧ ¬(c.validFrom = none ∧ c.validUntil = none)

/-- Step 5 goes on with a record: none of the nine items of R134 applies. -/
def State.passesLookup (s : State) (p : Port) (c : Cred) : Prop :=
  s.judgedHere p c ∧ s.classAdmits p c
    ∧ ((c.validFrom = none ∧ c.validUntil = none)
      ∨ ∃ t, s.clock = some t ∧ (∀ f, c.validFrom = some f → f ≤ t) ∧ ∀ u, c.validUntil = some u → t ≤ u)

/-- A read is a passback read (R136). -/
def passbackRead (x : Presence) (d : Direction) : Prop := (x = .inside ∧ d = .entry) ∨ (x = .outside ∧ d = .exit)

/-- The append that a read or a conclusion asks for (R137, R156): ESCORT and NEEDS_ESCORT are those of the class. -/
def State.appendFor (s : State) (p : Port) (o : Origin) (n : Nat) (cls : Option ClassNo) (allowance : Nat) (soft : Bool) :
    AppendReq where
  dir := portDir p
  origin := o
  credential := some n
  cls := cls
  reader := some p
  allowance := allowance
  soft := soft
  escort := (match cls with | some c => (s.cst.cls c).escort | none => false)
  needsEscort := (match cls with | some c => (s.cst.cls c).needsEscort | none => false)

/-- The re-check of R156 reaches step 3: the mode is SERVICE, or LOCKDOWN with a decided class marked LOCKDOWN_PASS. -/
def State.modeGoesOn (s : State) (p : Port) (cls : Option ClassNo) : Prop :=
  (s.lane (portLane p)).lsv.mode = .service
    ∨ ((s.lane (portLane p)).lsv.mode = .lockdown ∧ ∃ c, cls = some c ∧ (s.cst.cls c).lockdownPass = true)

/-- The re-check of R156 reaches step 4: health OK, no pending mode, and in SERVICE the side's direction BADGED. -/
def State.laneGoesOn (s : State) (p : Port) (cls : Option ClassNo) : Prop :=
  s.modeGoesOn p cls ∧ (s.lane (portLane p)).healthy ∧ (s.lane (portLane p)).lsv.pending = none
    ∧ ((s.lane (portLane p)).lsv.mode = .service → (s.lane (portLane p)).lsv.policy.setting (portDir p) = .badged)

/-- The re-check of R156 ends before its append, with a verdict and a reason at a step. -/
inductive State.RecheckEnds (s : State) (p : Port) (n : Nat) (cls : Option ClassNo) : Verdict → Reason → Nat → Prop where
  | closed : (s.lane (portLane p)).lsv.mode = .dark ∨ (s.lane (portLane p)).lsv.mode = .closed → RecheckEnds s p n cls .deny .laneClosed 2
  | egress : (s.lane (portLane p)).lsv.mode = .egress → RecheckEnds s p n cls .free .egress 2
  | lockdown :
      (s.lane (portLane p)).lsv.mode = .lockdown → (∀ c, cls = some c → (s.cst.cls c).lockdownPass = false) →
        RecheckEnds s p n cls .deny .lockdown 2
  | health : s.modeGoesOn p cls → ¬(s.lane (portLane p)).healthy → RecheckEnds s p n cls .deny .laneFault 3
  | pending :
      s.modeGoesOn p cls → (s.lane (portLane p)).healthy → (s.lane (portLane p)).lsv.pending ≠ none →
        RecheckEnds s p n cls .deny .modeChanging 3
  | barred :
      (s.lane (portLane p)).healthy → (s.lane (portLane p)).lsv.pending = none → (s.lane (portLane p)).lsv.mode = .service →
        (s.lane (portLane p)).lsv.policy.setting (portDir p) = .barred → RecheckEnds s p n cls .deny .directionBarred 3
  | free :
      (s.lane (portLane p)).healthy → (s.lane (portLane p)).lsv.pending = none → (s.lane (portLane p)).lsv.mode = .service →
        (s.lane (portLane p)).lsv.policy.setting (portDir p) = .free → RecheckEnds s p n cls .free .freeDirection 3
  | claim :
      s.laneGoesOn p cls → ¬claimAllows (s.lane (portLane p)).pq.claim (portDir p) → RecheckEnds s p n cls .deny .laneBusy 4
  | duplicate :
      s.laneGoesOn p cls → claimAllows (s.lane (portLane p)).pq.claim (portDir p) → s.held n = true →
        RecheckEnds s p n cls .deny .duplicate 6
  | room :
      s.laneGoesOn p cls → claimAllows (s.lane (portLane p)).pq.claim (portDir p) → s.held n = false →
        4 ≤ (s.lane (portLane p)).pq.permits.length → RecheckEnds s p n cls .deny .queueFull 8

/-- The re-check of R156 passes: its append is accepted. -/
def State.recheckPasses (s : State) (p : Port) (n : Nat) (cls : Option ClassNo) : Prop :=
  s.laneGoesOn p cls ∧ claimAllows (s.lane (portLane p)).pq.claim (portDir p) ∧ s.held n = false
    ∧ (s.lane (portLane p)).pq.permits.length < 4

/-- The state with the slot of a tag freed (R149). -/
def State.slotFreed (tag : Nat) (s : State) : State :=
  { s with rfu := { s.rfu with slots := s.rfu.slots.filter fun y => decide (y.tag ≠ tag) } }

/-- A referral is concluded: its verdict goes to the reader, its READ notice is posted, and buzzer and indicators follow (R160). -/
def State.concluded (b : ConclusionBody) (s : State) : State :=
  State.refresh (portLane b.reader)
    (State.post (laneNumber (portLane b.reader)) (.conclusion b) (s.sendReader b.reader (.verdict b.verdict b.reason b.number)))

/-- The READ notice of the conclusion of a slot (R160). -/
def conclusionOf (x : Slot) (cls : Option ClassNo) (by_ : Option Link) (v : Verdict) (r : Reason) (append : Option AppendInfo)
    (step : Nat) : ConclusionBody where
  reader := x.reader
  number := x.number
  cls := cls
  verdict := v
  reason := r
  tag := x.tag
  referralReason := x.reason
  decidedBy := by_
  append := append
  step := step

/-! ## Laws that every step keeps -/

/-- DRIVE_OPEN is asserted exactly in OPENING and DRIVE_SHUT exactly in SHUTTING, in every lane (R68). -/
def State.drivesFollow (s : State) : Prop :=
  ∀ k, (s.lane k).bc.driveOpen = decide ((s.lane k).bc.state = .opening)
    ∧ (s.lane k).bc.driveShut = decide ((s.lane k).bc.state = .shutting)

/-- The site queue holds at most 64 notices and the desk queue at most 32 (R183). -/
def State.queuesBounded (s : State) : Prop := s.site.queue.length ≤ 64 ∧ s.desk.queue.length ≤ 32

/-- The transmit lists of the links and of the reader ports hold at most 4 frames (R170, R176). -/
def State.listsBounded (s : State) : Prop :=
  s.site.tx.length ≤ 4 ∧ s.desk.tx.length ≤ 4 ∧ ∀ p, (s.port p).tx.length ≤ 4

/-- A lane holds at most 8 tracks and its queue at most 4 permits (R20, R47). -/
def State.lanesBounded (s : State) : Prop := ∀ k, (s.lane k).ot.tracks.length ≤ 8 ∧ (s.lane k).pq.permits.length ≤ 4

/-- All permits queued in a lane have the direction that the lane claim names (R48). -/
def State.queuesOneWay (s : State) : Prop := ∀ k, ∀ p ∈ (s.lane k).pq.permits, (s.lane k).pq.claim = some p.dir

/-- At most 8 referral slots are occupied, no two share a tag, tags and the tag counter lie in 1 to 255 (R149, R151). -/
def State.slotsTagged (s : State) : Prop :=
  s.rfu.slots.length ≤ 8 ∧ (s.rfu.slots.map (·.tag)).Nodup ∧ (∀ x ∈ s.rfu.slots, 1 ≤ x.tag ∧ x.tag ≤ 255)
    ∧ 1 ≤ s.rfu.tagCounter ∧ s.rfu.tagCounter ≤ 255

/-- The credential table is in strictly ascending order of number, holds no number 0 and at most 8,192 records (R126). -/
def State.tableOrdered (s : State) : Prop :=
  ascending s.cst.creds = true ∧ (∀ c ∈ s.cst.creds, 1 ≤ c.number) ∧ s.cst.creds.length ≤ 8192

/-- REFERRAL is routed SITE, and no alarm-bearing kind is routed NONE (R182). -/
def State.routesSound (s : State) : Prop :=
  s.routing.referral = .site ∧ s.routing.violation ≠ .nowhere ∧ s.routing.barrier ≠ .nowhere ∧ s.routing.reader ≠ .nowhere
    ∧ s.routing.lane ≠ .nowhere

/-- The serial flash is in canonical form. -/
def State.flashCanonical (s : State) : Prop := s.ims.flash.wf = true

/-- Every lane's buzzer and side indicators are those of R100 and R102. -/
def State.outputsDerived (s : State) : Prop := ∀ k, s.lane k = (s.lane k).withOutputs s.rfu.slots k

end Sys2Proof.Machine
end

