-- ==== Sys2Proof/WellFormed.lean ====
section
/-! DEFINITION. Which commands can occur: the bounds that the spec puts on what arrives. `exec` is total and gives every command,
ill-formed ones among them, a next state; a claim that needs these bounds names `Instr.wf`. -/

namespace Sys2Proof

/-- The request kinds of Table 12-3, by their codes. -/
def requestCodes : List Nat :=
  [0x01, 0x02, 0x03, 0x04, 0x05, 0x06, 0x07, 0x08, 0x09, 0x0A, 0x0B, 0x10, 0x11, 0x20, 0x21, 0x22, 0x23, 0x24, 0x25, 0x26,
   0x27, 0x28, 0x30, 0x38, 0x39, 0x40, 0x41, 0x42, 0x43]

/-- A payload is 0 to 1022 bytes long (R173). -/
def payloadOk (payload : List Byte) : Bool := decide (payload.length ≤ 1022)

/-- Flash positions lie in 0 to 262,143 (Table 0-5). -/
def cellsOk (cells : List Host.Cell) : Bool := cells.all fun c => decide (c.1 < Config.flashSize)

/-- The bounds on each command's operands. -/
def Instr.wf : Instr → Bool
  | .fullReset r => cellsOk r.altered && decide (r.elapsed ≤ Config.maxMs)
  | .frameTimerExpiry _ => true
  | .chainReadComplete _ chain _ => decide (chain.length ≤ 8)
  | .openLimitChange _ _ => true
  | .shutLimitChange _ _ => true
  | .obstructChange _ _ => true
  | .motionTimeout _ => true
  | .jamHoldEnd _ => true
  | .egressAssert _ => true
  | .egressDeassert => true
  | .permitExpiry _ n => decide (1 ≤ n ∧ n ≤ 255)
  | .escortTimeout _ n => decide (1 ≤ n ∧ n ≤ 255)
  | .escortWindowEnd _ _ => true
  | .alarmAutoClear _ _ => true
  | .holdExpiry _ => true
  | .referralDeadline t => decide (1 ≤ t ∧ t ≤ 255)
  | .readerCardFrame _ n => decide (1 ≤ n ∧ n < 2 ^ 64)
  | .readerStatusFrame _ _ => true
  | .readerBadFrame _ => true
  | .readerFrameGap _ => true
  | .silenceTest _ => true
  | .readerFrameSent _ => true
  | .linkFrameBadLength _ => true
  | .linkFrameBadCrc _ => true
  | .linkFrameGap _ => true
  | .linkFrameTxFull _ => true
  | .linkReplySent _ => true
  | .unknownKind _ _ kind => !requestCodes.contains kind.toNat
  | .laneMode _ _ p => payloadOk p
  | .laneGeometry _ _ p => payloadOk p
  | .laneTiming _ _ p => payloadOk p
  | .laneStatus _ _ p => payloadOk p
  | .laneTracks _ _ p => payloadOk p
  | .lanePermits _ _ p => payloadOk p
  | .laneReset _ _ p => payloadOk p
  | .pulse _ _ p => payloadOk p
  | .cancel _ _ p => payloadOk p
  | .alarmAck _ _ p => payloadOk p
  | .restore _ _ p => payloadOk p
  | .hold _ _ p => payloadOk p
  | .release _ _ p => payloadOk p
  | .credPut _ _ p => payloadOk p
  | .credGet _ _ p => payloadOk p
  | .credDrop _ _ p => payloadOk p
  | .credScan _ _ p => payloadOk p
  | .credClear _ _ p => payloadOk p
  | .presenceSet _ _ p => payloadOk p
  | .presenceReset _ _ p => payloadOk p
  | .classSet _ _ p => payloadOk p
  | .classGet _ _ p => payloadOk p
  | .decideReq _ _ p => payloadOk p
  | .fetch _ _ p => payloadOk p
  | .route _ _ p => payloadOk p
  | .clockSet _ _ p => payloadOk p
  | .deviceStatus _ _ p => payloadOk p
  | .save _ _ p => payloadOk p
  | .ident _ _ p => payloadOk p
  | .saveEraseDone _ => true
  | .saveHeaderDone _ => true
  | .saveRecordWritten _ => true
  | .saveReadbackDone _ altered => cellsOk altered
  | .saveTimeout _ => true
  | .linkFrameByte _ _ => true
  | .readerFrameByte _ _ => true
  | .deskKeyChange _ => true

end Sys2Proof
end

