-- ==== Sys2Proof/Certificates/Slice0/Obligations.lean ====
section
/-! DEFINITION. The statements for the provers: what each command does and leaves alone, and the laws that every step keeps. -/

open Sys2Proof Sys2Proof.Machine

/-! ## The step -/

/-- A step takes the command at the front of the queue and runs it on the state with the queue's rest. -/
def Obligations.StepRunsFrontCommand : Prop :=
  ∀ (c : Instr) (rest : List Instr) (s : State), step { s with pending := c :: rest } = exec c { s with pending := rest }

/-- The model's choice (Log 1, Log 9): on an empty queue one millisecond passes, up to the largest count, and nothing else changes. -/
def Obligations.StepIdleCountsMillisecond : Prop :=
  ∀ s : State, s.pending = [] →
    step s = .next { s with tmb := { s.tmb with ms := if s.tmb.ms < 281474976710655 then s.tmb.ms + 1 else s.tmb.ms } }

/-- Every command, in every state, answers a next state that holds the same waiting commands: the part never stops. -/
def Obligations.EveryCommandAnswersNext : Prop := ∀ (c : Instr) (s : State), ∃ t, exec c s = .next t ∧ t.pending = s.pending

/-! ## Reset -/

/-- The reset tables of Chapters 1 to 6, for every lane. The inactive limit and obstruction inputs, and with them the unknown barrier
position, are the model's choice (Log 4); that LANE_TRACKS reports the empty tracker until the first frame event is its reading (Log 48). -/
def Claims.ResetLaneValues : Prop :=
  ∀ k, State.reset.lane k =
    { geo := { bars := 4, nb := 16, orientation := .normal, p := 60, f := 8, sz := 2 }
      timing :=
        { tf := 10, v := 2, stuckTime := 120, stuckLimit := 2, br := 1, k := 12, c := 3, loiter := 30, grantTime := 8
          escortWindow := 20, wide := false, tc := 450, topen := 450, tm := 100, vFloor := 300, vNom := 1200, jamHold := 5
          posture := .hold, autoClear := 30, unknownFallback := .deny, referralTimeout := 1500, retryLimit := 2
          silenceTime := 3 }
      bsu :=
        { beams := List.replicate 16 { occluded := false, counter := 0, timer := none, stuck := false }
          chainFault := false, answered := 0, faulting := []
          result := { valid := false, vector := List.replicate 16 false, guardOccupied := false }
          causes := { chainFault := false, guardStuck := false, overLimit := false }, frameTimer := 10, period := 10
          read := .idle }
      ot := { tracks := [], shadows := [], untracked := false, next := 1 }
      pq := { permits := [], entryWindow := none, exitWindow := none, next := 1, claim := none, frameClaim := none }
      bc :=
        { state := .stalled, openLimit := false, shutLimit := false, obstruct := false, driveOpen := false, driveShut := false
          motionEnd := none, reversals := 0, jam := false, jamHoldEnd := none, stall := false, positionUnknown := true
          last := none, risk := false, posture := .hold }
      lsv :=
        { mode := .dark, policy := { entry := .barred, exit := .barred }, pending := none, startMode := .dark
          startPolicy := { entry := .barred, exit := .barred }, hold := none, sensorMark := false, barrierMark := true
          alarms := AlarmSet.clear, tallies := Tallies.zero, buzzer := false, lobbyColour := .dark, secureColour := .dark
          riskLobby := false, riskSecure := false }
      reported :=
        { geo := { bars := 4, nb := 16, orientation := .normal, p := 60, f := 8, sz := 2 }
          untracked := false, shadows := [], tracks := [] } }

/-- The reset tables of Chapters 7 to 11. The low strap, the cause POWER, the erased flash, the line levels and the start-up of 0
milliseconds are the model's choice (Log 4 to 6). -/
def Claims.ResetSharedValues : Prop :=
  (∀ p, State.reset.port p =
    { state := .absent, bad := 0, lastGood := none, tamper := false, tx := [], dropped := 0, rx := none })
  ∧ (∀ l, (State.reset.link l).rx = none ∧ (State.reset.link l).tx = [] ∧ (State.reset.link l).lengthDiscards = 0
      ∧ (State.reset.link l).crcDiscards = 0 ∧ (State.reset.link l).gapDiscards = 0 ∧ (State.reset.link l).overflow = false)
  ∧ State.reset.site.queue.head? =
      some { lane := 0, ms := 0, seconds := 0, clockValid := false, body := .start .notRequested .power none 0 0 false }
  ∧ State.reset.routing =
      { read := .site, referral := .site, passage := .site, violation := .both, permitEnd := .site, barrier := .both
        sensor := .both, reader := .both, lane := .both, store := .site, start := .site }
  ∧ State.reset.cst.creds = []
  ∧ (∀ k : ClassNo, State.reset.cst.cls k =
      { mask := 0xFFF, condition := if k = 0 then .always else .never, windowStart := 0, windowEnd := 0, passback := .off
        escort := false, needsEscort := false, lockdownPass := false, alwaysRefer := false, fallback := .deny })
  ∧ State.reset.rfu = { slots := [], tagCounter := 1 }
  ∧ State.reset.tmb = { ms := 0, valid := false, base := 0, baseAt := 0 }
  ∧ State.reset.ims =
      { saving := none, lastSave := .never, flash := [], startResult := .notRequested, resetCause := .power, strap := false
        unit := 0 }
  ∧ State.reset.egressLine = false ∧ State.reset.deskKey = false ∧ State.reset.pending = []

/-- The state after reset, block by block. -/
def Obligations.ResetValues : Prop := Claims.ResetLaneValues ∧ Claims.ResetSharedValues

/-- FULL_RESET with the AUTOLOAD strap low, in every state: every block at its reset values (an empty report of the tracker: Log 48),
START posted first, every barrier in the state that its limit inputs give and the lanes DARK; with the EGRESS line asserted the lanes have
then entered EGRESS, their leaves open or opening (that an unknown position stays so over this retry: Log 17). The input lines and the
waiting commands stay. The flash stays when no save is in flight and no position altered from outside; when the reset cuts a save short,
the flash is what the stage in progress had written, as much as the operand says it had taken (the model's choice, Log 7, Log 30, Log 39).
The milliseconds that start-up takes and the lanes' order are operands (Log 5, Log 8). -/
def Obligations.FullResetWithoutAutoload : Prop :=
  ∀ (r : ResetInputs) (s : State), r.strap = false →
    let unknown (k : Lane) : Bool := decide ((s.lane k).bc.openLimit = (s.lane k).bc.shutLimit)
    let barred : Policy := { entry := .barred, exit := .barred }
    let supervisor (m : Mode) (sides : Colour) (fault : Bool) : Lsv :=
      { mode := m, policy := barred, pending := none, startMode := .dark, startPolicy := barred, hold := none, sensorMark := false
        barrierMark := fault, alarms := AlarmSet.clear, tallies := Tallies.zero, buzzer := false, lobbyColour := sides
        secureColour := sides, riskLobby := false, riskSecure := false }
    ∃ t, exec (.fullReset r) s = .next t
      ∧ t.ports = State.reset.ports ∧ t.routing = State.reset.routing ∧ t.cst = State.reset.cst ∧ t.rfu = State.reset.rfu
      ∧ t.tmb = { ms := min r.elapsed 281474976710655, valid := false, base := 0, baseAt := 0 }
      ∧ (∀ l, (t.link l).rx = none ∧ (t.link l).tx = [] ∧ (t.link l).lengthDiscards = 0 ∧ (t.link l).crcDiscards = 0
          ∧ (t.link l).gapDiscards = 0 ∧ (t.link l).overflow = false)
      ∧ t.site.queue.head? =
          some { lane := 0, ms := t.tmb.ms, seconds := 0, clockValid := false
                 body := .start .notRequested r.cause none 0 0 s.egressLine }
      ∧ t.ims.saving = none ∧ t.ims.lastSave = .never ∧ t.ims.startResult = .notRequested ∧ t.ims.resetCause = r.cause
      ∧ t.ims.strap = false ∧ t.ims.unit = 0
      ∧ (r.altered = [] → s.ims.saving = none → t.ims.flash = s.ims.flash)
      ∧ (∀ run, s.ims.saving = some run → t.ims.flash = s.stageWritten (some r.saveTaken) run)
      ∧ t.egressLine = s.egressLine ∧ t.deskKey = s.deskKey ∧ t.pending = s.pending
      ∧ ∀ k,
          (t.lane k).geo = Geometry.reset ∧ (t.lane k).timing = Timing.reset ∧ (t.lane k).ot = Ot.reset ∧ (t.lane k).pq = Pq.reset
          ∧ (t.lane k).reported = TrackReport.reset
          ∧ (t.lane k).bsu = { Bsu.reset 16 0 with frameTimer := t.tmb.ms + 10 }
          ∧ (s.egressLine = false →
              (t.lane k).bc =
                { state :=
                    match (s.lane k).bc.openLimit, (s.lane k).bc.shutLimit with
                    | false, true => .shut
                    | true, false => .opened
                    | false, false => .stalled
                    | true, true => .stalled
                  openLimit := (s.lane k).bc.openLimit, shutLimit := (s.lane k).bc.shutLimit, obstruct := (s.lane k).bc.obstruct
                  driveOpen := false, driveShut := false, motionEnd := none, reversals := 0, jam := false, jamHoldEnd := none
                  stall := false, positionUnknown := unknown k, last := none, risk := false, posture := .hold }
              ∧ (t.lane k).lsv = supervisor .dark .dark (unknown k))
          ∧ (s.egressLine = true →
              (t.lane k).bc =
                { state := if (s.lane k).bc.openLimit then .opened else .opening
                  openLimit := (s.lane k).bc.openLimit, shutLimit := (s.lane k).bc.shutLimit, obstruct := (s.lane k).bc.obstruct
                  driveOpen := !(s.lane k).bc.openLimit, driveShut := false
                  motionEnd := if (s.lane k).bc.openLimit then none else some (t.tmb.ms + 900)
                  reversals := 0, jam := false, jamHoldEnd := none
                  stall := false, positionUnknown := unknown k, last := none, risk := false, posture := .hold }
              ∧ (t.lane k).lsv = supervisor .egress .red false)

/-- FULL_RESET with the AUTOLOAD strap high, in every state. From a flash that answers and holds a good image, unit number, tables and
settings are the image's, each route the image's own or as R187 corrects it, fault posture and frame period in force at once; from any
other the reset values stand; the report of the tracker is empty either way (Log 48). The flash is as it was, but for the positions
altered from outside, or what a save that the reset cuts short leaves, which is no good image (operands and bytes: the model's choice, Log
7, Log 30, Log 39). That an F of 0 makes an image bad is the model's choice (Log 56). -/
def Obligations.FullResetLoadsImage : Prop :=
  ∀ (r : ResetInputs) (s : State), r.strap = true →
    let found : Memory :=
      match s.ims.saving with
      | none => Memory.writeCells r.altered s.ims.flash
      | some run => s.stageWritten (some r.saveTaken) run
    let judged : StartResult × Option Image := if r.flashAnswers then found.judge else (.noImage, none)
    let corrected (kind : NoticeKind) (route : Route) : Route :=
      if kind = .referral then .site
      else if (kind = .violation ∨ kind = .barrier ∨ kind = .reader ∨ kind = .lane) ∧ route = .nowhere then .both
      else route
    ∃ t, exec (.fullReset r) s = .next t ∧ t.ims.flash = found ∧ t.ims.startResult = judged.1 ∧ t.ims.strap = true
      ∧ t.ims.saving = none ∧ t.pending = s.pending ∧ t.egressLine = s.egressLine ∧ t.deskKey = s.deskKey
      ∧ (∀ k, (t.lane k).reported = TrackReport.reset)
      ∧ (r.altered = [] → s.ims.saving = none → found = s.ims.flash)
      ∧ (s.flashCanonical → s.ims.saving ≠ none → judged.1 ≠ .loaded)
      ∧ (∀ i, judged = (.loaded, some i) →
          t.cst.creds = i.creds ∧ t.ims.unit = i.unit
          ∧ (∀ kind, t.routing.get kind = corrected kind (i.routing.get kind))
          ∧ (∀ c : ClassNo, ∀ x, i.classes[c.val]? = some x → t.cst.cls c = x)
          ∧ ∀ k : Lane, ∀ x, i.lanes[k.val]? = some x →
              (t.lane k).geo = x.geo ∧ (t.lane k).timing = x.timing ∧ (t.lane k).lsv.startMode = x.startMode
              ∧ (t.lane k).lsv.startPolicy = x.startPolicy ∧ (t.lane k).bc.posture = x.timing.posture
              ∧ (t.lane k).bsu.period = x.timing.tf ∧ (t.lane k).bsu.frameTimer = t.tmb.ms + x.timing.tf
              ∧ (t.lane k).lsv.mode = (if s.egressLine then .egress else x.startMode))
      ∧ (judged.1 ≠ .loaded →
          t.cst = State.reset.cst ∧ t.ims.unit = 0 ∧ t.routing = State.reset.routing
          ∧ ∀ k, (t.lane k).geo = Geometry.reset ∧ (t.lane k).timing = Timing.reset)

/-! ## Beam scan -/

/-- FRAME_TIMER_EXPIRY: a due frame timer restarts with the T_f set, which comes into force (Table 1-3), and a chain read begins; nothing
else changes. That it restarts from its due end, and that a command given early changes nothing, is the model's choice (Log 2, Log 13). -/
def Claims.FrameTimerStartsRead : Prop :=
  ∀ (k : Lane) (s : State),
    ((s.lane k).bsu.frameTimer ≤ s.tmb.ms →
      exec (.frameTimerExpiry k) s =
        .next (s.setLane k
          { s.lane k with
            bsu :=
              { (s.lane k).bsu with
                frameTimer := (s.lane k).bsu.frameTimer + (s.lane k).timing.tf
                period := (s.lane k).timing.tf
                read := .reading } }))
    ∧ (s.tmb.ms < (s.lane k).bsu.frameTimer → exec (.frameTimerExpiry k) s = .next s)

/-- CHAIN_READ_COMPLETE of a read marked for discard: its answers are dropped, and LANE_TRACKS goes on reporting the frame event before it (a
reading, Log 48). -/
def Claims.MarkedReadIsDropped : Prop :=
  ∀ (k : Lane) (chain : List (Option BarAnswer)) (order : FrameOrder) (s : State), (s.lane k).bsu.read = .discarding →
    exec (.chainReadComplete k chain order) s =
      .next (s.setLane k
        (({ s.lane k with bsu := { (s.lane k).bsu with read := .idle } } : LaneState).withOutputs s.rfu.slots k))

/-- A frame timer expiry begins a chain read; a read marked for discard is dropped at its completion. -/
def Obligations.FrameTimerAndDroppedRead : Prop := Claims.FrameTimerStartsRead ∧ Claims.MarkedReadIsDropped

/-- CHAIN_READ_COMPLETE with a wrong number of answering bars or a faulting bar: the frame is invalid, beams and tracks stay as they
were, the chain state is FAULT with its notice when it was OK, the lane is in the SENSOR condition, no shut motion survives, and the tracker
as it stands is what LANE_TRACKS reports from then on (R43). The list of faulting bars numbers the bars along the whole chain from 0,
silent bars included (R1); that the operand tells which bar was silent (Log 14), and
the order of the list (Log 58), is the model's choice. -/
def Obligations.FaultyFrameKeepsTracks : Prop :=
  ∀ (k : Lane) (chain : List (Option BarAnswer)) (order : FrameOrder) (s : State), (s.lane k).bsu.read = .reading →
    ((answering chain).length ≠ (s.lane k).geo.bars ∨ ∃ b, some b ∈ chain ∧ b.emitterFault = true) →
    let faulting :=
      chain.zipIdx.filterMap fun x =>
        match x.1 with
        | some b => if b.emitterFault then some x.2 else none
        | none => none
    ∃ l bodies, exec (.chainReadComplete k chain order) s = .next (s.laneEvent k l bodies)
      ∧ l.geo = (s.lane k).geo ∧ l.timing = (s.lane k).timing ∧ l.ot = (s.lane k).ot ∧ l.bsu.beams = (s.lane k).bsu.beams
      ∧ l.reported =
          { geo := (s.lane k).geo, untracked := (s.lane k).ot.untracked, shadows := (s.lane k).ot.shadows
            tracks := (s.lane k).ot.tracks }
      ∧ l.bsu.chainFault = true ∧ l.bsu.answered = (answering chain).length ∧ l.bsu.faulting = faulting ∧ l.bsu.read = .idle
      ∧ l.bsu.result = { (s.lane k).bsu.result with valid := false }
      ∧ l.bsu.frameTimer = (s.lane k).bsu.frameTimer ∧ l.lsv.sensorMark = true ∧ l.lsv.alarms.sensor.active = true
      ∧ l.bc.state ≠ .shutting
      ∧ ((s.lane k).bsu.chainFault = false →
          bodies.head? = some (.chainFault (answering chain).length (s.lane k).geo.bars faulting))

/-- CHAIN_READ_COMPLETE of a valid frame: every beam takes its answer through the vote filter and the stuck test, the chain state is OK,
and the frame result gives the filtered vector with stuck beams clear. LANE_TRACKS then reports the tracker as the event leaves it
(R43). Outside the lane only the notice queues and completing walkers' records may change. The answers are those of the bars that
answered, in chain order (Log 14). -/
def Claims.ValidFrameFiltersBeams : Prop :=
  ∀ (k : Lane) (chain : List (Option BarAnswer)) (order : FrameOrder) (s : State), (s.lane k).bsu.read = .reading →
    (answering chain).length = (s.lane k).geo.bars → (∀ b, some b ∈ chain → b.emitterFault = false) →
    ∃ t, exec (.chainReadComplete k chain order) s = .next t ∧ s.sameButLane k t
      ∧ t.cst.creds.map (·.number) = s.cst.creds.map (·.number)
      ∧ (t.lane k).geo = (s.lane k).geo ∧ (t.lane k).timing = (s.lane k).timing
      ∧ (t.lane k).bsu.beams =
          List.zipWith (fun raw b => (b.vote (s.lane k).timing.v raw).stuckTest s.tmb.ms (s.lane k).timing.stuckTime)
            ((s.lane k).geo.laneAnswers (answering chain)) (s.lane k).bsu.beams
      ∧ (t.lane k).bsu.chainFault = false ∧ (t.lane k).bsu.answered = (answering chain).length ∧ (t.lane k).bsu.faulting = []
      ∧ (t.lane k).bsu.read = .idle ∧ (t.lane k).bsu.frameTimer = (s.lane k).bsu.frameTimer
      ∧ (t.lane k).reported =
          { geo := (s.lane k).geo, untracked := (t.lane k).ot.untracked, shadows := (t.lane k).ot.shadows
            tracks := (t.lane k).ot.tracks }
      ∧ (t.lane k).bsu.result.valid = true
      ∧ (t.lane k).bsu.result.vector = (t.lane k).bsu.beams.map fun b => b.occluded && !b.stuck

/-- The frame event of a lane runs its units in turn: Beam Scan Unit, tracker, claim, pending mode, Barrier Controller. Of the tracker's
records a valid frame leaves what its stages 1 to 7 give, under the settings with the frame period in force (Table 1-3, R34); only
bindings, VIOLATED and LOITERED marks are added with its events. The run of an overflow is told by the untracked flag as it stands (the
model's choice, Log 51). An invalid frame leaves the tracker as it was. -/
def Claims.FrameRunsUnitsInTurn : Prop :=
  ∀ (k : Lane) (chain : List (Option BarAnswer)) (order : FrameOrder) (s : State), (s.lane k).bsu.read = .reading →
    exec (.chainReadComplete k chain order) s =
      .next ((s.runLane k fun e w =>
        (barrierFrame e (pendingFrame (claimFrame e (trackerFrame e order (scanFrame e chain w))))).mod
          LaneState.recordTracks).refresh k)
    ∧ (∀ (e : Env) (w : Work), w.lane.bsu.result.valid = false → trackerFrame e order w = w)
    ∧ (∀ (e : Env) (w : Work), w.lane.bsu.result.valid = true →
        trackerFrame e order w =
          handEvents e order w.lane.ot.untracked
            (trackFrame w.lane.geo { w.lane.timing with tf := w.lane.bsu.period } e.now w.lane.bsu.result.vector w.lane.ot) w)
    ∧ ((answering chain).length = (s.lane k).geo.bars → (∀ b, some b ∈ chain → b.emitterFault = false) →
        ∃ t, exec (.chainReadComplete k chain order) s = .next t ∧
          let inForce := { (s.lane k).timing with tf := (s.lane k).bsu.period }
          let f := trackFrame (s.lane k).geo inForce s.tmb.ms (t.lane k).bsu.result.vector (s.lane k).ot
          let plain (x : Track) : Track := { x with bound := none, violated := false, loitered := false }
          (t.lane k).ot.tracks.map plain = f.ot.tracks.map plain
          ∧ (t.lane k).ot.shadows = shadowsOf (s.lane k).timing.br (t.lane k).bsu.result.vector
          ∧ (t.lane k).ot.untracked = f.ot.untracked ∧ (t.lane k).ot.next = f.ot.next)

/-- What a valid frame hands on (R10, R12 to R14): the SENSOR condition's causes from its stuck beams and the stuck limit,
the sensor mark and the SENSOR condition kind, and its notices in order: BEAM_STUCK and BEAM_CLEARED in lane beam order, CHAIN_RESTORED,
and HEALTH when the health changes (HEALTH behind the others: the model's choice, Log 15). -/
def Claims.ValidScanHandedOn : Prop :=
  ∀ (e : Env) (chain : List (Option BarAnswer)) (w : Work), (answering chain).length = w.lane.geo.bars →
    (∀ b, some b ∈ chain → b.emitterFault = false) →
    let old := w.lane
    let r := scanFrame e chain w
    let stuck : List Nat := (r.lane.bsu.beams.zipIdx.filter fun x => x.1.stuck).map (·.2)
    let guard := stuck.any fun j => decide (old.geo.f ≤ j + old.geo.sz ∧ j < old.geo.f + old.geo.sz)
    let beyond := decide (old.timing.stuckLimit < stuck.length)
    let health : Health :=
      match guard || beyond, old.lsv.barrierMark with
      | false, false => .ok
      | true, false => .sensor
      | false, true => .barrierFault
      | true, true => .sensorAndBarrier
    r.lane.bsu.causes = { chainFault := false, guardStuck := guard, overLimit := beyond }
    ∧ r.lane.lsv.sensorMark = (guard || beyond) ∧ r.lane.lsv.alarms.sensor.active = (guard || beyond)
    ∧ r.lane.ot = old.ot ∧ r.lane.reported = old.reported ∧ r.lane.pq = old.pq ∧ r.lane.bc = old.bc ∧ r.lane.lsv.mode = old.lsv.mode
    ∧ r.creds = w.creds
    ∧ r.out = w.out
        ++ ((old.bsu.beams.zip r.lane.bsu.beams).zipIdx.flatMap fun x =>
            if x.1.2.stuck && !x.1.1.stuck then [.beamStuck x.2]
            else if x.1.1.stuck && !x.1.2.stuck then [.beamCleared x.2]
            else [])
        ++ (if old.bsu.chainFault then [.chainRestored] else [])
        ++ (if (guard || beyond) = old.lsv.sensorMark then []
            else [.lane (.health health) old.lsv.mode old.lsv.policy])

/-- The shadows of a frame (R18): every occluded beam lies in one; each begins and ends at an occluded beam and holds no gap of more
than the bridge; they stand in lane order, more than the bridge apart. -/
def Claims.ShadowsCoverBeams : Prop :=
  ∀ (bridge : Nat) (v : List Bool),
    let ss := shadowsOf bridge v
    (∀ j, v[j]? = some true → ∃ x ∈ ss, x.lo ≤ j ∧ j ≤ x.hi)
    ∧ (∀ x ∈ ss, x.lo ≤ x.hi ∧ v[x.lo]? = some true ∧ v[x.hi]? = some true
        ∧ ∀ j, x.lo ≤ j → j < x.hi → ∃ i, j < i ∧ i ≤ j + 1 + bridge ∧ i ≤ x.hi ∧ v[i]? = some true)
    ∧ ss.Pairwise fun a b => a.hi + 1 + bridge < b.lo

/-- The groups of a frame (R24): every track and every shadow belongs to exactly one group, overlapping members to the same one, and the
shadows of a group are connected through its tracks. A shadow overlaps a track when it meets the track's extent widened by one beam at
each end. -/
def Claims.GroupsJoinOverlaps : Prop :=
  ∀ (tracks : List Track) (shadows : List Extent),
    let gs := groupsOf tracks shadows
    let meets (t : Track) (x : Extent) : Prop := x.lo ≤ t.ext.hi + 1 ∧ t.ext.lo ≤ x.hi + 1
    (gs.flatMap (·.shadows)).Perm shadows
    ∧ (gs.flatMap (·.tracks)).Perm (tracks.zipIdx.map fun x => (x.2, x.1))
    ∧ (∀ g ∈ gs, ∀ t ∈ g.tracks, ∀ x ∈ shadows, meets t.2 x → x ∈ g.shadows)
    ∧ (∀ g ∈ gs, ∀ t ∈ g.tracks, g.shadows ≠ [] → ∃ x ∈ g.shadows, meets t.2 x)
    ∧ (∀ g ∈ gs, g.shadows = [] → ∃ t, g.tracks = [t])
    ∧ ∀ g ∈ gs, ∀ side : Extent → Prop,
        (∀ t ∈ g.tracks, (∃ x ∈ g.shadows, meets t.2 x ∧ side x) → ∀ x ∈ g.shadows, meets t.2 x → side x) →
        (∃ x ∈ g.shadows, side x) → ∀ x ∈ g.shadows, side x

/-- How a group is settled (Table 2-4, R25, R27, R28, R30): a shadow alone is the site of a new track; a lone track keeps one shadow, the
last for ENTRY, the first for EXIT, the longest and first of those for UNSET, and the others are sites of its split; several tracks on
one shadow are merged; several tracks on several shadows are paired from the lobby end. -/
def Claims.GroupsSettled : Prop :=
  (∀ ss, settle [] ss = ([], ss.map fun x => { ext := x, splitFrom := none }))
  ∧ (∀ t ts, settle (t :: ts) [] = ([], []))
  ∧ (∀ (t : Nat × Track) (x : Extent) (xs : List Extent), (x :: xs).Pairwise (fun a b => a.hi < b.lo) →
      (∀ y ∈ x :: xs, y.lo ≤ y.hi) →
      ∃ ahead kept behind, x :: xs = ahead ++ kept :: behind
        ∧ settle [t] (x :: xs) =
            ([{ place := t.1, ext := kept, merged := false }],
             (ahead ++ behind).map fun y => { ext := y, splitFrom := some t.2.dir })
        ∧ (t.2.dir = some .entry → behind = [])
        ∧ (t.2.dir = some .exit → ahead = [])
        ∧ (t.2.dir = none →
            (∀ y ∈ ahead, y.hi - y.lo < kept.hi - kept.lo) ∧ ∀ y ∈ behind, y.hi - y.lo ≤ kept.hi - kept.lo))
  ∧ (∀ t u ts x, settle (t :: u :: ts) [x] =
      ((t :: u :: ts).map fun y => { place := y.1, ext := x, merged := true }, []))
  ∧ ∀ t u ts x y xs,
      (settle (t :: u :: ts) (x :: y :: xs)).1 =
        { place := t.1, ext := x, merged := false } :: (settle (u :: ts) (y :: xs)).1
      ∧ (settle (t :: u :: ts) (x :: y :: xs)).2 = (settle (u :: ts) (y :: xs)).2

/-- A track without a shadow (Table 2-5): completed, backed out, LOST or coasting, by the ends that its extent touched, its direction
and its coast count. -/
def Claims.TrackEndsOrCoasts : Prop :=
  ∀ (g : Geometry) (limit : Nat) (x : Track),
    let top := x.ext.hi + 1 = g.nb
    let bottom := x.ext.lo = 0
    let result := x.endWithoutShadow g limit
    (x.dir = some .entry → top → result = some (.completed .entry))
    ∧ (x.dir = some .exit → bottom → result = some (.completed .exit))
    ∧ (x.dir = some .entry → ¬top → bottom → result = some (.backedOut .entry))
    ∧ (x.dir = some .exit → ¬bottom → top → result = some (.backedOut .exit))
    ∧ (x.dir = none → (top ∨ bottom) → result = some (.lost .endUnset))
    ∧ (¬top → ¬bottom → limit < x.coastCount + 1 → result = some (.lost .coasted))
    ∧ (¬top → ¬bottom → x.coastCount + 1 ≤ limit → result = none)

/-- A track in a valid frame (R25, R26, R29, R33, R36): alone on a single shadow it takes that extent, is neither MERGED nor COASTING,
keeps what it was born with and bound, appends its lead, or restarts a held history, and crosses at the line; without a shadow it
ends as Table 2-5 gives, a rear member that completes crossing first, or coasts with its records kept. -/
def Claims.TracksFollowShadows : Prop :=
  ∀ (g : Geometry) (t : Timing) (now : Nat) (v : List Bool) (o : Ot) (ahead : List Track) (x : Track) (behind : List Track),
    o.tracks = ahead ++ x :: behind →
    let f := trackFrame g t now v o
    let meets (y : Track) (e : Extent) : Prop := e.lo ≤ y.ext.hi + 1 ∧ y.ext.lo ≤ e.hi + 1
    (∀ e ∈ shadowsOf t.br v, meets x e → (∀ r ∈ shadowsOf t.br v, meets x r → r = e) → (∀ y ∈ ahead ++ behind, ¬meets y e) →
      ∃ y ∈ f.ot.tracks, y.number = x.number ∧ y.ext = e ∧ y.merged = false ∧ y.coasting = false ∧ y.coastCount = 0
        ∧ y.bound = x.bound ∧ y.born = x.born ∧ y.firstPos = x.firstPos ∧ y.splitBorn = x.splitBorn ∧ y.exempt = x.exempt
        ∧ y.violated = x.violated ∧ y.loitered = x.loitered
        ∧ ∀ d, x.dir = some d →
            y.dir = some d ∧ y.crossed = (x.crossed || decide (g.fd d ≤ g.uhi d e))
            ∧ (x.history ≠ [] → x.held = false →
                y.history = (x.history ++ [g.lead d e]).drop (x.history.length + 1 - t.k))
            ∧ (x.history ≠ [] → x.held = true → y.history = [g.lead d e] ∧ y.held = false ∧ y.speed = t.vNom))
    ∧ ((∀ e ∈ shadowsOf t.br v, ¬meets x e) →
      (x.endWithoutShadow g t.c = none →
        ∃ y ∈ f.ot.tracks, ({ y with crossed := x.crossed } : Track) = { x with coasting := true, coastCount := x.coastCount + 1 })
      ∧ ∀ ended, x.endWithoutShadow g t.c = some ended →
          ∃ z ∈ f.ended, z.ended = ended ∧ ({ z.track with crossed := x.crossed } : Track) = x
            ∧ (z.crosses = true ↔ (∃ d, ended = .completed d) ∧ isRear o.tracks ahead.length x = true ∧ x.crossed = false)
            ∧ z.track.crossed = (x.crossed || z.crosses))

/-- A merge (R28, R29, R36): tracks that all meet the one shadow of a frame keep their numbers and order, take its extent and are
MERGED. A rear member, which has another of its direction ahead of it, has its history held and is not tested for crossing; any other
member of known direction is. -/
def Claims.MergeHoldsRearMembers : Prop :=
  ∀ (g : Geometry) (t : Timing) (now : Nat) (v : List Bool) (o : Ot) (e : Extent), shadowsOf t.br v = [e] →
    2 ≤ o.tracks.length → (∀ x ∈ o.tracks, e.lo ≤ x.ext.hi + 1 ∧ x.ext.lo ≤ e.hi + 1) →
    let f := trackFrame g t now v o
    f.ended = [] ∧ f.ot.tracks.map (·.number) = o.tracks.map (·.number) ∧ f.ot.untracked = false
    ∧ (∀ y ∈ f.ot.tracks, y.ext = e ∧ y.merged = true ∧ y.coasting = false)
    ∧ ∀ (i : Nat) (x y : Track) (d : Direction), o.tracks[i]? = some x → f.ot.tracks[i]? = some y → x.dir = some d →
        x.history ≠ [] →
        let rear :=
          match d with
          | .entry => ∃ j z, i < j ∧ f.ot.tracks[j]? = some z ∧ z.dir = some d
          | .exit => ∃ j z, j < i ∧ f.ot.tracks[j]? = some z ∧ z.dir = some d
        (rear → y.history = x.history ∧ y.speed = x.speed ∧ y.held = true ∧ y.crossed = x.crossed)
        ∧ (¬rear → y.held = false ∧ y.crossed = (x.crossed || decide (g.fd d ≤ g.uhi d e)))

/-- Births (R20, R27, R28, R31): while the list holds fewer than 8 tracks a shadow gives a track of the next free number with the
direction of the ends it touches, or of the track it split from, and is handed on when it touches its start end; beyond that the
shadow stays untracked. A frame of an empty lane bears its first 8 shadows; a frame keeps the list within 8, in lane order, its
numbers distinct. -/
def Claims.ShadowsBearTracks : Prop :=
  (∀ (g : Geometry) (now : Nat) (b : Births) (site : Site),
    (b.tracks.length < 8 →
      ∃ y, (giveBirth g now b site).tracks = b.tracks ++ [y]
        ∧ y.number = firstFree (b.tracks.map (·.number)) 255 b.next ∧ (giveBirth g now b site).next = next255 y.number
        ∧ (giveBirth g now b site).untracked = b.untracked
        ∧ y.ext = site.ext ∧ y.born = now ∧ y.firstPos = site.ext.lo + site.ext.hi ∧ y.bound = none ∧ y.history = []
        ∧ y.splitBorn = site.splitFrom.isSome ∧ y.crossed = false ∧ y.merged = false ∧ y.coasting = false ∧ y.exempt = false
        ∧ (∀ d, site.splitFrom = some d → y.dir = d)
        ∧ (site.splitFrom = none →
            y.dir =
              if site.ext.lo = 0 ∧ site.ext.hi + 1 ≠ g.nb then some .entry
              else if site.ext.lo ≠ 0 ∧ site.ext.hi + 1 = g.nb then some .exit
              else none)
        ∧ (giveBirth g now b site).startEnd = b.startEnd +
            (if (y.dir = some .entry ∧ site.ext.lo = 0) ∨ (y.dir = some .exit ∧ site.ext.hi + 1 = g.nb) then 1 else 0))
    ∧ (8 ≤ b.tracks.length → giveBirth g now b site = { b with untracked := b.untracked ++ [site.ext] }))
  ∧ ∀ (g : Geometry) (t : Timing) (now : Nat) (v : List Bool) (o : Ot),
      let f := trackFrame g t now v o
      let shadows := shadowsOf t.br v
      f.ot.shadows = shadows ∧ f.ot.untracked = !f.untracked.isEmpty ∧ f.ot.tracks.length ≤ max 8 o.tracks.length
      ∧ (f.ot.tracks.Pairwise fun a b => a.ext.lo < b.ext.lo ∨ (a.ext.lo = b.ext.lo ∧ a.ext.hi ≤ b.ext.hi))
      ∧ (1 ≤ o.next → o.next ≤ 255 → o.tracks.length ≤ 8 → (o.tracks.map (·.number)).Nodup →
          (f.ot.tracks.map (·.number)).Nodup ∧ 1 ≤ f.ot.next ∧ f.ot.next ≤ 255)
      ∧ (o.tracks = [] →
          f.ended = [] ∧ f.ot.tracks.map (·.ext) = shadows.take 8 ∧ f.untracked = shadows.drop 8
          ∧ f.startEnd = (f.ot.tracks.filter fun y => y.dir.isSome).length
          ∧ ∀ y ∈ f.ot.tracks, y.born = now ∧ y.bound = none ∧ y.dir = g.bornDirection y.ext
              ∧ (∀ d, y.dir = some d → y.history = [g.lead d y.ext] ∧ y.speed = t.vNom
                  ∧ y.crossed = decide (g.fd d ≤ g.uhi d y.ext)))

/-- A valid frame: every beam takes its answer, the lane's units take the frame in turn, and the tracker forms its shadows, groups and
settles them, lets tracks follow, coast, end and merge, and makes the births. -/
def Obligations.ValidFrameFiltersBeams : Prop :=
  Claims.ValidFrameFiltersBeams ∧ Claims.FrameRunsUnitsInTurn ∧ Claims.ValidScanHandedOn ∧ Claims.ShadowsCoverBeams
    ∧ Claims.GroupsJoinOverlaps ∧ Claims.GroupsSettled ∧ Claims.TrackEndsOrCoasts ∧ Claims.TracksFollowShadows
    ∧ Claims.MergeHoldsRearMembers ∧ Claims.ShadowsBearTracks

/-- The vote filter (R11): agreement clears the counter; a disagreement raises it, and at V the filtered state follows; the counter stays
below V. A valid frame puts every lane beam, stuck or not, through it, and an invalid frame leaves every beam as it was. The raw answers
are those of the bars that answered, in chain order (the model's choice, Log 14). -/
def Claims.VoteFilterFollowsAfterV : Prop :=
  (∀ (v : Nat) (raw : Bool) (b : Beam),
    (raw = b.occluded → b.vote v raw = { b with counter := 0 })
    ∧ (raw ≠ b.occluded → b.counter + 1 < v → b.vote v raw = { b with counter := b.counter + 1 })
    ∧ (raw ≠ b.occluded → v ≤ b.counter + 1 → b.vote v raw = { b with occluded := raw, counter := 0 })
    ∧ (0 < v → b.counter < v → (b.vote v raw).counter < v))
  ∧ ∀ (e : Env) (chain : List (Option BarAnswer)) (w : Work),
      (validFrame e chain w).lane.bsu.beams =
        List.zipWith (fun raw b => (b.vote w.lane.timing.v raw).stuckTest e.now w.lane.timing.stuckTime)
          (w.lane.geo.laneAnswers (answering chain)) w.lane.bsu.beams
      ∧ (faultyFrame chain w).lane.bsu.beams = w.lane.bsu.beams
      ∧ ∀ b : Beam, (b.stuckTest e.now w.lane.timing.stuckTime).occluded = b.occluded
          ∧ (b.stuckTest e.now w.lane.timing.stuckTime).counter = b.counter

/-- The stuck test of one lane beam after the vote filter (R12): an occluded beam's timer starts at the current count unless it runs, the
beam is marked once the timer is the stuck time old and keeps its mark; a clear beam's timer stops and its mark goes. -/
def Claims.StuckTestMarksBeams : Prop :=
  ∀ (now stuckTime : Nat) (b : Beam),
    let r := b.stuckTest now stuckTime
    (b.occluded = false → r.timer = none ∧ r.stuck = false)
    ∧ (b.occluded = true → b.timer = none → r.timer = some now)
    ∧ (∀ start, b.occluded = true → b.timer = some start → r.timer = some start)
    ∧ (b.occluded = true → b.stuck = true → r.stuck = true)
    ∧ (∀ start, b.occluded = true → b.timer = some start → b.stuck = false → (r.stuck = true ↔ stuckTime * 1000 ≤ now - start))
    ∧ (b.occluded = true → b.timer = none → b.stuck = false → 0 < stuckTime → r.stuck = false)

/-- What a valid frame posts of its beams (R12), BEAM_STUCK and BEAM_CLEARED in lane beam order, CHAIN_RESTORED behind them when the chain
state was FAULT (R10), and its frame result (R14): the filtered vector, and the guard zone flag from the guard zone beams of that vector. -/
def Claims.ValidFrameReportsBeams : Prop :=
  ∀ (e : Env) (chain : List (Option BarAnswer)) (w : Work),
    let r := validFrame e chain w
    let g := w.lane.geo
    let vector := r.lane.bsu.beams.map fun b => b.occluded && !b.stuck
    r.out = w.out
      ++ ((w.lane.bsu.beams.zip r.lane.bsu.beams).zipIdx.flatMap fun x =>
          if x.1.2.stuck && !x.1.1.stuck then [.beamStuck x.2]
          else if x.1.1.stuck && !x.1.2.stuck then [.beamCleared x.2]
          else [])
      ++ (if w.lane.bsu.chainFault then [.chainRestored] else [])
    ∧ r.lane.bsu.result.valid = true ∧ r.lane.bsu.result.vector = vector
    ∧ (r.lane.bsu.result.guardOccupied = true ↔ ∃ j, vector[j]? = some true ∧ g.f ≤ j + g.sz ∧ j < g.f + g.sz)

/-- The vote filter and the stuck test of every lane beam at a valid frame, what they post, and the frame result. -/
def Obligations.VoteFilterFollowsAfterV : Prop :=
  Claims.VoteFilterFollowsAfterV ∧ Claims.StuckTestMarksBeams ∧ Claims.ValidFrameReportsBeams

/-! ## Tracks -/

/-- Speed and retreat (R34, R35), t being the settings with the frame period in force: what starting, appending to and leaving alone a
lead history make of a track's speed and of its RETREATING flag. -/
def Obligations.SpeedAndRetreat : Prop :=
  (∀ (x : Track) (vNom lead : Nat) (held : Bool),
    (x.startHistory vNom lead held).history = [lead] ∧ (x.startHistory vNom lead held).peak = lead
    ∧ (x.startHistory vNom lead held).speed = vNom ∧ (x.startHistory vNom lead held).retreating = false)
  ∧ (∀ (x : Track) (p lead : Nat) (t : Timing),
      let y := x.appendLead p t lead
      (y.history.length ≤ 1 → y.speed = t.vNom)
      ∧ (∀ (oldest newest : Nat) (mid : List Nat), y.history = oldest :: (mid ++ [newest]) →
          (y.speed : Int) =
            max 0 (min 4000 (((newest : Int) - (oldest : Int)) * 1000 / (((y.history.length - 1) * t.tf : Nat) : Int))))
      ∧ (t.vNom ≤ 4000 → y.speed ≤ 4000)
      ∧ y.retreating = (if x.peak ≤ lead then false else if lead + 2 * p ≤ x.peak then true else x.retreating))
  ∧ (∀ (x : Track) (g : Geometry) (t : Timing) (rear : Bool),
      (x.dir = none → x.follow g t rear = x) ∧ (x.coasting = true → x.follow g t rear = x)
      ∧ (x.history ≠ [] → (x.follow g t true).speed = x.speed))
  ∧ ∀ (g : Geometry) (now n : Nat) (site : Site), (newTrack g now n site).speed = 0

/-- Direction finding (R32): an UNSET track whose extent centre has moved two pitches from its first position gets its direction, starts
its lead history and is tested for crossing in the same frame; a coasting track is not tested. -/
def Obligations.DirectionAfterTwoPitches : Prop :=
  (∀ x : Track, x.dir = none → x.coasting = false →
    (x.firstPos + 4 ≤ x.ext.lo + x.ext.hi → x.findDirection = { x with dir := some .entry })
    ∧ (x.ext.lo + x.ext.hi + 4 ≤ x.firstPos → x.findDirection = { x with dir := some .exit })
    ∧ (x.ext.lo + x.ext.hi < x.firstPos + 4 → x.firstPos < x.ext.lo + x.ext.hi + 4 → x.findDirection = x))
  ∧ (∀ x : Track, x.coasting = true → x.findDirection = x)
  ∧ (∀ (g : Geometry) (t : Timing) (x : Track) (d : Direction), x.dir = some d → x.coasting = false → x.history = [] →
      x.crossed = false →
      ∀ rear : Bool, (advance g t x rear).1.history = [g.lead d x.ext]
        ∧ (advance g t x rear).2 = (!rear && decide (g.fd d ≤ g.uhi d x.ext))
        ∧ (advance g t x rear).1.crossed = (advance g t x rear).2)
  ∧ ∀ (g : Geometry) (now n : Nat) (site : Site), (newTrack g now n site).firstPos = site.ext.lo + site.ext.hi

/-- Binding takes the first READY permit of the direction in queue order, uses one passage of it and renews its deadline; permits ahead
of it are passed over, and with no such permit nothing is bound. -/
def Obligations.BindTakesFirstReadyPermit : Prop :=
  ∀ (deadline : Nat) (d : Direction) (ps : List Permit),
    (bindFirst deadline d ps = none ↔ ∀ p ∈ ps, ¬(p.dir = d ∧ p.state = .ready))
    ∧ ∀ q qs, bindFirst deadline d ps = some (q, qs) →
        ∃ ahead p behind, ps = ahead ++ p :: behind ∧ (∀ x ∈ ahead, ¬(x.dir = d ∧ x.state = .ready)) ∧ p.dir = d ∧ p.state = .ready
          ∧ q = { p with used := p.used + 1, deadline := deadline } ∧ qs = ahead ++ q :: behind

/-- Track numbers, permit numbers and referral tags: the search for the next free number in 1 to 255 finds one that is not taken, and
the first number itself when it is free. -/
def Obligations.NextNumberIsFree : Prop :=
  ∀ (taken : List Nat) (n : Nat), taken.length < 255 → 1 ≤ n → n ≤ 255 →
    1 ≤ firstFree taken 255 n ∧ firstFree taken 255 n ≤ 255 ∧ firstFree taken 255 n ∉ taken
    ∧ (n ∉ taken → firstFree taken 255 n = n)

/-! ## Permits -/

/-- An append is refused LANE_BUSY under the other direction's claim, QUEUE_FULL with four permits queued, and otherwise queues the
permit with used 0, in the state and at the place of Table 3-2: at the tail, or, for an ESCORT, ahead of the first permit that awaits an
escort, with every permit that awaits one made READY with a new deadline (R50, R57) and all else of the queue as it was. -/
def Obligations.AppendJudged : Prop :=
  ∀ (e : Env) (r : AppendReq) (w : Work),
    ((∃ c, w.lane.pq.claim = some c ∧ c ≠ r.dir) → append e r w = .laneBusy)
    ∧ ((w.lane.pq.claim = none ∨ w.lane.pq.claim = some r.dir) → 4 ≤ w.lane.pq.permits.length → append e r w = .queueFull)
    ∧ ((w.lane.pq.claim = none ∨ w.lane.pq.claim = some r.dir) → w.lane.pq.permits.length < 4 →
        ∃ w' p, append e r w = .accepted w' p.number p.state
          ∧ p.dir = r.dir ∧ p.origin = r.origin ∧ p.credential = r.credential ∧ p.cls = r.cls ∧ p.reader = r.reader
          ∧ p.allowance = r.allowance ∧ p.used = 0 ∧ p.soft = r.soft
          ∧ p.number = firstFree w.lane.permitNumbers 255 w.lane.pq.next
          ∧ p.state =
              (if r.escort = false ∧ r.needsEscort = true ∧ w.lane.pq.window r.dir = none then .awaitingEscort else .ready)
          ∧ p.deadline =
              (if p.state = .ready then e.now + w.lane.timing.grantTime * 1000 * (if w.lane.timing.wide then 2 else 1)
                else e.now + w.lane.timing.escortWindow * 1000)
          ∧ (r.escort = false → w'.lane.pq.permits = w.lane.pq.permits ++ [p])
          ∧ (r.escort = true →
              w'.lane.pq.permits =
                w.lane.pq.permits.takeWhile (fun x => decide (x.state ≠ .awaitingEscort))
                  ++ p :: ((w.lane.pq.permits.dropWhile fun x => decide (x.state ≠ .awaitingEscort)).map fun x =>
                      if x.state = .awaitingEscort then
                        { x with
                          state := .ready
                          deadline := e.now + w.lane.timing.grantTime * 1000 * (if w.lane.timing.wide then 2 else 1) }
                      else x)
              ∧ w'.lane.pq.window r.dir = some (e.now + w.lane.timing.escortWindow * 1000))
          ∧ (∀ d, (r.escort = false ∨ d ≠ r.dir) → w'.lane.pq.window d = w.lane.pq.window d)
          ∧ w'.lane.pq.next = next255 p.number
          ∧ ((∀ x ∈ w.lane.pq.permits, w.lane.pq.claim = some x.dir) → w'.lane.pq.claim = some r.dir)
          ∧ w'.lane.ot = w.lane.ot ∧ w'.lane.reported = w.lane.reported ∧ w'.creds = w.creds)

/-- PERMIT_EXPIRY and ESCORT_TIMEOUT: a queued permit whose deadline has come leaves the queue with its notice; only FREE permits of
the free-direction service can take its place, in SERVICE alone. -/
def Obligations.DuePermitLeavesQueue : Prop :=
  ∀ (k : Lane) (s : State) (p : Permit), p ∈ (s.lane k).pq.permits →
    (∀ q ∈ (s.lane k).pq.permits, q.number = p.number → q = p) → p.deadline ≤ s.tmb.ms →
    ∃ l bodies freed, (match p.state with
        | .ready => exec (.permitExpiry k p.number) s = .next (s.laneEvent k l (.permitEnd p .expired :: bodies))
        | .awaitingEscort => exec (.escortTimeout k p.number) s = .next (s.laneEvent k l (.permitEnd p .escortTimeout :: bodies)))
      ∧ l.pq.permits = (s.lane k).pq.permits.filter (fun x => decide (x.number ≠ p.number)) ++ freed
      ∧ (∀ q ∈ freed, q.origin = .free ∧ q.state = .ready ∧ q.credential = none ∧ q.allowance = 1 ∧ q.used = 0)
      ∧ ((s.lane k).lsv.mode ≠ .service → freed = [] ∧ bodies = [])
      ∧ l.pq.entryWindow = (s.lane k).pq.entryWindow ∧ l.pq.exitWindow = (s.lane k).pq.exitWindow
      ∧ l.geo = (s.lane k).geo ∧ l.timing = (s.lane k).timing ∧ l.bsu = (s.lane k).bsu ∧ l.ot = (s.lane k).ot
      ∧ l.reported = (s.lane k).reported ∧ l.lsv.mode = (s.lane k).lsv.mode ∧ l.lsv.policy = (s.lane k).lsv.policy

/-- ESCORT_WINDOW_END: an escort window whose end has come closes; no queued permit and nothing else changes. -/
def Claims.EscortWindowCloses : Prop :=
  ∀ (k : Lane) (s : State) (t : Nat), t ≤ s.tmb.ms →
    ((s.lane k).pq.entryWindow = some t →
      exec (.escortWindowEnd k .entry) s =
        .next (s.setLane k { s.lane k with pq := { (s.lane k).pq with entryWindow := none } }))
    ∧ ((s.lane k).pq.exitWindow = some t →
      exec (.escortWindowEnd k .exit) s =
        .next (s.setLane k { s.lane k with pq := { (s.lane k).pq with exitWindow := none } }))

/-! ## Barrier -/

/-- OPEN_LIMIT_CHANGE and SHUT_LIMIT_CHANGE: the limit input of a motion in flight completes it. Into OPEN: the jam hold starts under JAM
and the shut condition is evaluated. Into SHUT: JAM and the reversal count clear and the open condition is evaluated. A motion that the
evaluation begins under an active limit of its own completes at once. That JAM_CLEARED carries SHUT and count 0 also where the event
goes on into OPENING is the model's choice (Log 16). -/
def Claims.LimitCompletesMotion : Prop :=
  ∀ (k : Lane) (s : State),
    let old := s.lane k
    let held := if old.bc.jam then some (s.tmb.ms + old.timing.jamHold * 1000) else old.bc.jamHoldEnd
    let arrived := { old with bc := { old.bc with jamHoldEnd := held } }
    (old.bc.state = .opening → old.bc.openLimit = false →
      ∃ l bodies, exec (.openLimitChange k true) s = .next (s.laneEvent k l bodies) ∧ l.bc.openLimit = true
        ∧ l.geo = old.geo ∧ l.timing = old.timing ∧ l.bsu = old.bsu ∧ l.ot = old.ot ∧ l.reported = old.reported ∧ l.pq = old.pq
        ∧ l.lsv.mode = old.lsv.mode
        ∧ ((shutMode old.lsv.mode = false ∨ arrived.failedPoints ≠ [] ∨ old.bc.obstruct = true) →
            bodies = [] ∧ l.bc.state = .opened ∧ l.bc.motionEnd = none ∧ l.bc.driveOpen = false ∧ l.bc.driveShut = false
            ∧ l.bc.jamHoldEnd = held ∧ l.bc.reversals = old.bc.reversals)
        ∧ (shutMode old.lsv.mode = true → arrived.failedPoints = [] → old.bc.obstruct = false → old.bc.shutLimit = false →
            bodies = [] ∧ l.bc.state = .shutting ∧ l.bc.motionEnd = some (s.tmb.ms + 2 * old.timing.tc) ∧ l.bc.driveOpen = false
            ∧ l.bc.driveShut = true)
        ∧ (shutMode old.lsv.mode = true → arrived.failedPoints = [] → old.bc.obstruct = false → old.bc.shutLimit = true →
            bodies = [] ∧ l.bc.state = .shut ∧ l.bc.motionEnd = none ∧ l.bc.driveOpen = false ∧ l.bc.driveShut = false
            ∧ l.bc.reversals = 0))
    ∧ (old.bc.state = .shutting → old.bc.shutLimit = false →
      ∃ l, exec (.shutLimitChange k true) s =
          .next (s.laneEvent k l (if old.bc.jam then [.barrier .jamCleared .shut 0] else []))
        ∧ l.bc.shutLimit = true ∧ l.bc.reversals = 0 ∧ l.bc.jam = false ∧ l.lsv.alarms.jam.active = false
        ∧ l.geo = old.geo ∧ l.timing = old.timing ∧ l.bsu = old.bsu ∧ l.ot = old.ot ∧ l.reported = old.reported ∧ l.pq = old.pq
        ∧ l.lsv.mode = old.lsv.mode
        ∧ ((old.lsv.mode = .dark ∨ old.opensFromShut = false) →
            l.bc.state = .shut ∧ l.bc.motionEnd = none ∧ l.bc.driveOpen = false ∧ l.bc.driveShut = false)
        ∧ (old.lsv.mode ≠ .dark → old.opensFromShut = true → old.bc.openLimit = false →
            l.bc.state = .opening ∧ l.bc.motionEnd = some (s.tmb.ms + 2 * old.timing.topen) ∧ l.bc.driveOpen = true
            ∧ l.bc.driveShut = false)
        ∧ (old.lsv.mode ≠ .dark → old.opensFromShut = true → old.bc.openLimit = true →
            l.bc.state = .opened ∧ l.bc.motionEnd = none ∧ l.bc.driveOpen = false ∧ l.bc.driveShut = false))

/-- A change of a limit input that ends no motion and no STALLED (a limit going inactive, or becoming active in another state) alters
its level alone. -/
def Claims.LimitElsewhereChangesLevel : Prop :=
  ∀ (k : Lane) (s : State) (level : Bool),
    let old := s.lane k
    (¬(level = true ∧ old.bc.openLimit = false ∧ (old.bc.state = .opening ∨ old.bc.state = .stalled)) →
      exec (.openLimitChange k level) s =
        .next (s.setLane k
          (({ old with bc := { old.bc with openLimit := level } } : LaneState).withOutputs s.rfu.slots k)))
    ∧ (¬(level = true ∧ old.bc.shutLimit = false ∧ (old.bc.state = .shutting ∨ old.bc.state = .stalled)) →
      exec (.shutLimitChange k level) s =
        .next (s.setLane k
          (({ old with bc := { old.bc with shutLimit := level } } : LaneState).withOutputs s.rfu.slots k)))

/-- A limit input completes the motion in flight that it ends; elsewhere it changes its level alone. -/
def Obligations.LimitCompletesMotion : Prop := Claims.LimitCompletesMotion ∧ Claims.LimitElsewhereChangesLevel

/-- A limit input becoming active ends STALLED: RECOVERED is posted first, STALL, the position-unknown flag and the barrier fault clear,
and the barrier is SHUT or OPEN, from which it may at once begin the motion that its condition calls for; under an active limit of its
own that motion completes at once. That RECOVERED carries the state recovered to and the count before R83 clears it (Log 16), and that
HEALTH comes behind it and ahead of what follows (Log 15), is the model's choice. -/
def Obligations.LimitEndsStalled : Prop :=
  ∀ (k : Lane) (s : State),
    let old := s.lane k
    let held := if old.bc.jam then some (s.tmb.ms + old.timing.jamHold * 1000) else old.bc.jamHoldEnd
    let arrived := { old with bc := { old.bc with jamHoldEnd := held } }
    let health : List NoticeBody :=
      if old.lsv.barrierMark then
        [.lane (.health (if old.lsv.sensorMark then .sensor else .ok)) old.lsv.mode old.lsv.policy]
      else []
    old.bc.state = .stalled →
    (old.bc.openLimit = false →
      ∃ l, exec (.openLimitChange k true) s =
          .next (s.laneEvent k l (.barrier .recovered .opened old.bc.reversals :: health))
        ∧ l.bc.openLimit = true ∧ l.bc.stall = false ∧ l.bc.positionUnknown = false ∧ l.lsv.barrierMark = false
        ∧ l.lsv.alarms.stall.active = false ∧ l.ot = old.ot ∧ l.reported = old.reported ∧ l.pq = old.pq ∧ l.bsu = old.bsu
        ∧ l.lsv.mode = old.lsv.mode
        ∧ ((shutMode old.lsv.mode = false ∨ arrived.failedPoints ≠ [] ∨ old.bc.obstruct = true) →
            l.bc.state = .opened ∧ l.bc.motionEnd = none ∧ l.bc.jamHoldEnd = held)
        ∧ (shutMode old.lsv.mode = true → arrived.failedPoints = [] → old.bc.obstruct = false → old.bc.shutLimit = false →
            l.bc.state = .shutting)
        ∧ (shutMode old.lsv.mode = true → arrived.failedPoints = [] → old.bc.obstruct = false → old.bc.shutLimit = true →
            l.bc.state = .shut ∧ l.bc.motionEnd = none ∧ l.bc.reversals = 0))
    ∧ (old.bc.shutLimit = false →
      ∃ l, exec (.shutLimitChange k true) s =
          .next (s.laneEvent k l (.barrier .recovered .shut old.bc.reversals
            :: ((if old.bc.jam then [.barrier .jamCleared .shut 0] else []) ++ health)))
        ∧ l.bc.shutLimit = true ∧ l.bc.stall = false ∧ l.bc.positionUnknown = false ∧ l.lsv.barrierMark = false
        ∧ l.lsv.alarms.stall.active = false ∧ l.bc.reversals = 0 ∧ l.bc.jam = false
        ∧ l.ot = old.ot ∧ l.reported = old.reported ∧ l.pq = old.pq ∧ l.bsu = old.bsu ∧ l.lsv.mode = old.lsv.mode
        ∧ ((old.lsv.mode = .dark ∨ old.opensFromShut = false) → l.bc.state = .shut ∧ l.bc.motionEnd = none)
        ∧ (old.lsv.mode ≠ .dark → old.opensFromShut = true → old.bc.openLimit = false → l.bc.state = .opening)
        ∧ (old.lsv.mode ≠ .dark → old.opensFromShut = true → old.bc.openLimit = true →
            l.bc.state = .opened ∧ l.bc.motionEnd = none))

/-- OBSTRUCT_CHANGE: becoming active in SHUTTING it makes a counted reversal, the third of which sets JAM; with OPEN_LIMIT still active the
reversal completes at once into OPEN, under JAM with the jam hold, and the shut condition, which cannot pass, is evaluated (R70); any
other change of the input alters its level alone. That the notices of such a reversal carry OPEN is the model's choice (Log 16). -/
def Obligations.ObstructReversesShutting : Prop :=
  ∀ (k : Lane) (s : State),
    let old := s.lane k
    (old.bc.state = .shutting → old.bc.obstruct = false → old.bc.openLimit = false →
      ∃ l, exec (.obstructChange k true) s =
          .next (s.laneEvent k l
            (.barrier (.reversed .obstruct) .opening (min 255 (old.bc.reversals + 1))
              :: if old.bc.reversals = 2 then [.barrier .jam .opening 3] else []))
        ∧ l.bc.state = .opening ∧ l.bc.motionEnd = some (s.tmb.ms + 2 * old.timing.topen) ∧ l.bc.driveOpen = true
        ∧ l.bc.driveShut = false ∧ l.bc.reversals = min 255 (old.bc.reversals + 1)
        ∧ l.bc.jam = (old.bc.jam || decide (old.bc.reversals = 2)) ∧ l.bc.obstruct = true ∧ l.geo = old.geo
        ∧ l.timing = old.timing ∧ l.bsu = old.bsu ∧ l.ot = old.ot ∧ l.reported = old.reported ∧ l.pq = old.pq
        ∧ l.lsv.mode = old.lsv.mode)
    ∧ (old.bc.state = .shutting → old.bc.obstruct = false → old.bc.openLimit = true →
      let count := min 255 (old.bc.reversals + 1)
      let jam := old.bc.jam || decide (old.bc.reversals = 2)
      let hold := if jam then some (s.tmb.ms + old.timing.jamHold * 1000) else old.bc.jamHoldEnd
      let arrived : LaneState := { old with bc := { old.bc with jamHoldEnd := hold } }
      ∃ l, exec (.obstructChange k true) s =
          .next (s.laneEvent k l
            (.barrier (.reversed .obstruct) .opened count
              :: if old.bc.reversals = 2 then [.barrier .jam .opened 3] else []))
        ∧ l.bc =
            { old.bc with
              state := .opened, obstruct := true, driveOpen := false, driveShut := false, motionEnd := none, reversals := count
              jam := jam, jamHoldEnd := hold
              last :=
                if shutMode old.lsv.mode then
                  some { time := s.tmb.ms, failed := arrived.failedPoints, assessed := arrived.assessments, obstruct := true }
                else none
              risk := shutMode old.lsv.mode && !arrived.failedPoints.contains 1 && arrived.failedPoints.contains 5 }
        ∧ l.geo = old.geo ∧ l.timing = old.timing ∧ l.bsu = old.bsu ∧ l.ot = old.ot ∧ l.reported = old.reported ∧ l.pq = old.pq
        ∧ l.lsv.mode = old.lsv.mode)
    ∧ ∀ level : Bool, old.bc.obstruct ≠ level → ¬(level = true ∧ old.bc.state = .shutting) →
        exec (.obstructChange k level) s =
          .next (s.setLane k
            (({ old with bc := { old.bc with obstruct := level } } : LaneState).withOutputs s.rfu.slots k))

/-- MOTION_TIMEOUT: a motion whose timer's end has come stalls: both drives are released, STALL is set and the barrier fault handed on,
STALLED is posted with the motion and HEALTH when the health changes; the reversal count and JAM stay. That HEALTH comes behind STALLED
is the model's choice (Log 15). -/
def Claims.MotionTimeoutStalls : Prop :=
  ∀ (k : Lane) (s : State) (m : Motion) (t : Nat),
    let old := s.lane k
    old.bc.state = (match m with | .opening => .opening | .shutting => .shutting) → old.bc.motionEnd = some t → t ≤ s.tmb.ms →
    ∃ l, exec (.motionTimeout k) s =
        .next (s.laneEvent k l
          (.barrier (.stalled m) .stalled old.bc.reversals
            :: if old.lsv.barrierMark then []
               else [.lane (.health (if old.lsv.sensorMark then .sensorAndBarrier else .barrierFault)) old.lsv.mode
                       old.lsv.policy]))
      ∧ l.bc.state = .stalled ∧ l.bc.driveOpen = false ∧ l.bc.driveShut = false ∧ l.bc.motionEnd = none ∧ l.bc.stall = true
      ∧ l.bc.positionUnknown = false ∧ l.bc.reversals = old.bc.reversals ∧ l.bc.jam = old.bc.jam ∧ l.lsv.barrierMark = true
      ∧ l.lsv.alarms.stall.active = true ∧ l.geo = old.geo ∧ l.timing = old.timing ∧ l.bsu = old.bsu ∧ l.ot = old.ot
      ∧ l.reported = old.reported ∧ l.pq = old.pq ∧ l.lsv.mode = old.lsv.mode

/-- JAM_HOLD_END: the timer stops; an OPEN barrier evaluates its shut condition at once and begins SHUTTING if it holds, any other
barrier is not moved. -/
def Claims.JamHoldEndTriesShut : Prop :=
  ∀ (k : Lane) (s : State) (t : Nat),
    let old := s.lane k
    let released := { old with bc := { old.bc with jamHoldEnd := none } }
    old.bc.jamHoldEnd = some t → t ≤ s.tmb.ms →
    ((old.bc.state ≠ .opened ∨ shutMode old.lsv.mode = false) →
      exec (.jamHoldEnd k) s = .next (s.setLane k (released.withOutputs s.rfu.slots k)))
    ∧ (old.bc.state = .opened → shutMode old.lsv.mode = true →
      ∃ l bodies, exec (.jamHoldEnd k) s = .next (s.laneEvent k l bodies) ∧ l.ot = old.ot ∧ l.reported = old.reported ∧ l.pq = old.pq
        ∧ l.bsu = old.bsu ∧ l.bc.jamHoldEnd = none
        ∧ ((released.failedPoints ≠ [] ∨ old.bc.obstruct = true) →
            bodies = [] ∧ l.bc.state = .opened
            ∧ l.bc.last = some { time := s.tmb.ms, failed := released.failedPoints, assessed := released.assessments
                                 obstruct := old.bc.obstruct })
        ∧ (released.failedPoints = [] → old.bc.obstruct = false → old.bc.shutLimit = false →
            bodies = [] ∧ l.bc.state = .shutting ∧ l.bc.motionEnd = some (s.tmb.ms + 2 * old.timing.tc)
            ∧ l.bc.driveShut = true ∧ l.bc.driveOpen = false))

/-- The frame event of the Barrier Controller (R76), with the fault posture set coming into force first (Table 4-2): a shut motion is
reversed, counted when the guard zone is occupied (R81), uncounted in the SENSOR condition (R84) or when the open condition holds (R73);
a SHUT barrier opens on the open condition; an OPEN one records its shut evaluation (R77) and shuts when it passes; in OPENING and
STALLED nothing changes. A motion under an active limit of its own completes at once (R70); that the notices of such a reversal carry
OPEN is the model's choice (Log 16). -/
def Claims.FrameMovesBarrier : Prop :=
  ∀ (e : Env) (w : Work),
    let l := w.lane
    let held := l.takePosture
    let t := barrierFrame e w
    let opens : Prop :=
      t.lane.bc.driveShut = false
        ∧ (l.bc.openLimit = false →
            t.lane.bc.state = .opening ∧ t.lane.bc.motionEnd = some (e.now + 2 * l.timing.topen) ∧ t.lane.bc.driveOpen = true)
        ∧ (l.bc.openLimit = true → t.lane.bc.state = .opened ∧ t.lane.bc.motionEnd = none ∧ t.lane.bc.driveOpen = false)
    let stays : Prop := t = { w with lane := held }
    (t.lane.bc.posture = l.timing.posture ∧ t.creds = w.creds ∧ t.lane.geo = l.geo ∧ t.lane.timing = l.timing ∧ t.lane.bsu = l.bsu
      ∧ t.lane.ot = l.ot ∧ t.lane.reported = l.reported ∧ t.lane.pq = l.pq ∧ t.lane.lsv.mode = l.lsv.mode
      ∧ t.lane.lsv.policy = l.lsv.policy)
    ∧ (l.bc.state = .shutting → l.bsu.result.guardOccupied = true →
        let count := min 255 (l.bc.reversals + 1)
        let after : Barrier := if l.bc.openLimit then .opened else .opening
        opens ∧ t.lane.bc.reversals = count ∧ t.lane.bc.jam = (l.bc.jam || decide (l.bc.reversals = 2))
        ∧ t.out = w.out ++ (.barrier (.reversed .guardZone) after count
            :: if l.bc.reversals = 2 then [.barrier .jam after 3] else []))
    ∧ (l.bc.state = .shutting → l.bsu.result.guardOccupied = false →
        (l.bsu.causes.any = true ∨ (l.lsv.mode ≠ .dark ∧ held.openCondition = true)) →
        opens ∧ t.lane.bc.reversals = l.bc.reversals ∧ t.lane.bc.jam = l.bc.jam ∧ t.out = w.out)
    ∧ (l.bc.state = .shutting → l.bsu.result.guardOccupied = false → l.bsu.causes.any = false →
        (l.lsv.mode = .dark ∨ held.openCondition = false) → stays)
    ∧ (l.bc.state = .shut → (l.lsv.mode = .dark ∨ held.opensFromShut = false) → stays)
    ∧ (l.bc.state = .shut → l.lsv.mode ≠ .dark → held.opensFromShut = true → opens ∧ t.out = w.out)
    ∧ (l.bc.state = .opened → shutMode l.lsv.mode = false → stays)
    ∧ (l.bc.state = .opened → shutMode l.lsv.mode = true → (l.failedPoints ≠ [] ∨ l.bc.obstruct = true) →
        t.out = w.out ∧ t.lane.bc.state = .opened ∧ t.lane.bc.motionEnd = l.bc.motionEnd
        ∧ t.lane.bc.last =
            some { time := e.now, failed := l.failedPoints, assessed := l.assessments, obstruct := l.bc.obstruct }
        ∧ t.lane.bc.risk = (!l.failedPoints.contains 1 && l.failedPoints.contains 5)
        ∧ t.lane.lsv.riskLobby = (l.recordEvaluation e.now).lsv.riskLobby
        ∧ t.lane.lsv.riskSecure = (l.recordEvaluation e.now).lsv.riskSecure)
    ∧ (l.bc.state = .opened → shutMode l.lsv.mode = true → l.failedPoints = [] → l.bc.obstruct = false →
        t.lane.bc.last = none ∧ t.lane.bc.risk = false ∧ t.lane.lsv.riskLobby = false ∧ t.lane.lsv.riskSecure = false
        ∧ (l.bc.shutLimit = false →
            t.out = w.out ∧ t.lane.bc.state = .shutting ∧ t.lane.bc.motionEnd = some (e.now + 2 * l.timing.tc)
            ∧ t.lane.bc.driveShut = true ∧ t.lane.bc.driveOpen = false)
        ∧ (l.bc.shutLimit = true →
            t.out = w.out ++ (if l.bc.jam then [.barrier .jamCleared .shut 0] else []) ∧ t.lane.bc.state = .shut
            ∧ t.lane.bc.motionEnd = none ∧ t.lane.bc.reversals = 0 ∧ t.lane.bc.jam = false))
    ∧ (l.bc.state = .opening ∨ l.bc.state = .stalled → stays)

/-- The conditions of the barrier: the seven points of the shut condition (Table 4-4, R75), each by its number, ascending (the model's
choice, Log 54); the open condition under the fault posture in force (R73, R84); and from SHUT, that a READY permit alone begins no motion
in the SENSOR condition under HOLD (R73, R84). -/
def Claims.BarrierConditions : Prop :=
  ∀ l : LaneState,
    let ready := ∃ p ∈ l.pq.permits, p.state = .ready
    let sensor := l.bsu.causes.chainFault = true ∨ l.bsu.causes.guardStuck = true ∨ l.bsu.causes.overLimit = true
    let holdsOpen (x : Track) : Prop :=
      x.bound ≠ none ∧ x.crossed = true
        ∧ ((x.dir = some .entry ∧ x.ext.lo * l.geo.p < l.geo.f * l.geo.p + l.geo.sz * l.geo.p)
          ∨ (x.dir = some .exit
              ∧ (l.geo.nb - 1 - x.ext.hi) * l.geo.p < (l.geo.nb - l.geo.f) * l.geo.p + l.geo.sz * l.geo.p))
    let fails (n : Nat) : Prop := n ∈ l.failedPoints
    (fails 1 ↔ ready) ∧ (fails 2 ↔ l.bsu.result.guardOccupied = true) ∧ (fails 3 ↔ l.ot.untracked = true)
    ∧ (fails 4 ↔ ∃ x ∈ l.ot.tracks, holdsOpen x) ∧ (fails 5 ↔ ∃ a ∈ l.assessments, a.feasible = false) ∧ (fails 6 ↔ sensor)
    ∧ (fails 7 ↔ l.bc.jamHoldEnd ≠ none) ∧ (∀ n, fails n → 1 ≤ n ∧ n ≤ 7) ∧ (l.failedPoints.Pairwise fun a b => a < b)
    ∧ (l.openCondition = true ↔ ready ∨ l.lsv.mode = .egress ∨ (sensor ∧ l.bc.posture = .opened))
    ∧ (l.opensFromShut = true ↔
        l.lsv.mode = .egress ∨ (sensor ∧ l.bc.posture = .opened) ∨ (ready ∧ ¬(sensor ∧ l.bc.posture = .hold)))

/-- A shut evaluation is recorded (R77; the order of its lists: Log 54), and the sides that show its tailgate risk (R103): the claim's
side, or without a claim the start side of each direction with an infeasible track, both for an UNSET one. A record that goes takes the
risk with it. -/
def Claims.EvaluationShowsRisk : Prop :=
  ∀ (now : Nat) (l : LaneState),
    let r := l.recordEvaluation now
    let risk := 1 ∉ l.failedPoints ∧ 5 ∈ l.failedPoints
    let infeasible (d : Direction) := ∃ a ∈ l.assessments, a.feasible = false ∧ (a.dir = some d ∨ a.dir = none)
    r.bc.last = some { time := now, failed := l.failedPoints, assessed := l.assessments, obstruct := l.bc.obstruct }
    ∧ (r.bc.risk = true ↔ risk)
    ∧ (l.pq.claim = some .entry → (r.lsv.riskLobby = true ↔ risk) ∧ r.lsv.riskSecure = false)
    ∧ (l.pq.claim = some .exit → r.lsv.riskLobby = false ∧ (r.lsv.riskSecure = true ↔ risk))
    ∧ (l.pq.claim = none →
        (r.lsv.riskLobby = true ↔ risk ∧ infeasible .entry) ∧ (r.lsv.riskSecure = true ↔ risk ∧ infeasible .exit))
    ∧ r =
        { l with
          bc := { l.bc with last := r.bc.last, risk := r.bc.risk }
          lsv := { l.lsv with riskLobby := r.lsv.riskLobby, riskSecure := r.lsv.riskSecure } }
    ∧ l.dropEvaluation =
        { l with bc := { l.bc with last := none, risk := false }, lsv := { l.lsv with riskLobby := false, riskSecure := false } }

/-- The motion timer reaching its end stalls the motion; the jam hold reaching its end tries the shut again; a frame result moves the
barrier as its state and conditions say; what the conditions and the tailgate risk are. -/
def Obligations.BarrierTimersEnd : Prop :=
  Claims.MotionTimeoutStalls ∧ Claims.JamHoldEndTriesShut ∧ Claims.FrameMovesBarrier ∧ Claims.BarrierConditions
    ∧ Claims.EvaluationShowsRisk

/-- The five stages of R79 for an approaching track that is no rear member of a merge: its distance, its effective speed, its time, and
the verdict against T_c + T_m; a track at the line is infeasible. -/
def Claims.ShutFeasibility : Prop :=
  ∀ (g : Geometry) (t : Timing) (x : Track) (d : Direction), x.dir = some d → x.crossed = false → x.bound = none →
    ∃ a, assess g t x false = some a ∧ a.track = x.number ∧ a.dir = some d ∧ a.distance = g.xf d - g.lead d x.ext
      ∧ (a.distance = 0 → a.feasible = false)
      ∧ (a.distance ≠ 0 →
          a.arithmetic = some (max x.speed t.vFloor, a.distance * 1000 / max x.speed t.vFloor)
          ∧ a.feasible = decide (t.tc + t.tm ≤ a.distance * 1000 / max x.speed t.vFloor))

/-- The assessments of a shut evaluation (R78) are those of the tracks, in list order (the model's choice, Log 54), each as a rear member of
a merge or not (R21); a track that has crossed or is bound is not assessed. -/
def Claims.TracksAssessed : Prop :=
  (∀ l : LaneState, ∃ rear : Nat → Track → Bool,
    l.assessments = l.ot.tracks.zipIdx.filterMap (fun x => assess l.geo l.timing x.1 (rear x.2 x.1))
    ∧ ∀ (i : Nat) (x : Track), l.ot.tracks[i]? = some x →
        (rear i x = true ↔
          x.merged = true ∧ ∃ (d : Direction) (j : Nat) (y : Track), x.dir = some d ∧ l.ot.tracks[j]? = some y ∧ y.merged = true
            ∧ y.ext = x.ext ∧ y.dir = some d ∧ (match d with | .entry => i < j | .exit => j < i)))
  ∧ ∀ (g : Geometry) (t : Timing) (x : Track) (d : Direction) (rear : Bool), x.dir = some d →
      (x.crossed = true ∨ x.bound ≠ none) → assess g t x rear = none

/-- Tracks decided without the five stages (R80): an approaching rear member is infeasible, with the distance of its extent while its lead
does not pass the barrier position; an UNSET track is taken from its nearer edge at the nominal speed, and one at or across the line is
infeasible. -/
def Claims.RearAndUnsetAssessed : Prop :=
  ∀ (g : Geometry) (t : Timing) (x : Track),
    (∀ d, x.dir = some d → x.crossed = false → x.bound = none →
      ∃ a, assess g t x true = some a ∧ a.track = x.number ∧ a.dir = some d ∧ a.arithmetic = none ∧ a.feasible = false
        ∧ (g.lead d x.ext ≤ g.xf d → a.distance = g.xf d - g.lead d x.ext))
    ∧ ∀ rear : Bool, x.dir = none →
        let distance :=
          if x.ext.hi + 1 ≤ g.f then g.f * g.p - (x.ext.hi + 1) * g.p
          else if g.f ≤ x.ext.lo then x.ext.lo * g.p - g.f * g.p
          else 0
        let time := distance * 1000 / t.vNom
        ∃ a, assess g t x rear = some a ∧ a.track = x.number ∧ a.dir = none ∧ a.distance = distance
          ∧ (distance = 0 → a.arithmetic = none ∧ a.feasible = false)
          ∧ (distance ≠ 0 → a.arithmetic = some (t.vNom, time) ∧ a.feasible = decide (t.tc + t.tm ≤ time))

/-- Shut feasibility: the five stages, which tracks are assessed, and those decided without the stages. -/
def Obligations.ShutFeasibility : Prop := Claims.ShutFeasibility ∧ Claims.TracksAssessed ∧ Claims.RearAndUnsetAssessed

/-! ## Passage outcomes -/

/-- The kind of an unauthorized crossing (R90), and its VIOLATION notice with the mode, policy and barrier state in force as the crossing
is handed on. -/
def Obligations.CrossingKindChosen : Prop :=
  ∀ (e : Env) (d : Direction) (x : Track) (w : Work),
    let kind : CrossingKind :=
      if w.lane.lsv.mode = .service ∧ (match d with | .entry => w.lane.lsv.policy.entry | .exit => w.lane.lsv.policy.exit) = .barred
      then .wrongWay
      else if w.lane.bc.state = .opened ∨ w.lane.bc.state = .opening then .tailgate else .intrusion
    w.lane.crossingKind d = kind
      ∧ (reportCrossing e d x w).out = w.out ++ [.crossing kind x.number d x.ext w.lane.bc.state w.lane.lsv.mode]
      ∧ ((reportCrossing e d x w).lane.lsv.alarms.latched kind.latched).set = true
      ∧ (reportCrossing e d x w).lane.bc = w.lane.bc ∧ (reportCrossing e d x w).lane.pq = w.lane.pq

/-- A completion updates the record of the copy's credential (origin BADGE, REFERRED or RETURNED, not in EGRESS): presence by direction,
last passage time and lane, one use counted, SPENT at the last; without a record it is ABSENT, otherwise not applied, and nothing
changes. That EGRESS answers NOT_APPLIED also for a number without a record (Log 19), and that a record already SPENT which loses its
last use is reported SPENT (Log 42), is the model's choice. -/
def Claims.CompletionUpdatesRecord : Prop :=
  ∀ (e : Env) (mode : Mode) (d : Direction) (copy : Option PermitCopy) (cs : List Cred),
    (∀ x n c, copy = some x → x.credential = some n → (x.origin = .badge ∨ x.origin = .referred ∨ x.origin = .returned) →
      mode ≠ .egress → cs.find? (fun y => y.number == n) = some c →
      let counted :=
        match c.uses with
        | none => { c with uses := none }
        | some u => if u ≤ 1 then { c with state := .spent, uses := none } else { c with uses := some (u - 1) }
      let after : Cred :=
        { counted with
          presence := (match d with | .entry => .inside | .exit => .outside)
          lastTime := e.clock
          lastLane := some e.lane }
      recordPassage e mode d copy cs =
        (cs.map (fun y => if y.number = c.number then after else y),
         if (∃ u, c.uses = some u ∧ u ≤ 1) then .spent else .updated))
    ∧ (∀ x n, copy = some x → x.credential = some n → (x.origin = .badge ∨ x.origin = .referred ∨ x.origin = .returned) →
      mode ≠ .egress → (∀ y ∈ cs, y.number ≠ n) → recordPassage e mode d copy cs = (cs, .absent))
    ∧ ((copy = none ∨ mode = .egress ∨ (∃ x, copy = some x ∧ (x.credential = none ∨ x.origin = .pulse ∨ x.origin = .free))) →
      recordPassage e mode d copy cs = (cs, .notApplied))

/-- The end of a passage is reported (R94, R95): a completion with what its record became, a backout with NOT_APPLIED; a backout gives
its passage back first (R53, R54), to the queued permit of that number, or as a RETURNED permit at the head of the queue, or not at all
and DROPPED. -/
def Claims.PassageEndsReported : Prop :=
  ∀ (e : Env) (d : Direction) (x : Track) (w : Work),
    let mode := w.lane.lsv.mode
    let passage (ended : PassageEnd) (r : RecordOutcome) : NoticeBody :=
      .passage { track := x.number, ended := ended, dir := d, copy := x.bound, duration := e.now - x.born, violation := x.violated
                 exempt := x.exempt, egress := decide (mode = .egress), record := r }
    let deadline := e.now + w.lane.timing.grantTime * 1000 * (if w.lane.timing.wide then 2 else 1)
    let returned (c : PermitCopy) : Permit :=
      { number := c.number, dir := d, origin := .returned, credential := c.credential, cls := c.cls, reader := c.reader
        state := .ready, allowance := 1, used := 0, deadline := deadline, soft := c.soft }
    let takes := (mode = .service ∨ mode = .lockdown) ∧ w.lane.pq.permits.length < 4
      ∧ (w.lane.pq.claim = none ∨ w.lane.pq.claim = some d)
    let done := completeTrack e d x w
    let back := backOutTrack e d x w
    (done.out = w.out ++ [passage .completed (recordPassage e mode d x.bound w.creds).2]
      ∧ done.creds = (recordPassage e mode d x.bound w.creds).1
      ∧ done.lane.lsv.tallies =
          (match d with
            | .entry => { w.lane.lsv.tallies with completedEntry := w.lane.lsv.tallies.completedEntry + 1 }
            | .exit => { w.lane.lsv.tallies with completedExit := w.lane.lsv.tallies.completedExit + 1 })
      ∧ ({ done.lane with lsv := { done.lane.lsv with tallies := w.lane.lsv.tallies } } : LaneState) = w.lane)
    ∧ (back.creds = w.creds ∧ back.lane.ot = w.lane.ot ∧ back.lane.reported = w.lane.reported ∧ back.lane.bsu = w.lane.bsu
      ∧ back.lane.lsv.mode = mode ∧ back.lane.lsv.alarms = w.lane.lsv.alarms
      ∧ back.lane.lsv.tallies = { w.lane.lsv.tallies with backouts := w.lane.lsv.tallies.backouts + 1 })
    ∧ (x.bound = none → back.out = w.out ++ [passage .backout .notApplied] ∧ back.lane.pq = w.lane.pq ∧ back.lane.bc = w.lane.bc)
    ∧ ∀ c, x.bound = some c →
        ((∃ p ∈ w.lane.pq.permits, p.number = c.number) →
          back.out = w.out ++ [passage .backout .notApplied] ∧ back.lane.bc = w.lane.bc
          ∧ back.lane.pq.permits =
              w.lane.pq.permits.map fun p =>
                if p.number = c.number then
                  if p.used = 0 then { p with allowance := p.allowance + 1, deadline := deadline }
                  else { p with used := p.used - 1, deadline := deadline }
                else p)
        ∧ ((∀ p ∈ w.lane.pq.permits, p.number ≠ c.number) → takes →
          back.out = w.out ++ [passage .backout .notApplied]
          ∧ back.lane.pq.permits = returned c :: w.lane.pq.permits ∧ back.lane.pq.claim = some d)
        ∧ ((∀ p ∈ w.lane.pq.permits, p.number ≠ c.number) → ¬takes →
          back.out = w.out ++ [.permitEnd (returned c) .dropped, passage .backout .notApplied] ∧ back.lane.pq = w.lane.pq
          ∧ back.lane.bc = w.lane.bc)

/-- A crossing is handed on (R37, R51, R52, R90): an EXEMPT one binds and raises nothing; the first READY permit of the direction is
bound, a live or an ended track taking its copy, and leaves USED with its last passage, its place an occasion of the free-direction
service; without one the track is VIOLATED and the crossing reported, but not in EGRESS. -/
def Claims.CrossingBindsOrViolates : Prop :=
  ∀ (e : Env) (d : Direction) (h : Handing) (c : Crosser),
    let l := h.work.lane
    let r := handCrossing e d h c
    let changed (f : Track → Track) : Prop :=
      r.work.lane.reported = l.reported
      ∧ (c.ended = false →
        r.ended = h.ended
        ∧ r.work.lane.ot = { l.ot with tracks := l.ot.tracks.map fun x => if x.number = c.track.number then f x else x })
      ∧ (c.ended = true →
        r.work.lane.ot = l.ot
        ∧ r.ended = h.ended.map fun x => if x.track.number = c.track.number then { x with track := f x.track } else x)
    let kind : CrossingKind :=
      if l.lsv.mode = .service ∧ l.lsv.policy.setting d = .barred then .wrongWay
      else if l.bc.state = .opened ∨ l.bc.state = .opening then .tailgate else .intrusion
    (c.track.exempt = true → r = h)
    ∧ (c.track.exempt = false → (∀ p ∈ l.pq.permits, ¬(p.dir = d ∧ p.state = .ready)) → l.lsv.mode = .egress → r = h)
    ∧ (c.track.exempt = false → (∀ p ∈ l.pq.permits, ¬(p.dir = d ∧ p.state = .ready)) → l.lsv.mode ≠ .egress →
        changed (fun x => { x with violated := true })
        ∧ r.work.out = h.work.out ++ [.crossing kind c.track.number d c.track.ext l.bc.state l.lsv.mode]
        ∧ (r.work.lane.lsv.alarms.latched kind.latched).set = true ∧ r.work.lane.pq = l.pq ∧ r.work.lane.bc = l.bc
        ∧ r.work.creds = h.work.creds)
    ∧ ∀ (ahead : List Permit) (p : Permit) (behind : List Permit), c.track.exempt = false → l.pq.permits = ahead ++ p :: behind →
        (∀ q ∈ ahead, ¬(q.dir = d ∧ q.state = .ready)) → p.dir = d → p.state = .ready →
        let bound : Permit :=
          { p with
            used := p.used + 1
            deadline := e.now + l.timing.grantTime * 1000 * (if l.timing.wide then 2 else 1) }
        changed (fun x =>
          { x with bound := some { number := p.number, credential := p.credential, origin := p.origin, cls := p.cls
                                   reader := p.reader, soft := p.soft } })
        ∧ r.work.creds = h.work.creds
        ∧ (p.used + 1 < p.allowance → r.work.lane.pq.permits = ahead ++ bound :: behind ∧ r.work.out = h.work.out)
        ∧ (p.allowance ≤ p.used + 1 →
            r.work.out = h.work.out ++ [.permitEnd bound .used]
            ∧ ∃ freed, r.work.lane.pq.permits = ((ahead ++ behind).filter fun q => decide (q.number ≠ p.number)) ++ freed
                ∧ (∀ q ∈ freed, q.origin = .free ∧ q.state = .ready ∧ q.credential = none ∧ q.allowance = 1 ∧ q.used = 0)
                ∧ (l.lsv.mode ≠ .service → freed = []))

/-- LOST, LOITER and OVERFLOW are handed on (R31, R40, R41, R91, R95, R96): a LOST drop is reported with the credential it held and
counted; each track of the loiter age is marked and reported once, in list order (the model's choice, Log 41), and not in EGRESS; a
frame with untracked shadows raises and counts OVERFLOW and reports the first of a run. -/
def Claims.LossLoiterOverflowHandedOn : Prop :=
  (∀ (cause : LostCause) (x : Track) (w : Work),
    loseTrack cause x w =
      { w with
        lane := w.lane.tally fun t => { t with lost := t.lost + 1 }
        out := w.out ++ [.lost x.number x.dir x.ext cause (x.bound.bind (·.credential))] })
  ∧ (∀ (e : Env) (w : Work),
      let old (x : Track) : Bool := !x.loitered && decide (w.lane.timing.loiter * 1000 ≤ e.now - x.born)
      let late := w.lane.ot.tracks.filter old
      let r := handLoiters e w
      let alarm := w.lane.lsv.alarms.loiter
      (w.lane.lsv.mode = .egress → r = w)
      ∧ (w.lane.lsv.mode ≠ .egress →
        r.out = w.out ++ late.map (fun x => .loiter x.number x.dir x.ext (e.now - x.born))
        ∧ r.lane.ot = { w.lane.ot with tracks := w.lane.ot.tracks.map fun x => { x with loitered := x.loitered || old x } }
        ∧ r.lane.lsv.alarms.loiter =
            (if late = [] then alarm
             else
              { set := true
                deadline := if w.lane.timing.autoClear = 0 then none else some (e.now + w.lane.timing.autoClear * 1000)
                raises := min 255 (alarm.raises + late.length) })
        ∧ r.lane.reported = w.lane.reported ∧ r.lane.pq = w.lane.pq ∧ r.lane.bc = w.lane.bc ∧ r.creds = w.creds))
  ∧ ∀ (e : Env) (before : Bool) (untracked : List Extent) (w : Work),
      (untracked = [] → handOverflow e before untracked w = w)
      ∧ (untracked ≠ [] →
        let r := handOverflow e before untracked w
        r.out = w.out ++ (if before then [] else [.overflow untracked]) ∧ r.lane.lsv.alarms.overflow.set = true
        ∧ r.lane.lsv.alarms.overflow.raises = min 255 (w.lane.lsv.alarms.overflow.raises + 1)
        ∧ r.lane.lsv.tallies =
            { w.lane.lsv.tallies with overflowFrames := w.lane.lsv.tallies.overflowFrames + 1 }
        ∧ r.lane.ot = w.lane.ot ∧ r.lane.reported = w.lane.reported ∧ r.lane.pq = w.lane.pq ∧ r.lane.bc = w.lane.bc ∧ r.creds = w.creds)

/-- The free-direction service (R59): in SERVICE alone; a lone FREE direction that the claim allows gets FREE permits until they cover its
counted walkers or the queue is full; of two FREE directions on an empty queue the nearest walker's is served, ENTRY on equal
distances. -/
def Claims.FreeServiceCoversWalkers : Prop :=
  ∀ (e : Env) (w : Work),
    let l := w.lane
    let r := freeService e w
    let walkers (d : Direction) : List Track :=
      l.ot.tracks.filter fun x => decide (x.dir = some d) && !x.crossed && x.bound.isNone && !x.exempt
    let away (d : Direction) (x : Track) : Int := (l.geo.xf d : Int) - (l.geo.lead d x.ext : Int)
    let supply (d : Direction) : Nat :=
      ((l.pq.permits.filter fun p => decide (p.dir = d) && decide (p.origin = .free) && decide (p.state = .ready)).map
        fun p => p.allowance - p.used).sum
    let serves (d : Direction) (n : Nat) : Prop :=
      ∃ freed, r.lane.pq.permits = l.pq.permits ++ freed ∧ freed.length = n
        ∧ ∀ p ∈ freed, p.dir = d ∧ p.origin = .free ∧ p.state = .ready ∧ p.credential = none ∧ p.cls = none ∧ p.reader = none
            ∧ p.allowance = 1 ∧ p.used = 0 ∧ p.soft = false
            ∧ p.deadline = e.now + l.timing.grantTime * 1000 * (if l.timing.wide then 2 else 1)
    let other (d : Direction) : Direction := match d with | .entry => .exit | .exit => .entry
    r.out = w.out ∧ r.creds = w.creds ∧ r.lane.ot = l.ot ∧ r.lane.reported = l.reported ∧ r.lane.bsu = l.bsu
    ∧ r.lane.lsv.mode = l.lsv.mode
    ∧ (l.lsv.mode ≠ .service → r = w)
    ∧ (∀ d, l.lsv.mode = .service → l.lsv.policy.setting d = .free → l.lsv.policy.setting (other d) ≠ .free →
        (∀ p ∈ l.pq.permits, l.pq.claim = some p.dir) →
        ((l.pq.claim = none ∨ l.pq.claim = some d) →
          serves d (min ((walkers d).length - supply d) (4 - l.pq.permits.length)))
        ∧ (l.pq.claim = some (other d) → r = w))
    ∧ (l.lsv.mode = .service → l.lsv.policy.entry = .free → l.lsv.policy.exit = .free → l.pq.claim = none → l.pq.permits = [] →
        (∀ x ∈ walkers .entry, (∀ y ∈ walkers .exit, away .entry x ≤ away .exit y) →
          serves .entry (min (walkers .entry).length 4))
        ∧ (∀ x ∈ walkers .exit, (∀ y ∈ walkers .entry, away .exit x < away .entry y) →
          serves .exit (min (walkers .exit).length 4)))
    ∧ (l.lsv.policy.entry ≠ .free → l.lsv.policy.exit ≠ .free → r = w)

/-- The order in which a frame's events are handed on (R22, stage 8): the ends, then the crossings, the completions, the loiters and the
overflow; and the front-to-rear order of one direction (R21): by falling lead, of equal leads the later in the list first for ENTRY, the
earlier for EXIT. -/
def Claims.FrameEventsInOrder : Prop :=
  (∀ (e : Env) (order : FrameOrder) (before : Bool) (f : TrackFrame) (w : Work),
    ∃ ends crossings completions loiters overflow : List NoticeBody,
      (handEvents e order before f w).out = w.out ++ ends ++ crossings ++ completions ++ loiters ++ overflow
      ∧ (∀ b ∈ ends, (∃ n d x cause c, b = .lost n d x cause c) ∨ (∃ p, b = .permitEnd p .dropped)
          ∨ ∃ x, b = .passage x ∧ x.ended = .backout)
      ∧ (∀ b ∈ crossings, (∃ kind n d x bar m, b = .crossing kind n d x bar m) ∨ ∃ p, b = .permitEnd p .used)
      ∧ (∀ b ∈ completions, ∃ x, b = .passage x ∧ x.ended = .completed)
      ∧ completions.length =
          (f.ended.filter fun x =>
            match x.ended with
            | .completed _ => true
            | .backedOut _ => false
            | .lost _ => false).length
      ∧ (∀ b ∈ loiters, ∃ n d x age, b = .loiter n d x age)
      ∧ overflow = (if f.untracked = [] ∨ before = true then [] else [.overflow f.untracked]))
  ∧ ∀ (α : Type) (extent : α → Extent) (g : Geometry) (d : Direction) (xs : List α),
      (frontToRear extent g d xs).Perm xs
      ∧ ((frontToRear extent g d xs).Pairwise fun a b => g.lead d (extent b) ≤ g.lead d (extent a))
      ∧ ∀ lead,
          (frontToRear extent g d xs).filter (fun a => decide (g.lead d (extent a) = lead)) =
            (match d with | .entry => xs.reverse | .exit => xs).filter fun a => decide (g.lead d (extent a) = lead)

/-- A completion updates its credential record; the ends, crossings, completions, loiters and overflow of a frame are handed on in
order, with the bindings, the passages given back and the FREE permits that they bring. -/
def Obligations.CompletionUpdatesRecord : Prop :=
  Claims.CompletionUpdatesRecord ∧ Claims.PassageEndsReported ∧ Claims.CrossingBindsOrViolates ∧ Claims.LossLoiterOverflowHandedOn
    ∧ Claims.FreeServiceCoversWalkers ∧ Claims.FrameEventsInOrder

/-! ## Modes, alarms and outputs of a lane -/

/-- EGRESS_ASSERT: every lane that is not in EGRESS enters it with its queue, windows, referrals and pending mode gone and its leaves
open or opening; its policy, tracks, hold, tallies and alarm set stay, and a lane in EGRESS is not changed. The lanes' order is an
operand (Log 8). -/
def Claims.EgressAssertOpensLanes : Prop :=
  ∀ (order : List Lane) (s : State), s.egressLine = false →
    ∃ t, exec (.egressAssert order) s = .next t ∧ t.egressLine = true
      ∧ t.rfu = { s.rfu with slots := s.rfu.slots.filter fun x => decide ((s.lane (portLane x.reader)).lsv.mode = .egress) }
      ∧ t.ports = s.ports ∧ LinkPort.sameButQueue s.site t.site ∧ LinkPort.sameButQueue s.desk t.desk ∧ t.routing = s.routing
      ∧ t.cst = s.cst ∧ t.tmb = s.tmb ∧ t.ims = s.ims ∧ t.deskKey = s.deskKey ∧ t.pending = s.pending
      ∧ ∀ k,
          ((s.lane k).lsv.mode = .egress → t.lane k = (s.lane k).withOutputs t.rfu.slots k)
          ∧ ((s.lane k).lsv.mode ≠ .egress →
              (t.lane k).lsv.mode = .egress ∧ (t.lane k).lsv.policy = (s.lane k).lsv.policy ∧ (t.lane k).lsv.pending = none
              ∧ (t.lane k).lsv.hold = (s.lane k).lsv.hold ∧ (t.lane k).lsv.tallies = (s.lane k).lsv.tallies
              ∧ (t.lane k).lsv.alarms = (s.lane k).lsv.alarms ∧ (t.lane k).pq.permits = [] ∧ (t.lane k).pq.entryWindow = none
              ∧ (t.lane k).pq.exitWindow = none ∧ (t.lane k).ot = (s.lane k).ot ∧ (t.lane k).bsu = (s.lane k).bsu
              ∧ (t.lane k).reported = (s.lane k).reported ∧ (t.lane k).geo = (s.lane k).geo ∧ (t.lane k).timing = (s.lane k).timing
              ∧ ((t.lane k).bc.state = .opening ∨ (t.lane k).bc.state = .opened))

/-- EGRESS_DEASSERT and DESK_KEY_CHANGE change the level of their line and nothing else; EGRESS_ASSERT of an asserted line is no event
(Log 2). -/
def Claims.LinesCarryLevels : Prop :=
  ∀ s : State,
    exec .egressDeassert s = .next { s with egressLine := false }
    ∧ (∀ level, exec (.deskKeyChange level) s = .next { s with deskKey := level })
    ∧ (s.egressLine = true → ∀ order, exec (.egressAssert order) s = .next s)

/-- The EGRESS line opens every lane at its assertion; the two site lines carry their levels. -/
def Obligations.SiteLinesTaken : Prop := Claims.EgressAssertOpensLanes ∧ Claims.LinesCarryLevels

/-- ALARM_AUTO_CLEAR and HOLD_EXPIRY: a latched kind whose clear deadline has come is cleared with ALARMS_CLEARED of cause AUTO, a desk
hold whose end has come is removed with HOLD_EXPIRED, and nothing else changes. -/
def Claims.LaneDeadlinesEnd : Prop :=
  ∀ (k : Lane) (s : State) (t : Nat), t ≤ s.tmb.ms →
    let old := s.lane k
    (∀ kind : LatchedKind, (old.lsv.alarms.latched kind).deadline = some t →
      exec (.alarmAutoClear k kind) s =
        .next (s.laneEvent k
          (({ old with
              lsv :=
                { old.lsv with alarms := old.lsv.alarms.putLatched kind { set := false, deadline := none, raises := 0 } } } :
              LaneState).withOutputs s.rfu.slots k)
          [.lane (.alarmsAutoCleared kind) old.lsv.mode old.lsv.policy]))
    ∧ (old.lsv.hold = some t →
      exec (.holdExpiry k) s =
        .next (s.laneEvent k { old with lsv := { old.lsv with hold := none } } [.lane .holdExpired old.lsv.mode old.lsv.policy]))

/-- Escort windows, alarm clear deadlines and desk holds end when their count has come. -/
def Obligations.LaneDeadlinesEnd : Prop := Claims.EscortWindowCloses ∧ Claims.LaneDeadlinesEnd

/-- The buzzer of R100 and the side indicators of Table 5-7, as every event that may change them leaves them. -/
def Obligations.OutputsFollowTable : Prop :=
  ∀ (slots : List Slot) (k : Lane) (l : LaneState),
    let out := l.withOutputs slots k
    let works (p : Port) : Prop :=
      (∃ x ∈ slots, x.reader = p) ∨ ∃ x ∈ l.pq.permits, x.state = .awaitingEscort ∧ x.reader = some p
    let colour (d : Direction) (p : Port) (risk : Bool) : Colour → Prop
      | .dark => l.lsv.mode = .dark
      | .amber => l.lsv.mode ≠ .dark ∧ (works p ∨ risk = true ∨ l.lsv.pending ≠ none)
      | .green =>
        l.lsv.mode = .service ∧ ¬(works p ∨ risk = true ∨ l.lsv.pending ≠ none) ∧ l.lsv.policy.setting d ≠ .barred
          ∧ l.lsv.sensorMark = false ∧ l.lsv.barrierMark = false ∧ (l.pq.claim = none ∨ l.pq.claim = some d)
      | .red =>
        l.lsv.mode ≠ .dark ∧ ¬(works p ∨ risk = true ∨ l.lsv.pending ≠ none)
          ∧ ¬(l.lsv.mode = .service ∧ l.lsv.policy.setting d ≠ .barred ∧ l.lsv.sensorMark = false
              ∧ l.lsv.barrierMark = false ∧ (l.pq.claim = none ∨ l.pq.claim = some d))
    (out.lsv.buzzer = true ↔
      l.lsv.mode ≠ .dark
        ∧ ((∃ a : LatchedKind, (l.lsv.alarms.latched a).set = true)
          ∨ ∃ c : ConditionKind, (l.lsv.alarms.condition c).active = true ∧ (l.lsv.alarms.condition c).silenced = false))
    ∧ colour .entry (sidePort k .entry) l.lsv.riskLobby out.lsv.lobbyColour
    ∧ colour .exit (sidePort k .exit) l.lsv.riskSecure out.lsv.secureColour
    ∧ out =
        { l with
          lsv :=
            { l.lsv with
              buzzer := out.lsv.buzzer
              lobbyColour := out.lsv.lobbyColour
              secureColour := out.lsv.secureColour } }

/-! ## The read decision and referrals -/

/-- The conditions of the classes (R129), judged against the clock and the DESK_KEY line. -/
def Obligations.ClassConditionJudged : Prop :=
  ∀ (c : ClassRec) (clock : Option Nat) (deskKey : Bool),
    (c.condition = .always → c.holds clock deskKey = true)
    ∧ (c.condition = .never → c.holds clock deskKey = false)
    ∧ (c.condition = .deskKey → c.holds clock deskKey = deskKey)
    ∧ (c.condition = .noDeskKey → c.holds clock deskKey = !deskKey)
    ∧ (c.condition = .clockSet → c.holds clock deskKey = clock.isSome)
    ∧ (c.condition = .dayWindow → clock = none → c.holds clock deskKey = false)
    ∧ ∀ t, c.condition = .dayWindow → clock = some t →
        let minute := t % 86400 / 60
        (c.windowStart ≤ c.windowEnd →
          (c.holds clock deskKey = true ↔ c.windowStart ≤ minute ∧ minute ≤ c.windowEnd))
        ∧ (c.windowEnd < c.windowStart →
          (c.holds clock deskKey = true ↔ c.windowStart ≤ minute ∨ minute ≤ c.windowEnd))

/-- READER_CARD_FRAME: the good frame is recorded and an ABSENT port becomes PRESENT; then steps 1 to 4 of the read decision, each with
its verdict, reason and step, in their order. The read that ends there sends one VERDICT frame and posts one READ notice without a
class, and changes nothing else. -/
def Obligations.CardReadEarlySteps : Prop :=
  ∀ (p : Port) (n : Nat) (s : State), 1 ≤ n → n < 2 ^ 64 →
    let k := portLane p
    let d := portDir p
    let l := s.lane k
    let heard : State :=
      s.modPort p fun r =>
        { r with bad := 0, lastGood := some s.tmb.ms, rx := none, state := if r.state = .absent then .present else r.state }
    let began : State :=
      if (s.port p).state = .absent then heard.post (laneNumber k) (.reader p .present .present) else heard
    let ends (v : Verdict) (r : Reason) (step : Nat) : Prop :=
      exec (.readerCardFrame p n) s =
        .next (State.refresh k
          (State.post (laneNumber k)
            (.read { reader := p, number := n, cls := none, verdict := v, reason := r, append := none, referral := none
                     fallback := none, step := step })
            (began.sendReader p (.verdict v r n))))
    let setting := match d with | .entry => l.lsv.policy.entry | .exit => l.lsv.policy.exit
    let healthy := l.lsv.sensorMark = false ∧ l.lsv.barrierMark = false
    let open_ := (s.port p).state ≠ .tampered
    ((s.port p).state = .tampered → ends .deny .readerTamper 1)
    ∧ (open_ → (l.lsv.mode = .dark ∨ l.lsv.mode = .closed) → ends .deny .laneClosed 2)
    ∧ (open_ → l.lsv.mode = .egress → ends .free .egress 2)
    ∧ (open_ → (l.lsv.mode = .service ∨ l.lsv.mode = .lockdown) →
        (¬healthy → ends .deny .laneFault 3)
        ∧ (healthy → l.lsv.pending ≠ none → ends .deny .modeChanging 3)
        ∧ (healthy → l.lsv.pending = none → l.lsv.mode = .service → setting = .barred → ends .deny .directionBarred 3)
        ∧ (healthy → l.lsv.pending = none → l.lsv.mode = .service → setting = .free → ends .free .freeDirection 3)
        ∧ (healthy → l.lsv.pending = none → (l.lsv.mode = .service → setting = .badged) → (∃ c, l.pq.claim = some c ∧ c ≠ d) →
            ends .deny .laneBusy 4))

/-- READER_CARD_FRAME that passes steps 1 to 4 in SERVICE, at a PRESENT port. An ACTIVE record of a class that refers nothing, allows the
side, whose condition holds, without a validity window, not held anywhere and under passback OFF, earns a BADGE permit of its group
allowance. A number that no record has opens a referral while a slot is free and the site queue has room. The tables do not change. -/
def Claims.CardReadGrantsOrRefers : Prop :=
  ∀ (p : Port) (n : Nat) (s : State), 1 ≤ n → n < 2 ^ 64 →
    let k := portLane p
    let l := s.lane k
    (s.port p).state = .present → l.lsv.mode = .service → l.lsv.policy.setting (portDir p) = .badged → l.lsv.sensorMark = false →
    l.lsv.barrierMark = false → l.lsv.pending = none → (l.pq.claim = none ∨ l.pq.claim = some (portDir p)) → s.held n = false →
    (∀ c, findCred n s.cst.creds = some c → c.state = .active → (s.cst.cls c.cls).alwaysRefer = false →
      (s.cst.cls c.cls).allows k (portDir p) = true → (s.cst.cls c.cls).holds s.clock s.deskKey = true →
      c.validFrom = none → c.validUntil = none → (s.cst.cls c.cls).passback = .off → l.pq.permits.length < 4 →
      ∃ t, exec (.readerCardFrame p n) s = .next t ∧ s.sameDevice t ∧ t.rfu = s.rfu ∧ (∀ j, j ≠ k → t.lane j = s.lane j)
        ∧ (t.port p).state = .present ∧ (t.port p).bad = 0 ∧ (t.port p).lastGood = some s.tmb.ms
        ∧ (∀ q, q ≠ p → t.port q = s.port q) ∧ (t.lane k).ot = l.ot ∧ (t.lane k).reported = l.reported ∧ (t.lane k).bsu = l.bsu
        ∧ ∃ x ∈ (t.lane k).pq.permits, x.number = firstFree l.permitNumbers 255 l.pq.next ∧ x.dir = portDir p ∧ x.origin = .badge
            ∧ x.credential = some n ∧ x.cls = some c.cls ∧ x.reader = some p ∧ x.allowance = c.group ∧ x.used = 0 ∧ x.soft = false
            ∧ ((s.port p).tx.length < 4 →
                (t.port p).tx = (s.port p).tx ++
                  [.verdict (if x.state = .ready then .grant else .wait) (if x.state = .ready then .local_ else .escort) n]))
    ∧ (findCred n s.cst.creds = none → s.rfu.slots.length < 8 → s.site.queue.length < 64 →
      ∃ t, exec (.readerCardFrame p n) s = .next t ∧ s.sameDevice t ∧ (∀ j, j ≠ k → t.lane j = s.lane j)
        ∧ t.lane k = l.withOutputs t.rfu.slots k ∧ (∀ q, q ≠ p → t.port q = s.port q)
        ∧ t.rfu =
            { slots := s.rfu.slots ++
                [{ tag := firstFree (s.rfu.slots.map (·.tag)) 255 s.rfu.tagCounter, reader := p, number := n, cls := none
                   reason := .notInTable, opened := s.tmb.ms, deadline := s.tmb.ms + l.timing.referralTimeout }]
              tagCounter := next255 (firstFree (s.rfu.slots.map (·.tag)) 255 s.rfu.tagCounter) }
        ∧ ((s.port p).tx.length < 4 → (t.port p).tx = (s.port p).tx ++ [.verdict .wait .referral n]))

/-- Step 5 of a read that passes steps 2 to 4, SERVICE or LOCKDOWN (R134): its denials, each behind those before it, at step 5 with the
class of the record that was found. -/
def Claims.LookupDenies : Prop :=
  ∀ (p : Port) (n : Nat) (s : State), 1 ≤ n → n < 2 ^ 64 → (s.port p).state ≠ .tampered →
    (s.lane (portLane p)).admitsRead (portDir p) →
    let denied (cls : Option ClassNo) (r : Reason) : Prop :=
      exec (.readerCardFrame p n) s = .next (State.readEnds (plainRead p n cls .deny r 5) (s.cardHeard p))
    (findCred n s.cst.creds = none → (s.lane (portLane p)).lsv.mode = .lockdown → denied none .lockdown)
    ∧ ∀ c, findCred n s.cst.creds = some c →
        let k := s.cst.cls c.cls
        (¬s.classPasses p c.cls → denied (some c.cls) .lockdown)
        ∧ (s.classPasses p c.cls → c.state = .suspended → denied (some c.cls) .suspended)
        ∧ (s.classPasses p c.cls → c.state = .spent → denied (some c.cls) .spent)
        ∧ (s.judgedHere p c → k.allows (portLane p) (portDir p) = false → denied (some c.cls) .notPermitted)
        ∧ (s.judgedHere p c → k.allows (portLane p) (portDir p) = true → k.holds s.clock s.deskKey = false →
            denied (some c.cls) .condition)
        ∧ ∀ t, s.judgedHere p c → s.classAdmits p c → s.clock = some t →
            (∀ first, c.validFrom = some first → t < first → denied (some c.cls) .notYet)
            ∧ (∀ last, (∀ first, c.validFrom = some first → first ≤ t) → c.validUntil = some last → last < t →
                denied (some c.cls) .expired)

/-- A read that step 5 refers (R134, R135, R138, R139): DUPLICATE at step 6 when the number is held; else a slot and its OPENED notice
while a slot is free and the site queue has room; else the fallback of the class, or of the lane for an unknown number, with its
cause: DENY, QUEUE_FULL on a full queue, or a BADGE permit of the group allowance, or of 1. That such a referral and a fallback DENY
carry step 5 (Log 22), and that NO_SLOT comes first (Log 23), is the model's choice. -/
def Claims.ReferredReadsSettled : Prop :=
  ∀ (p : Port) (n : Nat) (s : State) (reason : ReferralReason), 1 ≤ n → n < 2 ^ 64 → (s.port p).state ≠ .tampered →
    (s.lane (portLane p)).admitsRead (portDir p) →
    let record := findCred n s.cst.creds
    let cls := record.map (·.cls)
    let l := s.lane (portLane p)
    let h := s.cardHeard p
    let ends (b : ReadBody) (t : State) : Prop := exec (.readerCardFrame p n) s = .next (State.readEnds b t)
    s.refersRead p record reason →
    (s.held n = true → ends (plainRead p n cls .deny .duplicate 6) h)
    ∧ (s.held n = false → s.rfu.slots.length < 8 → h.site.queue.length < 64 →
      let tag := firstFree (s.rfu.slots.map (·.tag)) 255 s.rfu.tagCounter
      let slot : Slot :=
        { tag := tag, reader := p, number := n, cls := cls, reason := reason, opened := s.tmb.ms
          deadline := s.tmb.ms + l.timing.referralTimeout }
      ends { plainRead p n cls .wait .referral 5 with referral := some (tag, reason) }
        (State.post (laneNumber (portLane p)) (.referralOpened tag p n cls reason l.timing.referralTimeout)
          { h with rfu := { slots := s.rfu.slots ++ [slot], tagCounter := next255 tag } }))
    ∧ (s.held n = false → (8 ≤ s.rfu.slots.length ∨ 64 ≤ h.site.queue.length) →
      let cause : FallbackCause := if 8 ≤ s.rfu.slots.length then .noSlot else .siteQueueFull
      let fallback := match record with | some c => (s.cst.cls c.cls).fallback | none => l.timing.unknownFallback
      let allowance := match record with | some c => c.group | none => 1
      (fallback = .deny → ends { plainRead p n cls .deny .noReferral 5 with fallback := some cause } h)
      ∧ (fallback = .grant → 4 ≤ l.pq.permits.length →
        ends { plainRead p n cls .deny .queueFull 8 with fallback := some cause } h)
      ∧ (fallback = .grant → l.pq.permits.length < 4 →
        ∃ w number st, append (h.env (portLane p)) (s.appendFor p .badge n cls allowance false) (h.work (portLane p)) =
            .accepted w number st
          ∧ ends
              { plainRead p n cls (if st = .ready then .grant else .wait) (if st = .ready then .fallback else .escort) 9 with
                append := some { number := number, state := st, allowance := allowance, soft := false }
                fallback := some cause }
              (h.absorb (portLane p) w)))

/-- A read whose record passes step 5 (R135 to R137): DUPLICATE at step 6 when the number is held; PASSBACK at step 7 for a passback read
under HARD; QUEUE_FULL at step 8; else the BADGE permit of step 9, with the soft-passback mark of a passback read under SOFT. -/
def Claims.FoundReadsJudged : Prop :=
  ∀ (p : Port) (n : Nat) (s : State) (c : Cred), 1 ≤ n → n < 2 ^ 64 → (s.port p).state ≠ .tampered →
    (s.lane (portLane p)).admitsRead (portDir p) → findCred n s.cst.creds = some c → s.passesLookup p c →
    let l := s.lane (portLane p)
    let h := s.cardHeard p
    let mode := (s.cst.cls c.cls).passback
    let ends (b : ReadBody) (t : State) : Prop := exec (.readerCardFrame p n) s = .next (State.readEnds b t)
    (s.held n = true → ends (plainRead p n (some c.cls) .deny .duplicate 6) h)
    ∧ (s.held n = false → mode = .hard → passbackRead c.presence (portDir p) →
        ends (plainRead p n (some c.cls) .deny .passback 7) h)
    ∧ (s.held n = false → ¬(mode = .hard ∧ passbackRead c.presence (portDir p)) → 4 ≤ l.pq.permits.length →
        ends (plainRead p n (some c.cls) .deny .queueFull 8) h)
    ∧ ∀ soft : Bool, (soft = true ↔ mode = .soft ∧ passbackRead c.presence (portDir p)) → s.held n = false →
        ¬(mode = .hard ∧ passbackRead c.presence (portDir p)) → l.pq.permits.length < 4 →
        ∃ w number st, append (h.env (portLane p)) (s.appendFor p .badge n (some c.cls) c.group soft) (h.work (portLane p)) =
            .accepted w number st
          ∧ ends
              { plainRead p n (some c.cls) (if st = .ready then .grant else .wait) (if st = .ready then .local_ else .escort) 9 with
                append := some { number := number, state := st, allowance := c.group, soft := soft } }
              (h.absorb (portLane p) w)

/-- Steps 5 to 9 of the read decision: denials, referrals and their fallback, duplicates, anti-passback, room and the append. -/
def Obligations.CardReadGrantsOrRefers : Prop :=
  Claims.CardReadGrantsOrRefers ∧ Claims.LookupDenies ∧ Claims.ReferredReadsSettled ∧ Claims.FoundReadsJudged

/-- REFERRAL_DEADLINE: a slot whose deadline has come is freed and its read concluded by the fallback in force: DENY with
REFERRAL_TIMEOUT, or, when the re-check passes in SERVICE, a REFERRED permit of the record's group allowance with reason FALLBACK. That the
READ notice of such a DENY carries the slot's class is the model's choice (Log 55). -/
def Claims.ReferralDeadlineSettles : Prop :=
  ∀ (s : State) (x : Slot), s.slot x.tag = some x → x.deadline ≤ s.tmb.ms →
    let k := portLane x.reader
    let l := s.lane k
    let fallback := match x.cls with | some c => (s.cst.cls c).fallback | none => l.timing.unknownFallback
    let freed : State := { s with rfu := { s.rfu with slots := s.rfu.slots.filter fun y => decide (y.tag ≠ x.tag) } }
    (fallback = .deny →
      exec (.referralDeadline x.tag) s =
        .next (State.refresh k
          (State.post (laneNumber k)
            (.conclusion { reader := x.reader, number := x.number, cls := x.cls, verdict := .deny, reason := .referralTimeout
                           tag := x.tag, referralReason := x.reason, decidedBy := none, append := none, step := 5 })
            (freed.sendReader x.reader (.verdict .deny .referralTimeout x.number)))))
    ∧ (fallback = .grant → l.lsv.mode = .service → l.lsv.policy.setting (portDir x.reader) = .badged → l.lsv.sensorMark = false →
      l.lsv.barrierMark = false → l.lsv.pending = none → (l.pq.claim = none ∨ l.pq.claim = some (portDir x.reader)) →
      freed.held x.number = false → l.pq.permits.length < 4 →
      ∃ t, exec (.referralDeadline x.tag) s = .next t ∧ s.sameDevice t ∧ t.rfu = freed.rfu
        ∧ (∀ j, j ≠ k → t.lane j = s.lane j) ∧ (∀ q, q ≠ x.reader → t.port q = s.port q)
        ∧ ∃ y ∈ (t.lane k).pq.permits, y.number = firstFree l.permitNumbers 255 l.pq.next ∧ y.dir = portDir x.reader
            ∧ y.origin = .referred ∧ y.credential = some x.number ∧ y.cls = x.cls ∧ y.reader = some x.reader ∧ y.used = 0
            ∧ y.soft = false
            ∧ y.allowance = (match findCred x.number s.cst.creds with | some c => c.group | none => 1)
            ∧ ((s.port x.reader).tx.length < 4 →
                (t.port x.reader).tx = (s.port x.reader).tx ++
                  [.verdict (if y.state = .ready then .grant else .wait) (if y.state = .ready then .fallback else .escort)
                    x.number]))

/-- The re-check of a deadline's GRANT (R156, R157): each failing step gives its verdict and reason and no permit; when it passes, in
SERVICE or in LOCKDOWN, the append's permit is reported with reason FALLBACK. -/
def Claims.DeadlineRechecks : Prop :=
  ∀ (s : State) (x : Slot), s.slot x.tag = some x → x.deadline ≤ s.tmb.ms →
    (match x.cls with | some c => (s.cst.cls c).fallback | none => (s.lane (portLane x.reader)).timing.unknownFallback) = .grant →
    let freed := s.slotFreed x.tag
    let allowance := match findCred x.number s.cst.creds with | some c => c.group | none => 1
    (∀ v r step, freed.RecheckEnds x.reader x.number x.cls v r step →
      exec (.referralDeadline x.tag) s = .next (State.concluded (conclusionOf x x.cls none v r none step) freed))
    ∧ (freed.recheckPasses x.reader x.number x.cls →
      ∃ w number st,
        append (freed.env (portLane x.reader)) (s.appendFor x.reader .referred x.number x.cls allowance false)
            (freed.work (portLane x.reader)) = .accepted w number st
        ∧ exec (.referralDeadline x.tag) s =
            .next (State.concluded
              (conclusionOf x x.cls none (if st = .ready then .grant else .wait) (if st = .ready then .fallback else .escort)
                (some { number := number, state := st, allowance := allowance, soft := false }) 9)
              (freed.absorb (portLane x.reader) w)))

/-- A deadline that has not come, or of a tag that no slot holds, changes nothing (Log 2). -/
def Claims.EarlyDeadlineChangesNothing : Prop :=
  ∀ (s : State) (tag : Nat), (∀ x, s.slot tag = some x → s.tmb.ms < x.deadline) → exec (.referralDeadline tag) s = .next s

/-- A referral's deadline settles its slot by the fallback in force and the re-check. -/
def Obligations.ReferralDeadlineSettles : Prop :=
  Claims.ReferralDeadlineSettles ∧ Claims.DeadlineRechecks ∧ Claims.EarlyDeadlineChangesNothing

/-! ## Reader ports -/

/-- READER_STATUS_FRAME: the good frame and its tamper flag are recorded. With the flag clear an ABSENT port becomes PRESENT and a
TAMPERED one PRESENT again; with the flag set the port becomes TAMPERED, its unused permits leave, its referrals close and TAMPER is
raised, each once. -/
def Claims.StatusFrameMovesPort : Prop :=
  ∀ (p : Port) (s : State),
    let k := portLane p
    let heard (st : PortState) (flag : Bool) : State :=
      s.modPort p fun r => { r with bad := 0, lastGood := some s.tmb.ms, rx := none, tamper := flag, state := st }
    ((s.port p).state = .absent →
      exec (.readerStatusFrame p false) s =
        .next (State.refresh k ((heard .present false).post (laneNumber k) (.reader p .present .present))))
    ∧ ((s.port p).state = .tampered →
      exec (.readerStatusFrame p false) s =
        .next (State.refresh k ((heard .present false).post (laneNumber k) (.reader p .tamperCleared .present))))
    ∧ ((s.port p).state = .present → exec (.readerStatusFrame p false) s = .next (State.refresh k (heard .present false)))
    ∧ ((s.port p).state = .tampered → exec (.readerStatusFrame p true) s = .next (State.refresh k (heard .tampered true)))
    ∧ ((s.port p).state ≠ .tampered →
      ∃ t, exec (.readerStatusFrame p true) s = .next t ∧ s.sameDevice t ∧ t.ports = (heard .tampered true).ports
        ∧ (∀ j, j ≠ k → t.lane j = s.lane j)
        ∧ (t.lane k).pq.permits =
            (s.lane k).pq.permits.filter (fun x => !(decide (x.reader = some p) && decide (x.used = 0)))
        ∧ t.rfu = { s.rfu with slots := s.rfu.slots.filter fun x => decide (x.reader ≠ p) }
        ∧ (t.lane k).lsv.alarms.tamper.set = true
        ∧ (t.lane k).lsv.alarms.tamper.raises = min 255 ((s.lane k).lsv.alarms.tamper.raises + 1)
        ∧ (t.lane k).bc = (s.lane k).bc ∧ (t.lane k).ot = (s.lane k).ot ∧ (t.lane k).bsu = (s.lane k).bsu
        ∧ (t.lane k).reported = (s.lane k).reported ∧ (t.lane k).pq.entryWindow = (s.lane k).pq.entryWindow
        ∧ (t.lane k).pq.exitWindow = (s.lane k).pq.exitWindow)

/-- READER_BAD_FRAME (R165): the count rises; up to the retry limit a NAK is handed to the transmit list, beyond it READ_ERROR is posted
with the length of the run and the count starts again. A frame abandoned on the gap (R163) is taken the same way; that it is abandoned
when exactly 10 ms have passed is the model's reading of "more than 10 ms" (Log 27). -/
def Obligations.BadFrameCounted : Prop :=
  ∀ (p : Port) (s : State),
    let count := (s.port p).bad + 1
    let limit := (s.lane (portLane p)).timing.retryLimit
    (count ≤ limit →
      exec (.readerBadFrame p) s =
        .next (s.modPort p fun r =>
          if r.tx.length < 4 then { r with rx := none, bad := count, tx := r.tx ++ [.nak] }
          else { r with rx := none, bad := count, dropped := r.dropped + 1 }))
    ∧ (limit < count →
      exec (.readerBadFrame p) s =
        .next ((s.modPort p fun r => { r with rx := none, bad := 0 }).post (laneNumber (portLane p))
          (.reader p (.readError count) (s.port p).state)))
    ∧ ∀ x, (s.port p).rx = some x → x.last + 10 ≤ s.tmb.ms →
        ∃ t, exec (.readerBadFrame p) s = .next t ∧ exec (.readerFrameGap p) s = .next t

/-- SILENCE_TEST: a PRESENT or TAMPERED port whose last good frame is the silence time old becomes ABSENT with its notice; permits,
referrals and alarms stay. -/
def Claims.SilentPortGoesAbsent : Prop :=
  ∀ (p : Port) (s : State) (t : Nat), (s.port p).lastGood = some t →
    ((s.port p).state ≠ .absent → t + (s.lane (portLane p)).timing.silenceTime * 1000 ≤ s.tmb.ms →
      exec (.silenceTest p) s =
        .next ((s.modPort p fun r => { r with state := .absent }).post (laneNumber (portLane p))
          (.reader p (.absent (s.port p).state) .absent)))
    ∧ ((s.port p).state = .absent → exec (.silenceTest p) s = .next s)

/-- STATUS frames and silence move a port between ABSENT, PRESENT and TAMPERED. -/
def Obligations.PortStateMoves : Prop := Claims.StatusFrameMovesPort ∧ Claims.SilentPortGoesAbsent

/-- READER_FRAME_SENT and LINK_REPLY_SENT: the oldest frame leaves its transmit list, and nothing else changes. -/
def Obligations.SentFrameLeavesList : Prop :=
  ∀ s : State,
    (∀ p first rest, (s.port p).tx = first :: rest →
      exec (.readerFrameSent p) s = .next (s.modPort p fun r => { r with tx := rest }))
    ∧ ∀ l first rest, (s.link l).tx = first :: rest →
        exec (.linkReplySent l) s = .next (s.modLink l fun r => { r with tx := rest })

/-- READER_FRAME_BYTE: a byte outside a frame that is not the start byte is discarded, a start byte begins a frame, a byte of a frame not
complete (kind, number length, number, tamper flag) is kept; a kind byte of neither kind, and a number length of 0 or above 8, complete
a bad frame at once; the byte that completes a frame is the event of that frame, by its kind, its fields and its CRC-8. A byte that
comes more than 10 ms after the last one finds its frame abandoned (Log 38; a byte at exactly 10 ms still belongs to it, Log 27). -/
def Obligations.ReaderBytesMakeFrames : Prop :=
  ∀ (p : Port) (b : Byte) (s : State),
    ((s.port p).rx = none → b ≠ 0x5A#8 → exec (.readerFrameByte p b) s = .next s)
    ∧ ((s.port p).rx = none →
        exec (.readerFrameByte p 0x5A#8) s =
          .next (s.modPort p fun r => { r with rx := some { bytes := [0x5A#8], last := s.tmb.ms } }))
    ∧ (∀ x, (s.port p).rx = some x → x.last + 10 < s.tmb.ms →
        ∃ t, exec (.readerBadFrame p) s = .next t ∧ exec (.readerFrameByte p b) s = exec (.readerFrameByte p b) t)
    ∧ ∀ last, s.tmb.ms ≤ last + 10 →
        ((s.port p).rx = some { bytes := [0x5A#8], last := last } →
          ((b = 0x43#8 ∨ b = 0x53#8) →
            exec (.readerFrameByte p b) s =
              .next (s.modPort p fun r => { r with rx := some { bytes := [0x5A#8, b], last := s.tmb.ms } }))
          ∧ (b ≠ 0x43#8 → b ≠ 0x53#8 → exec (.readerFrameByte p b) s = exec (.readerBadFrame p) s))
        ∧ ((s.port p).rx = some { bytes := [0x5A#8, 0x43#8], last := last } →
          (1 ≤ b.toNat → b.toNat ≤ 8 →
            exec (.readerFrameByte p b) s =
              .next (s.modPort p fun r => { r with rx := some { bytes := [0x5A#8, 0x43#8, b], last := s.tmb.ms } }))
          ∧ ((b.toNat = 0 ∨ 8 < b.toNat) → exec (.readerFrameByte p b) s = exec (.readerBadFrame p) s))
        ∧ (∀ (size : Byte) (number : List Byte), size.toNat ≤ 8 → number.length < size.toNat →
          (s.port p).rx = some { bytes := 0x5A#8 :: 0x43#8 :: size :: number, last := last } →
          exec (.readerFrameByte p b) s =
            .next (s.modPort p fun r =>
              { r with rx := some { bytes := 0x5A#8 :: 0x43#8 :: size :: (number ++ [b]), last := s.tmb.ms } }))
        ∧ ((s.port p).rx = some { bytes := [0x5A#8, 0x53#8], last := last } →
          exec (.readerFrameByte p b) s =
            .next (s.modPort p fun r => { r with rx := some { bytes := [0x5A#8, 0x53#8, b], last := s.tmb.ms } }))
        ∧ (∀ flag : Byte, (s.port p).rx = some { bytes := [0x5A#8, 0x53#8, flag], last := last } →
          (b = crc8 [0x5A#8, 0x53#8, flag] → flag.toNat ≤ 1 →
            exec (.readerFrameByte p b) s = exec (.readerStatusFrame p (decide (flag.toNat = 1))) s)
          ∧ ((b ≠ crc8 [0x5A#8, 0x53#8, flag] ∨ 1 < flag.toNat) →
            exec (.readerFrameByte p b) s = exec (.readerBadFrame p) s))
        ∧ ∀ number : List Byte, 1 ≤ number.length → number.length ≤ 8 →
          let frame := 0x5A#8 :: 0x43#8 :: BitVec.ofNat 8 number.length :: number
          (s.port p).rx = some { bytes := frame, last := last } →
          (b = crc8 frame → fromLe number ≠ 0 →
            exec (.readerFrameByte p b) s = exec (.readerCardFrame p (fromLe number)) s)
          ∧ ((b ≠ crc8 frame ∨ fromLe number = 0) → exec (.readerFrameByte p b) s = exec (.readerBadFrame p) s)

/-! ## Links -/

/-- A frame that is discarded or abandoned is not answered: the receiver hunts and one discard count goes up by 1 (from its largest
value to 0), and nothing else changes. -/
def Obligations.DiscardedFramesAreCounted : Prop :=
  ∀ (l : Link) (s : State),
    exec (.linkFrameBadLength l) s = .next (s.modLink l fun p => { p with rx := none, lengthDiscards := p.lengthDiscards + 1 })
    ∧ exec (.linkFrameBadCrc l) s = .next (s.modLink l fun p => { p with rx := none, crcDiscards := p.crcDiscards + 1 })
    ∧ (∀ x, (s.link l).rx = some x → x.last + 20 ≤ s.tmb.ms →
        exec (.linkFrameGap l) s = .next (s.modLink l fun p => { p with rx := none, gapDiscards := p.gapDiscards + 1 }))
    ∧ (4 ≤ (s.link l).tx.length →
        exec (.linkFrameTxFull l) s = .next (s.modLink l fun p => { p with rx := none, gapDiscards := p.gapDiscards + 1 }))

/-- LINK_FRAME_BYTE: while hunting a byte other than hex A5 is discarded and hex A5 begins a frame; the length bytes, the bytes the length
counts and the first CRC byte, right or wrong, are gathered; a length out of range discards the frame at once; the last CRC byte makes
the frame a received request of its kind, or of an unknown kind, when the CRC-16 matches, and a discard when not. A byte that comes
more than 20 ms after the last one finds its frame abandoned (Log 38; a byte at exactly 20 ms still belongs to it, Log 27). -/
def Obligations.LinkBytesMakeRequests : Prop :=
  ∀ (l : Link) (b : Byte) (s : State),
    ((s.link l).rx = none → b ≠ 0xA5#8 → exec (.linkFrameByte l b) s = .next s)
    ∧ ((s.link l).rx = none →
        exec (.linkFrameByte l 0xA5#8) s =
          .next (s.modLink l fun p => { p with rx := some { bytes := [0xA5#8], last := s.tmb.ms } }))
    ∧ (∀ x, (s.link l).rx = some x → x.last + 20 < s.tmb.ms →
        ∃ t, exec (.linkFrameGap l) s = .next t ∧ exec (.linkFrameByte l b) s = exec (.linkFrameByte l b) t)
    ∧ ∀ last, s.tmb.ms ≤ last + 20 →
        let gathers (bytes : List Byte) : Prop :=
          exec (.linkFrameByte l b) s =
            .next (s.modLink l fun p => { p with rx := some { bytes := bytes ++ [b], last := s.tmb.ms } })
        ((s.link l).rx = some { bytes := [0xA5#8], last := last } → gathers [0xA5#8])
        ∧ (∀ low : Byte, (s.link l).rx = some { bytes := [0xA5#8, low], last := last } →
          2 ≤ low.toNat + 256 * b.toNat → low.toNat + 256 * b.toNat ≤ 1024 → gathers [0xA5#8, low])
        ∧ (∀ (low high : Byte) (body : List Byte), 2 ≤ low.toNat + 256 * high.toNat → low.toNat + 256 * high.toNat ≤ 1024 →
          body.length ≤ low.toNat + 256 * high.toNat →
          (s.link l).rx = some { bytes := 0xA5#8 :: low :: high :: body, last := last } →
          gathers (0xA5#8 :: low :: high :: body))
        ∧ (∀ (low high tag kind first : Byte) (payload : List Byte), low.toNat + 256 * high.toNat = 2 + payload.length →
          payload.length ≤ 1022 →
          let counted := low :: high :: tag :: kind :: payload
          (s.link l).rx = some { bytes := 0xA5#8 :: (counted ++ [first]), last := last } →
          ((crc16 counted).toNat ≠ first.toNat + 256 * b.toNat →
            exec (.linkFrameByte l b) s = exec (.linkFrameBadCrc l) s)
          ∧ ((crc16 counted).toNat = first.toNat + 256 * b.toNat →
            (∀ known : RequestKind, known.code = kind.toNat →
              exec (.linkFrameByte l b) s = exec (Instr.ofRequest l tag payload known) s)
            ∧ (kind.toNat ∉ requestCodes → exec (.linkFrameByte l b) s = exec (.unknownKind l tag kind) s)))
        ∧ (∀ low : Byte, (s.link l).rx = some { bytes := [0xA5#8, low], last := last } →
          (low.toNat + 256 * b.toNat < 2 ∨ 1024 < low.toNat + 256 * b.toNat) →
          exec (.linkFrameByte l b) s = exec (.linkFrameBadLength l) s)
        ∧ ∀ (kind : RequestKind) (tag : Byte) (payload : List Byte), payload.length ≤ 1022 →
          let counted := le 2 (2 + payload.length) ++ tag :: BitVec.ofNat 8 kind.code :: payload
          let low : Byte := BitVec.ofNat 8 (crc16 counted).toNat
          let high : Byte := BitVec.ofNat 8 ((crc16 counted).toNat / 256)
          (s.link l).rx = some { bytes := 0xA5#8 :: (counted ++ [low]), last := last } →
          (b = high → exec (.linkFrameByte l b) s = exec (Instr.ofRequest l tag payload kind) s)
          ∧ (b ≠ high → exec (.linkFrameByte l b) s = exec (.linkFrameBadCrc l) s)

/-- The Link Unit's checks of every request: a full transmit list loses the frame and raises the gap count; then BAD_LENGTH; then, for a
kind that carries a lane, BAD_LANE; a kind that is no request kind is UNKNOWN_KIND. Each of these replies carries the status alone and
changes nothing else. -/
def Obligations.RequestChecksInOrder : Prop :=
  ∀ (l : Link) (tag : Byte) (s : State),
    (∀ (kind : RequestKind) (p : List Byte),
      (4 ≤ (s.link l).tx.length →
        exec (Instr.ofRequest l tag p kind) s = .next (s.modLink l fun q => { q with rx := none, gapDiscards := q.gapDiscards + 1 }))
      ∧ ((s.link l).tx.length < 4 → p.length ≠ kind.payloadLength p →
        exec (Instr.ofRequest l tag p kind) s = .next ((s.hunt l).reply l (replyOf kind tag .badLength [])))
      ∧ (s.reaches l kind p → kind.carriesLane = true → (byteAt p 0 < 1 ∨ 6 < byteAt p 0) →
        exec (Instr.ofRequest l tag p kind) s = .next ((s.hunt l).reply l (replyOf kind tag .badLane []))))
    ∧ ∀ kind : Byte, kind.toNat ∉ requestCodes → (s.link l).tx.length < 4 →
        exec (.unknownKind l tag kind) s =
          .next ((s.hunt l).reply l
            { tag := tag, kind := if kind.toNat < 128 then kind + 0x80#8 else 0xFF#8, status := .unknownKind, body := [] })

/-! ## Requests -/

/-- The queries answer with what they report, CRED_GET of a number without a record with NOT_FOUND, and change nothing but the link that
carries them. LANE_TRACKS reports the tracker as it stood after the last frame event, with the ages at the request. What the replies hold
beyond the rules' tables is the model's choice: layouts, codes and orders (Log 21, Log 57, Log 58), the one byte ahead of an escort
window's milliseconds (Log 53), the fields of LANE_STATUS and its settings as set (Log 44, Log 50), DEVICE_STATUS without its own reply
(Log 45) and its last save (Log 47), and, a reading, the record count behind NOT_FOUND (Log 24). -/
def Obligations.QueriesChangeNothing : Prop :=
  ∀ (l : Link) (tag : Byte) (p : List Byte) (s : State),
    let h := s.hunt l
    (∀ k, s.reachesLane l .laneStatus p k →
      exec (.laneStatus l tag p) s = .next (h.reply l (replyOf .laneStatus tag .ok (h.laneStatus k))))
    ∧ (∀ k, s.reachesLane l .laneTracks p k →
      exec (.laneTracks l tag p) s = .next (h.reply l (replyOf .laneTracks tag .ok
        (flagByte (s.lane k).reported.untracked ++ listField ((s.lane k).reported.shadows.map Extent.bytes)
          ++ listField ((s.lane k).reported.tracks.map (Track.bytes (s.lane k).reported.geo s.tmb.ms))))))
    ∧ (∀ k, s.reachesLane l .lanePermits p k →
      exec (.lanePermits l tag p) s = .next (h.reply l (replyOf .lanePermits tag .ok ((s.lane k).permitsReply s.tmb.ms))))
    ∧ (s.reaches l .deviceStatus p →
      exec (.deviceStatus l tag p) s = .next (h.reply l (replyOf .deviceStatus tag .ok h.deviceStatus)))
    ∧ (∀ c, s.reaches l .credGet p → findCred (natAt p 0 8) s.cst.creds = some c →
      exec (.credGet l tag p) s = .next (h.reply l (replyOf .credGet tag .ok (c.packed ++ fld 2 s.cst.creds.length))))
    ∧ (s.reaches l .credGet p → findCred (natAt p 0 8) s.cst.creds = none →
      exec (.credGet l tag p) s = .next (h.reply l (replyOf .credGet tag .notFound (fld 2 s.cst.creds.length))))
    ∧ (s.reaches l .credScan p → byteAt p 8 ≤ 8 →
      let count := if byteAt p 8 = 0 then 8 else byteAt p 8
      let above := s.cst.creds.filter fun c => decide (natAt p 0 8 ≤ c.number)
      exec (.credScan l tag p) s =
        .next (h.reply l (replyOf .credScan tag .ok
          (fld 2 s.cst.creds.length ++ listField ((above.take count).map Cred.packed)
            ++ optNum 8 ((above.drop count).head?.map (·.number))))))
    ∧ (∀ k : ClassNo, s.reaches l .classGet p → byteAt p 0 = k.val →
      exec (.classGet l tag p) s =
        .next (h.reply l (replyOf .classGet tag .ok ((s.cst.cls k).bytes ++ fld 2 s.cst.creds.length))))

/-- The requests that change a lane are refused HELD on the site link while the lane's desk hold is present, before any other test of
their owner, and change nothing. -/
def Claims.HeldLaneRefusesSite : Prop :=
  ∀ (kind : RequestKind) (tag : Byte) (p : List Byte) (k : Lane) (s : State),
    kind ∈ ([.laneMode, .laneGeometry, .laneTiming, .laneReset, .pulse, .cancel, .restore, .alarmAck] : List RequestKind) →
    s.reachesLane .site kind p k → (s.lane k).lsv.hold ≠ none →
    exec (Instr.ofRequest .site tag p kind) s = .next ((s.hunt .site).reply .site (replyOf kind tag .held []))

/-- LANE_MODE: scope START sets the start settings. Scope CURRENT applies the target to an empty lane, holds it as the pending mode on a
lane that is not empty, and under FORCE, or for LOCKDOWN, applies it at once with the whole-lane cancellation and the closing of the
lane's referrals; a target that is already in force only withdraws a pending mode. Scope BOTH sets the start settings and then does all
that scope CURRENT does. The link that MODE_APPLIED carries (Log 20), and PENDING_DISCARDED ahead of MODE_APPLIED (Log 16), are the
model's choice. -/
def Claims.LaneModeApplied : Prop :=
  ∀ (l : Link) (tag : Byte) (k : Lane) (m : Mode) (pol : Policy) (force : Bool) (s : State), (s.link l).tx.length < 4 →
    s.mayChange l k → m ≠ .egress →
    let lane := BitVec.ofNat 8 (laneNumber k)
    let payload (scope : Byte) : List Byte :=
      [lane, scope, BitVec.ofNat 8 m.code, BitVec.ofNat 8 pol.entry.code, BitVec.ofNat 8 pol.exit.code, if force then 1#8 else 0#8]
    let old := s.lane k
    let h := s.hunt l
    let answer (st : Status) (x : LaneState) : Reply := replyOf .laneMode tag st x.lsv.modeBytes
    (s.saving = false →
      let x :=
        ({ old with lsv := { old.lsv with startMode := m, startPolicy := pol } } : LaneState).withOutputs s.rfu.slots k
      exec (.laneMode l tag (payload 1#8)) s = .next ((h.setLane k x).reply l (answer .ok x)))
    ∧ (s.saving = false → old.lsv.mode ≠ .egress → m ≠ .dark →
      exec (.laneMode l tag (payload 2#8)) s =
        exec (.laneMode l tag (payload 0#8))
          (s.setLane k { old with lsv := { old.lsv with startMode := m, startPolicy := pol } }))
    ∧ (old.lsv.mode ≠ .egress → m ≠ .dark → m ≠ .lockdown → (m ≠ old.lsv.mode ∨ pol ≠ old.lsv.policy) → force = false →
      (old.pq.permits = [] → old.ot.tracks = [] →
        let x :=
          ({ old with lsv := { old.lsv with mode := m, policy := pol, pending := none } } : LaneState).withOutputs s.rfu.slots k
        exec (.laneMode l tag (payload 0#8)) s =
          .next ((h.laneEvent k x [.lane (.modeApplied .request (some l)) m pol]).reply l (answer .ok x)))
      ∧ (¬(old.pq.permits = [] ∧ old.ot.tracks = []) →
        let x :=
          ({ old with lsv := { old.lsv with pending := some { mode := m, policy := pol, link := l } } } :
              LaneState).withOutputs s.rfu.slots k
        exec (.laneMode l tag (payload 0#8)) s =
          .next ((h.laneEvent k x
            [.lane (.modePending m pol old.lsv.pending.isSome) old.lsv.mode old.lsv.policy]).reply l (answer .pending x))))
    ∧ (m = old.lsv.mode → pol = old.lsv.policy → m ≠ .dark → m ≠ .lockdown →
      let x := ({ old with lsv := { old.lsv with pending := none } } : LaneState).withOutputs s.rfu.slots k
      let dropped :=
        match old.lsv.pending with
        | none => []
        | some q => [.lane (.pendingDiscarded q.mode q.policy .request) m pol]
      exec (.laneMode l tag (payload 0#8)) s =
        .next ((h.laneEvent k x (dropped ++ [.lane (.modeApplied .request (some l)) m pol])).reply l (answer .ok x)))
    ∧ (old.lsv.mode ≠ .egress → m ≠ .dark → (m = .lockdown ∨ (force = true ∧ (m ≠ old.lsv.mode ∨ pol ≠ old.lsv.policy))) →
      ∃ t, exec (.laneMode l tag (payload 0#8)) s = .next t ∧ (t.lane k).lsv.mode = m ∧ (t.lane k).lsv.policy = pol
        ∧ (t.lane k).lsv.pending = none ∧ (t.lane k).pq.permits = [] ∧ (t.lane k).pq.entryWindow = none
        ∧ (t.lane k).pq.exitWindow = none
        ∧ (t.lane k).ot =
            { old.ot with tracks := if force then old.ot.tracks.map fun x => { x with exempt := true } else old.ot.tracks }
        ∧ (t.lane k).reported = old.reported ∧ (t.lane k).bc = old.bc ∧ (t.lane k).bsu = old.bsu ∧ (t.lane k).lsv.alarms = old.lsv.alarms
        ∧ t.rfu = { s.rfu with slots := s.rfu.slots.filter fun x => decide (portLane x.reader ≠ k) }
        ∧ (∀ j, j ≠ k → t.lane j = s.lane j) ∧ t.ports = s.ports ∧ t.cst = s.cst ∧ t.tmb = s.tmb ∧ t.ims = s.ims
        ∧ t.routing = s.routing
        ∧ (t.link l).tx = (s.link l).tx ++ [answer .ok (t.lane k)])

/-- The pending mode at a frame event (R112): a lane that holds no permit and no track takes the mode and policy of the slot, which
empties, and posts MODE_APPLIED of cause PENDING, without a link (Log 20); any other lane stays as it is. -/
def Claims.PendingModeAppliedAtFrame : Prop :=
  ∀ w : Work,
    let l := w.lane
    (l.lsv.pending = none → pendingFrame w = w)
    ∧ ∀ q, l.lsv.pending = some q →
        (l.pq.permits = [] → l.ot.tracks = [] →
          pendingFrame w =
            { w with
              lane := { l with lsv := { l.lsv with mode := q.mode, policy := q.policy, pending := none } }
              out := w.out ++ [.lane (.modeApplied .pending none) q.mode q.policy] })
        ∧ (¬(l.pq.permits = [] ∧ l.ot.tracks = []) → pendingFrame w = w)

/-- The claim (R48): the direction of the queued permits, on an empty queue that of the bound tracks, else none. The end of a frame event
works it out and keeps it; a claim that has cleared since the end of the frame before is an occasion of the free-direction service, and
so is each birth at a start end, behind the frame's backouts and losses and ahead of its crossings (R22, R59). -/
def Claims.ClaimWorkedOutAtFrame : Prop :=
  (∀ l : LaneState,
    (∀ p ∈ l.pq.permits.head?, l.claimNow = some p.dir)
    ∧ (l.pq.permits = [] → ∀ ahead x behind, l.ot.tracks = ahead ++ x :: behind → (∀ y ∈ ahead, y.bound = none) → x.bound ≠ none →
        l.claimNow = x.dir)
    ∧ (l.pq.permits = [] → (∀ x ∈ l.ot.tracks, x.bound = none) → l.claimNow = none))
  ∧ (∀ (e : Env) (w : Work),
      let l := w.lane
      let noted : Work := { w with lane := { l with pq := { l.pq with claim := l.claimNow, frameClaim := l.claimNow } } }
      (l.claimNow = none → l.pq.frameClaim ≠ none → claimFrame e w = freeService e noted)
      ∧ ((l.claimNow ≠ none ∨ l.pq.frameClaim = none) → claimFrame e w = noted))
  ∧ ∀ (e : Env) (order : FrameOrder) (before : Bool) (f : TrackFrame) (w : Work),
      let left := f.ended.foldl (handEnd e) { w with lane := { w.lane with ot := f.ot } }
      let served := (freeService e)^[f.startEnd] left
      handEvents e order before f w =
        handOverflow e before f.untracked
          (handLoiters e
            (handCompletions e order.completions
              (handCrossings e order.crossings f { work := served, ended := f.ended })))

/-- LANE_MODE in its three scopes; the pending mode and the claim at a frame event. -/
def Obligations.LaneModeApplied : Prop :=
  Claims.LaneModeApplied ∧ Claims.PendingModeAppliedAtFrame ∧ Claims.ClaimWorkedOutAtFrame

/-- LANE_GEOMETRY: a valid geometry is applied whole to a DARK or CLOSED lane without tracks: beams cleared without SENSOR notices, the
frame result invalid, a read in progress marked for discard, the shadow list empty, the chain state and frame timer kept. -/
def Obligations.GeometryApplied : Prop :=
  ∀ (l : Link) (tag : Byte) (k : Lane) (g : Geometry) (s : State), (s.link l).tx.length < 4 → s.mayChange l k → s.saving = false →
    ((s.lane k).lsv.mode = .dark ∨ (s.lane k).lsv.mode = .closed) → (s.lane k).ot.tracks = [] →
    1 ≤ g.bars → g.bars ≤ 8 → 4 ≤ g.nb → g.nb ≤ 32 → 4 * g.bars ≤ g.nb + 3 → g.nb ≤ 4 * g.bars → 20 ≤ g.p → g.p ≤ 150 →
    2 ≤ g.f → g.f + 2 ≤ g.nb → 1 ≤ g.sz → g.sz ≤ 4 → g.sz + 1 ≤ g.f → g.f + g.sz + 1 ≤ g.nb →
    ∀ written, (written = g.f ∨ (written = 0 ∧ g.f = g.nb / 2)) →
    ∃ x bodies,
      exec (.laneGeometry l tag
          [BitVec.ofNat 8 (laneNumber k), BitVec.ofNat 8 g.bars, BitVec.ofNat 8 g.nb, BitVec.ofNat 8 g.orientation.code,
           BitVec.ofNat 8 g.p, BitVec.ofNat 8 written, BitVec.ofNat 8 g.sz]) s =
        .next (((s.hunt l).laneEvent k x bodies).reply l
          (replyOf .laneGeometry tag .ok
            [BitVec.ofNat 8 (laneNumber k), BitVec.ofNat 8 g.bars, BitVec.ofNat 8 g.nb, BitVec.ofNat 8 g.orientation.code,
             BitVec.ofNat 8 g.p, BitVec.ofNat 8 g.f, BitVec.ofNat 8 g.sz]))
      ∧ x.geo = g ∧ x.timing = (s.lane k).timing
      ∧ x.bsu.beams = List.replicate g.nb { occluded := false, counter := 0, timer := none, stuck := false }
      ∧ x.bsu.result = { valid := false, vector := List.replicate g.nb false, guardOccupied := false }
      ∧ x.bsu.read = (if (s.lane k).bsu.read = .reading then .discarding else (s.lane k).bsu.read)
      ∧ x.bsu.chainFault = (s.lane k).bsu.chainFault ∧ x.bsu.frameTimer = (s.lane k).bsu.frameTimer
      ∧ x.ot = { (s.lane k).ot with shadows := [] } ∧ x.reported = (s.lane k).reported
      ∧ x.pq = (s.lane k).pq ∧ x.bc = (s.lane k).bc
      ∧ x.lsv.mode = (s.lane k).lsv.mode ∧ x.lsv.policy = (s.lane k).lsv.policy
      ∧ ∀ b ∈ bodies, ∃ v, b = .lane (.health v) (s.lane k).lsv.mode (s.lane k).lsv.policy

/-- LANE_TIMING: all twenty-three settings are replaced, every number as asked where that lies in its range and else the nearer end (R178;
an auto-clear of 0 stays 0, one of 1 to 4 is 5), and the reply echoes them, CLAMPED when one was changed; a new vote count restarts the
counters, a smaller K shortens the lead histories, and a T_f other than the one in force reduces them to their newest entry; the T_f and the
fault posture in force stay. That a port which a lowered silence time makes due goes ABSENT at its SILENCE_TEST, not within this event, is
the model's choice (Log 3). -/
def Obligations.TimingReplacedAndClamped : Prop :=
  ∀ (l : Link) (tag : Byte) (p : List Byte) (k : Lane) (t : Timing) (s : State), s.reachesLane l .laneTiming p k →
    s.mayChange l k → (s.lane k).lsv.mode ≠ .egress → s.saving = false → timingOfBytes (p.drop 1) = some t →
    let old := s.lane k
    let n := t.clamped
    let brought (lo hi asked applied : Nat) : Prop :=
      (lo ≤ asked → asked ≤ hi → applied = asked) ∧ (asked < lo → applied = lo) ∧ (hi < asked → applied = hi)
    (∃ x, exec (.laneTiming l tag p) s =
        .next (((s.hunt l).setLane k x).reply l
          (replyOf .laneTiming tag (if n = t then .ok else .clamped) (b1 (laneNumber k) ++ n.bytes)))
      ∧ x.timing = n ∧ x.geo = old.geo ∧ x.reported = old.reported ∧ x.pq = old.pq ∧ x.bc = old.bc ∧ x.lsv.mode = old.lsv.mode
      ∧ x.bsu =
          { old.bsu with
            beams := if n.v = old.timing.v then old.bsu.beams else old.bsu.beams.map fun b => { b with counter := 0 } }
      ∧ x.ot.tracks =
          old.ot.tracks.map fun y =>
            { y with history := newest (if n.tf = old.bsu.period then n.k else 1) y.history })
    ∧ brought 5 50 t.tf n.tf ∧ brought 1 4 t.v n.v ∧ brought 10 600 t.stuckTime n.stuckTime ∧ brought 0 4 t.stuckLimit n.stuckLimit
    ∧ brought 0 2 t.br n.br ∧ brought 2 16 t.k n.k ∧ brought 1 8 t.c n.c ∧ brought 10 120 t.loiter n.loiter
    ∧ brought 3 30 t.grantTime n.grantTime ∧ brought 5 60 t.escortWindow n.escortWindow ∧ brought 200 1500 t.tc n.tc
    ∧ brought 200 1500 t.topen n.topen ∧ brought 0 500 t.tm n.tm ∧ brought 100 1000 t.vFloor n.vFloor
    ∧ brought 600 1800 t.vNom n.vNom ∧ brought 2 30 t.jamHold n.jamHold ∧ (t.autoClear = 0 → n.autoClear = 0)
    ∧ (t.autoClear ≠ 0 → brought 5 300 t.autoClear n.autoClear) ∧ brought 300 5000 t.referralTimeout n.referralTimeout
    ∧ brought 0 4 t.retryLimit n.retryLimit ∧ brought 1 10 t.silenceTime n.silenceTime
    ∧ n.wide = t.wide ∧ n.posture = t.posture ∧ n.unknownFallback = t.unknownFallback

/-- LANE_RESET of a lane whose barrier is at rest: queue, referrals, tracks, beams, JAM, STALL, counts and alarms are cleared, the barrier
is read again from its limits, and the lane is CLOSED under its policy; hold, start settings, settings and tallies stay. -/
def Obligations.LaneResetClears : Prop :=
  ∀ (l : Link) (tag : Byte) (p : List Byte) (k : Lane) (s : State), s.reachesLane l .laneReset p k → s.mayChange l k →
    (s.lane k).lsv.mode ≠ .egress → (s.lane k).bc.state ≠ .opening → (s.lane k).bc.state ≠ .shutting →
    let old := s.lane k
    ∃ t, exec (.laneReset l tag p) s = .next t
      ∧ (t.lane k).geo = old.geo ∧ (t.lane k).timing = old.timing
      ∧ (t.lane k).ot = { tracks := [], shadows := [], untracked := false, next := 1 } ∧ (t.lane k).reported = old.reported
      ∧ (t.lane k).pq.permits = [] ∧ (t.lane k).pq.entryWindow = none ∧ (t.lane k).pq.exitWindow = none ∧ (t.lane k).pq.next = 1
      ∧ (t.lane k).pq.claim = none
      ∧ (t.lane k).bsu.beams = List.replicate old.geo.nb { occluded := false, counter := 0, timer := none, stuck := false }
      ∧ (t.lane k).bsu.result = { valid := false, vector := List.replicate old.geo.nb false, guardOccupied := false }
      ∧ (t.lane k).bsu.chainFault = old.bsu.chainFault ∧ (t.lane k).bsu.read = old.bsu.read
      ∧ (t.lane k).bsu.frameTimer = old.bsu.frameTimer ∧ (t.lane k).bsu.causes.any = old.bsu.chainFault
      ∧ (t.lane k).bc.state =
          (match old.bc.openLimit, old.bc.shutLimit with
            | false, true => .shut
            | true, false => .opened
            | false, false => .stalled
            | true, true => .stalled)
      ∧ (t.lane k).bc.reversals = 0 ∧ (t.lane k).bc.jam = false ∧ (t.lane k).bc.stall = false ∧ (t.lane k).bc.jamHoldEnd = none
      ∧ (t.lane k).bc.last = none ∧ (t.lane k).bc.risk = false
      ∧ (t.lane k).lsv.mode = .closed ∧ (t.lane k).lsv.policy = old.lsv.policy ∧ (t.lane k).lsv.pending = none
      ∧ (t.lane k).lsv.hold = old.lsv.hold ∧ (t.lane k).lsv.tallies = old.lsv.tallies
      ∧ (t.lane k).lsv.startMode = old.lsv.startMode ∧ (t.lane k).lsv.startPolicy = old.lsv.startPolicy
      ∧ (∀ a, (t.lane k).lsv.alarms.latched a = { set := false, deadline := none, raises := 0 })
      ∧ t.rfu = { s.rfu with slots := s.rfu.slots.filter fun x => decide (portLane x.reader ≠ k) }
      ∧ (∀ j, j ≠ k → t.lane j = s.lane j) ∧ t.ports = s.ports ∧ t.cst = s.cst ∧ t.tmb = s.tmb ∧ t.ims = s.ims
      ∧ t.routing = s.routing ∧ (t.link l).tx = (s.link l).tx ++ [replyOf .laneReset tag .ok []]

/-- PULSE appends a READY permit of the direction and allowance it carries, in SERVICE or LOCKDOWN, and answers its number. CANCEL takes
one permit, or with number 0 all permits and both escort windows, each permit with its notice; a number not queued is NOT_FOUND. -/
def Obligations.PulseAndCancel : Prop :=
  ∀ (l : Link) (tag : Byte) (p : List Byte) (k : Lane) (s : State),
    let old := s.lane k
    let h := s.hunt l
    (∀ d : Direction, s.reachesLane l .pulse p k → s.mayChange l k → (old.lsv.mode = .service ∨ old.lsv.mode = .lockdown) →
      byteAt p 1 = dirCode d → 1 ≤ byteAt p 2 → byteAt p 2 ≤ 8 → (old.pq.claim = none ∨ old.pq.claim = some d) →
      old.pq.permits.length < 4 →
      ∃ x bodies, let n := firstFree old.permitNumbers 255 old.pq.next
        exec (.pulse l tag p) s = .next ((h.laneEvent k x bodies).reply l (replyOf .pulse tag .ok (fld 1 n)))
        ∧ x.pq.permits = old.pq.permits ++
            [{ number := n, dir := d, origin := .pulse, credential := none, cls := none, reader := none, state := .ready
               allowance := byteAt p 2, used := 0
               deadline := s.tmb.ms + old.timing.grantTime * 1000 * (if old.timing.wide then 2 else 1), soft := false }]
        ∧ x.pq.next = next255 n ∧ x.ot = old.ot ∧ x.reported = old.reported ∧ x.bsu = old.bsu ∧ x.lsv.mode = old.lsv.mode
        ∧ (old.bc.state = .shut → old.bsu.causes.any = false → old.bc.openLimit = false → x.bc.state = .opening))
    ∧ (s.reachesLane l .cancel p k → s.mayChange l k → old.lsv.mode ≠ .egress →
      (byteAt p 1 = 0 →
        ∃ x, exec (.cancel l tag p) s =
            .next ((h.laneEvent k x (old.pq.permits.map fun q => .permitEnd q .cancelled)).reply l (replyOf .cancel tag .ok []))
          ∧ x.pq.permits = [] ∧ x.pq.entryWindow = none ∧ x.pq.exitWindow = none ∧ x.pq.next = old.pq.next ∧ x.ot = old.ot
          ∧ x.reported = old.reported ∧ x.bsu = old.bsu ∧ x.bc = old.bc ∧ x.lsv.mode = old.lsv.mode)
      ∧ (∀ q ∈ old.pq.permits, byteAt p 1 = q.number → q.number ≠ 0 → (∀ y ∈ old.pq.permits, y.number = q.number → y = q) →
        ∃ x, exec (.cancel l tag p) s =
            .next ((h.laneEvent k x [.permitEnd q .cancelled]).reply l (replyOf .cancel tag .ok []))
          ∧ x.pq.permits = old.pq.permits.filter (fun y => decide (y.number ≠ q.number)) ∧ x.pq.entryWindow = old.pq.entryWindow
          ∧ x.pq.exitWindow = old.pq.exitWindow ∧ x.ot = old.ot ∧ x.reported = old.reported ∧ x.bsu = old.bsu ∧ x.bc = old.bc
          ∧ x.lsv.mode = old.lsv.mode)
      ∧ (byteAt p 1 ≠ 0 → (∀ y ∈ old.pq.permits, y.number ≠ byteAt p 1) →
        exec (.cancel l tag p) s = .next (h.reply l (replyOf .cancel tag .notFound []))))

/-- ALARM_ACK clears the set latched kinds and silences the active condition kinds that it lists (all nine when it lists none), reports
in one notice, in code order, the kinds that it cleared and those that it silenced, posts none when there were none, and answers the
alarm set as it then stands. That a kind silenced before is not reported again (Log 37), and that both lists are in code order, each
kind once (Log 49), are the model's choice. -/
def Obligations.AlarmAckClears : Prop :=
  ∀ (l : Link) (tag : Byte) (p : List Byte) (k : Lane) (s : State), s.reachesLane l .alarmAck p k → s.mayChange l k →
    let codes := (p.drop 2).map BitVec.toNat
    (∀ c ∈ codes, 1 ≤ c ∧ c ≤ 9) →
    let old := s.lane k
    let listed (c : Nat) : Prop := codes = [] ∨ c ∈ codes
    let cleared := ([.tailgate, .intrusion, .wrongWay, .loiter, .overflow, .tamper] : List LatchedKind).filter fun a =>
      decide ((codes = [] ∨ latchedCode a ∈ codes) ∧ (old.lsv.alarms.latched a).set = true)
    let silenced := ([.jam, .stall, .sensor] : List ConditionKind).filter fun c =>
      decide ((codes = [] ∨ c.code ∈ codes) ∧ (old.lsv.alarms.condition c).active = true
        ∧ (old.lsv.alarms.condition c).silenced = false)
    ∃ x, exec (.alarmAck l tag p) s =
        .next (((s.hunt l).laneEvent k x
          (if cleared = [] ∧ silenced = [] then []
           else [.lane (.alarmsAcked cleared silenced l) old.lsv.mode old.lsv.policy])).reply l
            (replyOf .alarmAck tag .ok (x.lsv.alarms.bytes s.tmb.ms)))
      ∧ (∀ a, listed (latchedCode a) → x.lsv.alarms.latched a =
          if (old.lsv.alarms.latched a).set then { set := false, deadline := none, raises := 0 } else old.lsv.alarms.latched a)
      ∧ (∀ a, ¬listed (latchedCode a) → x.lsv.alarms.latched a = old.lsv.alarms.latched a)
      ∧ (∀ c : ConditionKind, listed c.code → x.lsv.alarms.condition c =
          if (old.lsv.alarms.condition c).active then { active := true, silenced := true } else old.lsv.alarms.condition c)
      ∧ (∀ c : ConditionKind, ¬listed c.code → x.lsv.alarms.condition c = old.lsv.alarms.condition c)
      ∧ x.geo = old.geo ∧ x.timing = old.timing ∧ x.bsu = old.bsu ∧ x.ot = old.ot ∧ x.reported = old.reported ∧ x.pq = old.pq
      ∧ x.bc = old.bc ∧ x.lsv.mode = old.lsv.mode ∧ x.lsv.policy = old.lsv.policy ∧ x.lsv.hold = old.lsv.hold
      ∧ x.lsv.tallies = old.lsv.tallies

/-- RESTORE takes a lane out of EGRESS once the line is released, its tracks EXEMPT, and is refused while the line is asserted. HOLD sets
or renews the desk hold for its minutes (0 for 10, at most 60), RELEASE removes it; both are the desk's alone. The link that
MODE_APPLIED carries is the model's choice (Log 20). -/
def Obligations.RestoreHoldRelease : Prop :=
  ∀ (l : Link) (tag : Byte) (p : List Byte) (k : Lane) (s : State),
    let old := s.lane k
    let h := s.hunt l
    (∀ m pol, s.reachesLane l .restore p k → s.mayChange l k → old.lsv.mode = .egress →
      (m = .closed ∨ m = .service ∨ m = .lockdown) → byteAt p 1 = Mode.code m → byteAt p 2 = Setting.code pol.entry →
      byteAt p 3 = Setting.code pol.exit →
      (s.egressLine = true → exec (.restore l tag p) s = .next (h.reply l (replyOf .restore tag .egress [])))
      ∧ (s.egressLine = false →
        ∃ x bodies, exec (.restore l tag p) s =
            .next ((h.laneEvent k x (bodies ++ [.lane (.modeApplied .restore (some l)) m pol])).reply l
              (replyOf .restore tag .ok []))
          ∧ x.lsv.mode = m ∧ x.lsv.policy = pol ∧ x.bc = old.bc ∧ x.bsu = old.bsu ∧ x.lsv.alarms = old.lsv.alarms
          ∧ x.lsv.hold = old.lsv.hold ∧ x.lsv.tallies = old.lsv.tallies
          ∧ x.ot = { old.ot with tracks := old.ot.tracks.map fun y => { y with exempt := true } } ∧ x.reported = old.reported
          ∧ (m ≠ .lockdown → bodies = [] ∧ x.pq = old.pq)
          ∧ (m = .lockdown → x.pq.permits = [] ∧ x.pq.entryWindow = none ∧ x.pq.exitWindow = none
              ∧ bodies = old.pq.permits.map fun q => .permitEnd q .cancelled)))
    ∧ (s.reachesLane .desk .hold p k →
      let minutes := if byteAt p 1 = 0 then 10 else min (byteAt p 1) 60
      exec (.hold .desk tag p) s =
        .next (((s.hunt .desk).laneEvent k
          (({ old with lsv := { old.lsv with hold := some (s.tmb.ms + minutes * 60000) } } : LaneState).withOutputs s.rfu.slots k)
          [.lane (.holdSet minutes old.lsv.hold.isSome) old.lsv.mode old.lsv.policy]).reply .desk
            (replyOf .hold tag (if 60 < byteAt p 1 then .clamped else .ok) [BitVec.ofNat 8 minutes])))
    ∧ (s.reachesLane .desk .release p k →
      (old.lsv.hold ≠ none →
        exec (.release .desk tag p) s =
          .next (((s.hunt .desk).laneEvent k
            (({ old with lsv := { old.lsv with hold := none } } : LaneState).withOutputs s.rfu.slots k)
            [.lane .holdReleased old.lsv.mode old.lsv.policy]).reply .desk (replyOf .release tag .ok [])))
      ∧ (old.lsv.hold = none →
        exec (.release .desk tag p) s = .next ((s.hunt .desk).reply .desk (replyOf .release tag .notFound []))))
    ∧ (s.reachesLane .site .hold p k →
      exec (.hold .site tag p) s = .next ((s.hunt .site).reply .site (replyOf .hold tag .deskOnly [])))
    ∧ (s.reachesLane .site .release p k →
      exec (.release .site tag p) s = .next ((s.hunt .site).reply .site (replyOf .release tag .deskOnly [])))

/-- CRED_PUT, CRED_DROP and CRED_CLEAR while no save is in flight: a record is inserted with presence UNKNOWN, or replaced keeping
presence and last passage, or refused TABLE_FULL; a record, or every record, is removed. Nothing but the table changes. That the
TABLE_FULL and NOT_FOUND replies carry the record count behind their status is the model's reading (Log 24). -/
def Claims.CredentialTableChanges : Prop :=
  ∀ (l : Link) (tag : Byte) (p : List Byte) (s : State), s.saving = false →
    let h := s.hunt l
    let table (cs : List Cred) : State := { h with cst := { h.cst with creds := cs } }
    (∀ c, s.reaches l .credPut p → putRequest p = some c →
      (findCred c.number s.cst.creds = none → s.cst.creds.length < 8192 →
        exec (.credPut l tag p) s =
          .next ((table (insertCred c s.cst.creds)).reply l
            (replyOf .credPut tag .ok (fld 1 1 ++ fld 2 (s.cst.creds.length + 1))))
        ∧ c.presence = .unknown ∧ c.lastTime = none ∧ c.lastLane = none)
      ∧ (findCred c.number s.cst.creds = none → 8192 ≤ s.cst.creds.length →
        exec (.credPut l tag p) s = .next (h.reply l (replyOf .credPut tag .tableFull (fld 2 s.cst.creds.length))))
      ∧ (∀ old, findCred c.number s.cst.creds = some old → ascending s.cst.creds = true →
        exec (.credPut l tag p) s =
          .next ((table (s.cst.creds.map fun x =>
            if x.number = c.number then
              { c with presence := old.presence, lastTime := old.lastTime, lastLane := old.lastLane }
            else x)).reply l (replyOf .credPut tag .ok (fld 1 2 ++ fld 2 s.cst.creds.length)))))
    ∧ (s.reaches l .credDrop p → findCred (natAt p 0 8) s.cst.creds ≠ none →
      let kept := s.cst.creds.filter fun c => decide (c.number ≠ natAt p 0 8)
      exec (.credDrop l tag p) s = .next ((table kept).reply l (replyOf .credDrop tag .ok (fld 2 kept.length))))
    ∧ (s.reaches l .credDrop p → findCred (natAt p 0 8) s.cst.creds = none →
      exec (.credDrop l tag p) s = .next (h.reply l (replyOf .credDrop tag .notFound (fld 2 s.cst.creds.length))))
    ∧ (s.reaches l .credClear p →
      exec (.credClear l tag p) s =
        .next ((table []).reply l (replyOf .credClear tag .ok (fld 2 s.cst.creds.length ++ fld 2 0))))

/-- The record that a CRED_PUT writes, byte by byte (R143, Table 12-4), and its place in the table: between the records of lower and those
of higher number, or that of the record which has its number, whose presence, last passage time and last lane it keeps. -/
def Claims.PutRecordWritten : Prop :=
  ∀ (l : Link) (tag : Byte) (p : List Byte) (k : ClassNo) (v : CredState) (s : State), s.saving = false → s.reaches l .credPut p →
    let h := s.hunt l
    let table (cs : List Cred) : State := { h with cst := { h.cst with creds := cs } }
    let fromIn := byteAt p 11 % 2 = 1
    let untilIn := byteAt p 11 / 2 % 2 = 1
    let usesIn := byteAt p 11 / 4 % 2 = 1
    let untilAt := if fromIn then 16 else 12
    let usesAt := if untilIn then untilAt + 4 else untilAt
    let c : Cred :=
      { number := natAt p 0 8, cls := k, state := v, group := byteAt p 10
        validFrom := if fromIn then some (natAt p 12 4) else none
        validUntil := if untilIn then some (natAt p untilAt 4) else none
        uses := if usesIn then some (byteAt p usesAt) else none
        presence := .unknown, lastTime := none, lastLane := none }
    natAt p 0 8 ≠ 0 → byteAt p 8 = k.val →
    byteAt p 9 = (match v with | .active => 0 | .suspended => 1 | .spent => 2) → 1 ≤ byteAt p 10 → byteAt p 10 ≤ 8 →
    byteAt p 11 ≤ 7 → (usesIn → byteAt p usesAt ≠ 0) → (fromIn → untilIn → natAt p 12 4 ≤ natAt p untilAt 4) →
    ∀ lower higher, (∀ x ∈ lower, x.number < c.number) →
      (s.cst.creds = lower ++ higher → (∀ x ∈ higher, c.number < x.number) → s.cst.creds.length < 8192 →
        exec (.credPut l tag p) s =
          .next ((table (lower ++ c :: higher)).reply l
            (replyOf .credPut tag .ok (fld 1 1 ++ fld 2 (s.cst.creds.length + 1)))))
      ∧ ∀ old, s.cst.creds = lower ++ old :: higher → old.number = c.number →
        exec (.credPut l tag p) s =
          .next ((table
              (lower ++ { c with presence := old.presence, lastTime := old.lastTime, lastLane := old.lastLane } :: higher)).reply l
            (replyOf .credPut tag .ok (fld 1 2 ++ fld 2 s.cst.creds.length)))

/-- PRESENCE_SET, PRESENCE_RESET and CLASS_SET while no save is in flight: one record's presence, every record's presence, one class
record; nothing else changes. -/
def Claims.PresenceAndClassChanges : Prop :=
  ∀ (l : Link) (tag : Byte) (p : List Byte) (s : State), s.saving = false →
    let h := s.hunt l
    let count := fld 2 s.cst.creds.length
    let table (cs : List Cred) : State := { h with cst := { h.cst with creds := cs } }
    (∀ c v, s.reaches l .presenceSet p → findCred (natAt p 0 8) s.cst.creds = some c → ascending s.cst.creds = true →
      byteAt p 8 = Presence.code v →
      exec (.presenceSet l tag p) s =
        .next ((table (s.cst.creds.map fun x => if x.number = c.number then { c with presence := v } else x)).reply l
          (replyOf .presenceSet tag .ok (({ c with presence := v } : Cred).packed ++ count))))
    ∧ (s.reaches l .presenceReset p →
      exec (.presenceReset l tag p) s =
        .next ((table (s.cst.creds.map fun x => { x with presence := .unknown })).reply l (replyOf .presenceReset tag .ok count)))
    ∧ (∀ (k : ClassNo) (c : ClassRec), s.reaches l .classSet p → byteAt p 0 = k.val → classOfBytes (p.drop 1) = some c →
      ∃ t : State, exec (.classSet l tag p) s = .next (t.reply l (replyOf .classSet tag .ok count))
        ∧ t.cst.cls k = c ∧ (∀ j, j ≠ k → t.cst.cls j = s.cst.cls j)
        ∧ t = { h with cst := { creds := s.cst.creds, classes := t.cst.classes } })

/-- The requests that change the credential table and the class table. -/
def Obligations.TableRequestsApplied : Prop :=
  Claims.CredentialTableChanges ∧ Claims.PutRecordWritten ∧ Claims.PresenceAndClassChanges

/-- The table-changing requests, CLASS_SET, LANE_GEOMETRY, LANE_TIMING, a second SAVE, a ROUTE with entries and an IDENT with a unit
number change nothing while a save is in flight: each is answered BUSY. An IDENT whose presence byte is odd but not 1 is answered BUSY
too, ahead of BAD_VALUE: the model's choice (Log 25). That a refused table request still carries the record count, and a refused IDENT
the fields of every IDENT reply, is the model's reading (Log 24). -/
def Claims.SavingRefusesBusy : Prop :=
  ∀ (l : Link) (tag : Byte) (p : List Byte) (s : State), s.saving = true →
    let h := s.hunt l
    let busy (kind : RequestKind) (body : List Byte) : Prop :=
      exec (Instr.ofRequest l tag p kind) s = .next (h.reply l (replyOf kind tag .busy body))
    (∀ kind, kind ∈ ([.credPut, .credDrop, .credClear, .presenceSet, .presenceReset, .classSet] : List RequestKind) →
      s.reaches l kind p → busy kind (fld 2 s.cst.creds.length))
    ∧ (∀ k, s.reachesLane l .laneGeometry p k → s.mayChange l k → (s.lane k).lsv.mode ≠ .egress → busy .laneGeometry [])
    ∧ (∀ k, s.reachesLane l .laneTiming p k → s.mayChange l k → (s.lane k).lsv.mode ≠ .egress → busy .laneTiming [])
    ∧ (s.reaches l .save p → busy .save [])
    ∧ (s.reaches l .route p → byteAt p 0 ≠ 0 → busy .route [])
    ∧ (s.reaches l .ident p → byteAt p 0 % 2 = 1 → busy .ident (identBytes s.ims.unit))

/-- The owners' other refusals of the lane requests, each behind those before it: EGRESS; BUSY of LANE_MODE with scope START or BOTH while
SAVING and of LANE_RESET in motion; NOT_CLOSED; BAD_VALUE; LANE_BUSY and QUEUE_FULL of PULSE. Each changes nothing. -/
def Claims.LaneOwnersRefuse : Prop :=
  ∀ (l : Link) (tag : Byte) (p : List Byte) (k : Lane) (s : State), s.mayChange l k →
    let old := s.lane k
    let h := s.hunt l
    let refuses (kind : RequestKind) (st : Status) (body : List Byte) : Prop :=
      exec (Instr.ofRequest l tag p kind) s = .next (h.reply l (replyOf kind tag st body))
    let reached (kind : RequestKind) : Prop := s.reachesLane l kind p k
    let current := byteAt p 1 = 0 ∨ byteAt p 1 = 2
    let start := byteAt p 1 = 1 ∨ byteAt p 1 = 2
    let f := if byteAt p 5 = 0 then byteAt p 2 / 2 else byteAt p 5
    (old.lsv.mode = .egress →
      (reached .laneMode → current → refuses .laneMode .egress [])
      ∧ ∀ kind, kind ∈ ([.laneGeometry, .laneTiming, .laneReset, .pulse, .cancel] : List RequestKind) → reached kind →
          refuses kind .egress [])
    ∧ (reached .laneMode → ¬(current ∧ old.lsv.mode = .egress) →
      (start → s.saving = true → refuses .laneMode .busy [])
      ∧ (¬(start ∧ s.saving = true) →
          (2 < byteAt p 1 ∨ 4 ≤ byteAt p 2 ∨ (byteAt p 2 = 0 ∧ current) ∨ 2 < byteAt p 3 ∨ 2 < byteAt p 4 ∨ 1 < byteAt p 5) →
          refuses .laneMode .badValue []))
    ∧ (reached .laneReset → old.lsv.mode ≠ .egress → (old.bc.state = .opening ∨ old.bc.state = .shutting) →
        refuses .laneReset .busy [])
    ∧ (reached .laneGeometry → old.lsv.mode ≠ .egress → s.saving = false →
      (¬((old.lsv.mode = .dark ∨ old.lsv.mode = .closed) ∧ old.ot.tracks = []) → refuses .laneGeometry .notClosed [])
      ∧ ((old.lsv.mode = .dark ∨ old.lsv.mode = .closed) → old.ot.tracks = [] →
          (byteAt p 1 < 1 ∨ 8 < byteAt p 1 ∨ byteAt p 2 < 4 ∨ 32 < byteAt p 2 ∨ byteAt p 2 + 3 < 4 * byteAt p 1
            ∨ 4 * byteAt p 1 < byteAt p 2 ∨ 1 < byteAt p 3 ∨ byteAt p 4 < 20 ∨ 150 < byteAt p 4 ∨ f < 2 ∨ byteAt p 2 < f + 2
            ∨ byteAt p 6 < 1 ∨ 4 < byteAt p 6 ∨ f < byteAt p 6 + 1 ∨ byteAt p 2 < f + byteAt p 6 + 1) →
          refuses .laneGeometry .badValue []))
    ∧ (reached .laneTiming → old.lsv.mode ≠ .egress → s.saving = false →
        (1 < byteAt p 12 ∨ 1 < byteAt p 24 ∨ 1 < byteAt p 27) → refuses .laneTiming .badValue [])
    ∧ (reached .pulse → old.lsv.mode ≠ .egress →
      ((old.lsv.mode = .dark ∨ old.lsv.mode = .closed ∨ byteAt p 1 < 1 ∨ 2 < byteAt p 1 ∨ byteAt p 2 < 1 ∨ 8 < byteAt p 2) →
        refuses .pulse .badValue [])
      ∧ ∀ d : Direction, (old.lsv.mode = .service ∨ old.lsv.mode = .lockdown) → byteAt p 1 = dirCode d → 1 ≤ byteAt p 2 →
          byteAt p 2 ≤ 8 →
          (¬claimAllows old.pq.claim d → refuses .pulse .laneBusy [])
          ∧ (claimAllows old.pq.claim d → 4 ≤ old.pq.permits.length → refuses .pulse .queueFull []))
    ∧ (reached .alarmAck → (∃ c ∈ (p.drop 2).map BitVec.toNat, c < 1 ∨ 9 < c) → refuses .alarmAck .badValue [])
    ∧ (reached .restore →
        (byteAt p 1 < 1 ∨ 3 < byteAt p 1 ∨ 2 < byteAt p 2 ∨ 2 < byteAt p 3 ∨ old.lsv.mode ≠ .egress) →
        refuses .restore .badValue [])

/-- The owners' refusals of the table, class and device requests: BAD_VALUE by their fields, NOT_FOUND of PRESENCE_SET. Each changes
nothing. A table or class request that is refused still carries the record count, and a refused IDENT its fields (the model's reading,
Log 24). -/
def Claims.TableOwnersRefuse : Prop :=
  ∀ (l : Link) (tag : Byte) (p : List Byte) (s : State),
    let h := s.hunt l
    let refuses (kind : RequestKind) (st : Status) (body : List Byte) : Prop :=
      exec (Instr.ofRequest l tag p kind) s = .next (h.reply l (replyOf kind tag st body))
    let count := fld 2 s.cst.creds.length
    let untilAt := 12 + 4 * (byteAt p 11 % 2)
    let usesAt := untilAt + 4 * (byteAt p 11 / 2 % 2)
    (s.saving = false → s.reaches l .credPut p →
      (natAt p 0 8 = 0 ∨ 15 < byteAt p 8 ∨ 2 < byteAt p 9 ∨ byteAt p 10 < 1 ∨ 8 < byteAt p 10 ∨ 7 < byteAt p 11
        ∨ (4 ≤ byteAt p 11 ∧ byteAt p usesAt = 0)
        ∨ (byteAt p 11 % 4 = 3 ∧ natAt p untilAt 4 < natAt p 12 4)) →
      refuses .credPut .badValue count)
    ∧ (s.saving = false → s.reaches l .presenceSet p →
      (2 < byteAt p 8 → refuses .presenceSet .badValue count)
      ∧ (byteAt p 8 ≤ 2 → findCred (natAt p 0 8) s.cst.creds = none → refuses .presenceSet .notFound count))
    ∧ (s.saving = false → s.reaches l .classSet p →
      (15 < byteAt p 0 ∨ 4096 ≤ natAt p 1 2 ∨ 5 < byteAt p 3 ∨ 1439 < natAt p 4 2 ∨ 1439 < natAt p 6 2 ∨ 2 < byteAt p 8
        ∨ 15 < byteAt p 9 ∨ 1 < byteAt p 10) →
      refuses .classSet .badValue count)
    ∧ (s.reaches l .classGet p → 15 < byteAt p 0 → refuses .classGet .badValue count)
    ∧ (s.reaches l .credScan p → 8 < byteAt p 8 → refuses .credScan .badValue count)
    ∧ (s.reaches l .fetch p → 8 < byteAt p 0 → refuses .fetch .badValue [])
    ∧ (s.reaches l .clockSet p → 1 < byteAt p 0 → refuses .clockSet .badValue [])
    ∧ (s.reaches l .ident p → 1 < byteAt p 0 → ¬(byteAt p 0 % 2 = 1 ∧ s.saving = true) →
      refuses .ident .badValue (identBytes s.ims.unit))
    ∧ (s.saving = false → s.reaches l .route p →
      (∃ i, i < byteAt p 0 ∧
        (byteAt p (1 + 2 * i) < 1 ∨ 11 < byteAt p (1 + 2 * i) ∨ 3 < byteAt p (2 + 2 * i)
          ∨ ∃ j, j < i ∧ byteAt p (1 + 2 * j) = byteAt p (1 + 2 * i))) →
      refuses .route .badValue [])

/-- Under desk hold the site link is refused HELD; while a save is in flight what it writes is refused BUSY; every owner refuses what its
rule names; a refusal changes nothing. -/
def Obligations.HeldAndBusyRefuse : Prop :=
  Claims.HeldLaneRefusesSite ∧ Claims.SavingRefusesBusy ∧ Claims.LaneOwnersRefuse ∧ Claims.TableOwnersRefuse

/-- DECIDE: LATE for a tag that no slot holds. DENY, whatever its allowance and class, frees the slot and sends DENY with REFERRAL_DENIED.
GRANT, when the re-check passes in
SERVICE, frees the slot and appends a REFERRED permit of the DECIDE's allowance for the decided class. That the READ notice of a DENY
carries the slot's class whatever class the DECIDE carries is the model's choice (Log 31). -/
def Claims.DecideSettlesSlot : Prop :=
  ∀ (l : Link) (tag : Byte) (p : List Byte) (s : State), s.reaches l .decideReq p →
    byteAt p 3 ≤ 1 →
    let h := s.hunt l
    (s.slot (byteAt p 0) = none → byteAt p 1 = 2 →
      exec (.decideReq l tag p) s = .next (h.reply l (replyOf .decideReq tag .late (fld 1 (byteAt p 0)))))
    ∧ ∀ x, s.slot (byteAt p 0) = some x →
        let k := portLane x.reader
        let old := s.lane k
        let decided : Option ClassNo := if byteAt p 3 = 1 then classOfByte (byteAt p 4) else x.cls
        let freed : State := { h with rfu := { s.rfu with slots := s.rfu.slots.filter fun y => decide (y.tag ≠ x.tag) } }
        (byteAt p 1 = 2 →
          exec (.decideReq l tag p) s =
            .next ((State.refresh k
              (State.post (laneNumber k)
                (.conclusion { reader := x.reader, number := x.number, cls := x.cls, verdict := .deny, reason := .referralDenied
                               tag := x.tag, referralReason := x.reason, decidedBy := some l, append := none, step := 5 })
                (freed.sendReader x.reader (.verdict .deny .referralDenied x.number)))).reply l
              (replyOf .decideReq tag .ok (fld 1 x.tag ++ [2, 25, 5, 0]))))
        ∧ (byteAt p 1 = 1 → 1 ≤ byteAt p 2 → byteAt p 2 ≤ 8 → (byteAt p 3 = 0 ∨ byteAt p 4 ≤ 15) → old.lsv.mode = .service →
          old.lsv.policy.setting (portDir x.reader) = .badged → old.lsv.sensorMark = false → old.lsv.barrierMark = false →
          old.lsv.pending = none → (old.pq.claim = none ∨ old.pq.claim = some (portDir x.reader)) → freed.held x.number = false →
          old.pq.permits.length < 4 →
          ∃ t, exec (.decideReq l tag p) s = .next t ∧ t.rfu = freed.rfu ∧ (∀ j, j ≠ k → t.lane j = s.lane j)
            ∧ t.cst = s.cst ∧ t.tmb = s.tmb ∧ t.ims = s.ims ∧ t.routing = s.routing
            ∧ (∀ q, q ≠ x.reader → t.port q = s.port q)
            ∧ ∃ y ∈ (t.lane k).pq.permits, y.number = firstFree old.permitNumbers 255 old.pq.next ∧ y.dir = portDir x.reader
                ∧ y.origin = .referred ∧ y.credential = some x.number ∧ y.cls = decided ∧ y.reader = some x.reader
                ∧ y.allowance = byteAt p 2 ∧ y.used = 0 ∧ y.soft = false
                ∧ ((s.port x.reader).tx.length < 4 →
                    (t.port x.reader).tx = (s.port x.reader).tx ++
                      [.verdict (if y.state = .ready then .grant else .wait) (if y.state = .ready then .referred else .escort)
                        x.number]))

/-- The other answers to a DECIDE (R154 to R156): BAD_VALUE for a verdict that is neither GRANT nor DENY, for a GRANT whose allowance lies
outside 1 to 8 or whose class is above 15, and for a presence byte above 1 (the model's choice, Log 31); LATE for a GRANT as for a DENY;
and for a GRANT each failing step of the re-check, and the append in SERVICE or LOCKDOWN when it passes. -/
def Claims.DecideRechecks : Prop :=
  ∀ (l : Link) (tag : Byte) (p : List Byte) (s : State), s.reaches l .decideReq p →
    let h := s.hunt l
    let grants := byteAt p 1 = 1 ∧ 1 ≤ byteAt p 2 ∧ byteAt p 2 ≤ 8 ∧ (byteAt p 3 = 0 ∨ (byteAt p 3 = 1 ∧ byteAt p 4 ≤ 15))
    ((1 < byteAt p 3 ∨ byteAt p 1 < 1 ∨ 2 < byteAt p 1
        ∨ (byteAt p 1 = 1 ∧ (byteAt p 2 < 1 ∨ 8 < byteAt p 2 ∨ (byteAt p 3 = 1 ∧ 15 < byteAt p 4)))) →
      exec (.decideReq l tag p) s = .next (h.reply l (replyOf .decideReq tag .badValue (fld 1 (byteAt p 0)))))
    ∧ ((grants ∨ (byteAt p 1 = 2 ∧ byteAt p 3 ≤ 1)) → s.slot (byteAt p 0) = none →
      exec (.decideReq l tag p) s = .next (h.reply l (replyOf .decideReq tag .late (fld 1 (byteAt p 0)))))
    ∧ ∀ x, grants → s.slot (byteAt p 0) = some x →
        let decided : Option ClassNo := if byteAt p 3 = 1 then classOfByte (byteAt p 4) else x.cls
        let freed := h.slotFreed x.tag
        let answers (t : State) (v : Verdict) (r : Reason) (step : Nat) (permit : List Byte) : Prop :=
          exec (.decideReq l tag p) s =
            .next (t.reply l (replyOf .decideReq tag .ok (fld 1 x.tag ++ fld 1 v.code ++ fld 1 r.code ++ fld 1 step ++ permit)))
        (∀ v r step, freed.RecheckEnds x.reader x.number decided v r step →
          answers (State.concluded (conclusionOf x decided (some l) v r none step) freed) v r step [0])
        ∧ (freed.recheckPasses x.reader x.number decided →
          ∃ w number st,
            append (freed.env (portLane x.reader)) (s.appendFor x.reader .referred x.number decided (byteAt p 2) false)
                (freed.work (portLane x.reader)) = .accepted w number st
            ∧ let v : Verdict := if st = .ready then .grant else .wait
              let r : Reason := if st = .ready then .referred else .escort
              answers
                (State.concluded
                  (conclusionOf x decided (some l) v r
                    (some { number := number, state := st, allowance := byteAt p 2, soft := false }) 9)
                  (freed.absorb (portLane x.reader) w))
                v r 9 ([1] ++ fld 1 number ++ fld 1 st.code))

/-- DECIDE settles its slot by DENY, or by GRANT and the re-check; it is refused BAD_VALUE, or LATE without a slot. -/
def Obligations.DecideSettlesSlot : Prop := Claims.DecideSettlesSlot ∧ Claims.DecideRechecks

/-- FETCH takes up to its count (0 for 8) of the oldest notices from the queue of the link that carries it, reports the overflow flag as
it stood and clears it; the other link's queue and everything else stay. -/
def Obligations.FetchTakesOldest : Prop :=
  ∀ (l : Link) (tag : Byte) (p : List Byte) (s : State), s.reaches l .fetch p → byteAt p 0 ≤ 8 →
    let n := if byteAt p 0 = 0 then 8 else byteAt p 0
    let old := s.link l
    exec (.fetch l tag p) s =
      .next (s.modLink l fun q =>
        { q with
          rx := none
          queue := q.queue.drop n
          overflow := false
          tx := q.tx ++
            [replyOf .fetch tag .ok
              (fld 1 (old.queue.take n).length ++ [if old.overflow then 1 else 0] ++ fld 1 (old.queue.drop n).length
                ++ (old.queue.take n).flatMap Notice.bytes)] })

/-- ROUTE of one entry applies it as written, an alarm-bearing kind's NONE as BOTH with status CLAMPED, answers the whole table as it then
stands, and changes nothing else; an empty list reads the table. -/
def Claims.RouteApplied : Prop :=
  ∀ (l : Link) (tag : Byte) (kind : NoticeKind) (route : Route) (s : State), (s.link l).tx.length < 4 →
    let h := s.hunt l
    let bearing := kind = .violation ∨ kind = .barrier ∨ kind = .reader ∨ kind = .lane
    let inForce := if bearing ∧ route = .nowhere then Route.both else route
    (s.saving = false → (kind = .referral → route = .site) →
      ∃ r : Routing,
        exec (.route l tag [1, BitVec.ofNat 8 kind.code, BitVec.ofNat 8 route.code]) s =
          .next (({ h with routing := r } : State).reply l
            (replyOf .route tag (if bearing ∧ route = .nowhere then .clamped else .ok) r.bytes))
        ∧ r.get kind = inForce ∧ ∀ other, other ≠ kind → r.get other = s.routing.get other)
    ∧ (s.saving = false → kind = .referral → route ≠ .site →
      exec (.route l tag [1, BitVec.ofNat 8 kind.code, BitVec.ofNat 8 route.code]) s =
        .next (h.reply l (replyOf .route tag .badValue [])))
    ∧ exec (.route l tag [0]) s = .next (h.reply l (replyOf .route tag .ok s.routing.bytes))

/-- ROUTE of any list of up to eleven entries: with a kind named twice or REFERRAL anywhere but to SITE it is refused BAD_VALUE; otherwise
every entry is applied as a list of it alone would be, the other kinds keep their routes, and the reply is CLAMPED when an entry was
changed. -/
def Claims.RouteListApplied : Prop :=
  ∀ (l : Link) (tag : Byte) (es : List (NoticeKind × Route)) (s : State), (s.link l).tx.length < 4 → s.saving = false →
    es.length ≤ 11 →
    let h := s.hunt l
    let payload := BitVec.ofNat 8 es.length :: es.flatMap fun x => [BitVec.ofNat 8 x.1.code, BitVec.ofNat 8 x.2.code]
    let changed (x : NoticeKind × Route) : Bool :=
      (x.1 == .violation || x.1 == .barrier || x.1 == .reader || x.1 == .lane) && x.2 == .nowhere
    let sound := (es.map Prod.fst).Nodup ∧ ∀ x ∈ es, x.1 = .referral → x.2 = .site
    (sound →
      ∃ r : Routing,
        exec (.route l tag payload) s =
          .next (({ h with routing := r } : State).reply l
            (replyOf .route tag (if es.any changed then .clamped else .ok) r.bytes))
        ∧ (∀ x ∈ es, r.get x.1 = if changed x then Route.both else x.2)
        ∧ ∀ kind, kind ∉ es.map Prod.fst → r.get kind = s.routing.get kind)
    ∧ (¬sound → exec (.route l tag payload) s = .next (h.reply l (replyOf .route tag .badValue [])))

/-- ROUTE of none, one and any number of entries. -/
def Obligations.RouteApplied : Prop := Claims.RouteApplied ∧ Claims.RouteListApplied

/-- CLOCK_SET sets or clears the clock and answers it as it was and as it is; SAVE starts a save with its 6,000 millisecond timer; IDENT
answers the part's numbers and takes a unit number while no save is in flight. Nothing else changes. -/
def Obligations.ClockSaveIdent : Prop :=
  ∀ (l : Link) (tag : Byte) (p : List Byte) (s : State),
    let h := s.hunt l
    (s.reaches l .clockSet p → byteAt p 0 = 1 →
      exec (.clockSet l tag p) s =
        .next (({ h with tmb := { s.tmb with valid := true, base := natAt p 1 4, baseAt := s.tmb.ms } } : State).reply l
          (replyOf .clockSet tag .ok (s.clockBytes ++ (fld 4 (natAt p 1 4 % 2 ^ 32) ++ [1])))))
    ∧ (s.reaches l .clockSet p → byteAt p 0 = 0 →
      exec (.clockSet l tag p) s =
        .next (({ h with tmb := { s.tmb with valid := false } } : State).reply l
          (replyOf .clockSet tag .ok (s.clockBytes ++ (fld 4 0 ++ [0])))))
    ∧ (s.reaches l .save p → s.saving = false →
      exec (.save l tag p) s =
        .next (({ h with ims := { s.ims with saving := some { stage := .erase, written := 0, timerEnd := s.tmb.ms + 6000 } } } :
          State).reply l (replyOf .save tag .ok (fld 2 s.cst.creds.length))))
    ∧ (s.reaches l .ident p → byteAt p 0 = 1 → s.saving = false →
      exec (.ident l tag p) s =
        .next (({ h with ims := { s.ims with unit := byteAt p 1 } } : State).reply l
          (replyOf .ident tag .ok (identBytes (byteAt p 1)))))
    ∧ (s.reaches l .ident p → byteAt p 0 = 0 →
      exec (.ident l tag p) s = .next (h.reply l (replyOf .ident tag .ok (identBytes s.ims.unit))))

/-! ## The save -/

/-- The stages of a save in flight that the flash takes whole: the erase, the header, each record (counted), the CRC with its read-back;
DONE when the read-back judges the image good, else FAILED with cause VERIFY, whatever positions read back altered (an operand, Log 7).
That a save of no record goes from the header to the CRC is the model's choice (Log 30). -/
def Claims.SaveStagesProceed : Prop :=
  ∀ (s : State) (r : SaveRun), s.ims.saving = some r →
    let store (m : Memory) (x : Option SaveRun) : State := { s with ims := { s.ims with flash := m, saving := x } }
    let left (w : Nat) : SaveStage := if w < s.cst.creds.length then .records else .crc
    (r.stage = .erase → exec (.saveEraseDone .ok) s = .next (store [] (some { r with stage := .header })))
    ∧ (r.stage = .header →
      exec (.saveHeaderDone .ok) s =
        .next (store (s.ims.flash.writeBytes 0 s.header) (some { r with stage := left r.written })))
    ∧ (∀ c, r.stage = .records → s.cst.creds[r.written]? = some c →
      exec (.saveRecordWritten .ok) s =
        .next (store (s.ims.flash.writeBytes (416 + 27 * r.written) c.packed)
          (some { r with stage := left (r.written + 1), written := r.written + 1 })))
    ∧ (r.stage = .crc → ∀ altered,
      let finish := 416 + 27 * r.written
      let written :=
        Memory.writeCells altered (s.ims.flash.writeBytes finish (le 2 (crc16 (s.ims.flash.readBytes 0 finish)).toNat))
      (written.judge.1 = .loaded →
        exec (.saveReadbackDone .ok altered) s =
          .next (State.post 0 (.storeDone r.written (s.tmb.ms - (r.timerEnd - 6000)))
            { s with ims := { s.ims with flash := written, saving := none, lastSave := .done s.tmb.ms } }))
      ∧ (written.judge.1 ≠ .loaded →
        exec (.saveReadbackDone .ok altered) s =
          .next (State.post 0 (.storeFailed .verify .crc r.written)
            { s with ims := { s.ims with flash := written, saving := none, lastSave := .failed .verify } })))

/-- A save fails with cause NO_FLASH or WRITE at the stage in progress, and with TIMEOUT when its timer's end comes: IDLE, the last save
FAILED with the cause, one STORE notice with the stage in progress (the model's reading, Log 33) and the records written. The flash keeps
what the stage had written of its bytes, as many as the operand says it had taken (the model's choice, Log 7, Log 30, Log 39). -/
def Claims.SaveFailsWithCause : Prop :=
  ∀ (s : State) (r : SaveRun) (taken : Nat), s.ims.saving = some r →
    let fails (c : Instr) (cause : SaveCause) : Prop :=
      exec c s =
        .next (State.post 0 (.storeFailed cause r.stage r.written)
          { s with
            ims := { s.ims with flash := s.stageWritten (some taken) r, saving := none, lastSave := .failed cause } })
    (r.stage = .erase → fails (.saveEraseDone (.noAnswer taken)) .noFlash ∧ fails (.saveEraseDone (.notAccepted taken)) .write)
    ∧ (r.stage = .header → fails (.saveHeaderDone (.noAnswer taken)) .noFlash ∧ fails (.saveHeaderDone (.notAccepted taken)) .write)
    ∧ (r.stage = .records →
        fails (.saveRecordWritten (.noAnswer taken)) .noFlash ∧ fails (.saveRecordWritten (.notAccepted taken)) .write)
    ∧ (r.stage = .crc → ∀ altered,
        fails (.saveReadbackDone (.noAnswer taken) altered) .noFlash
        ∧ fails (.saveReadbackDone (.notAccepted taken) altered) .write)
    ∧ (r.timerEnd ≤ s.tmb.ms → fails (.saveTimeout taken) .timeout)

/-- What a save leaves that does not finish (R193), at a failure or at a reset: no good image. An erase has erased the first bytes, the two
of the format code at least (Log 30), and leaves NO_IMAGE; a later stage has written the first of its bytes, the format code whole or
not at all (Log 30), and leaves NO_IMAGE before the format code and BAD_IMAGE behind it; one byte differs where these bytes would pass
for a whole image (Log 39). How many bytes were taken is an operand (Log 7). -/
def Claims.CutSaveLeavesNoImage : Prop :=
  ∀ (s : State) (r : SaveRun) (taken : Nat), s.flashCanonical →
    let old := s.ims.flash
    let left := s.stageWritten (some taken) r
    let finish := 416 + 27 * r.written
    let written (base : Memory) : Prop :=
      (base.judge.1 ≠ .loaded → left = base)
      ∧ (base.judge.1 = .loaded → ∀ a, a ≠ base.imageBytes.length → left.read a = base.read a)
    left.wf = true ∧ left.judge.1 ≠ .loaded
    ∧ (r.stage = .erase →
        left.judge.1 = .noImage ∧ ∀ a, left.read a = if a < 2 ∨ a < taken then 0xFF#8 else old.read a)
    ∧ (r.stage = .header →
        written (old.writeBytes 0 (if taken < 2 then [] else s.header.take taken))
        ∧ (old = [] → (taken < 2 → left.judge.1 = .noImage) ∧ (2 ≤ taken → left.judge.1 = .badImage)))
    ∧ (r.stage = .records →
        (∀ c, s.cst.creds[r.written]? = some c → written (old.writeBytes finish (c.packed.take taken)))
        ∧ (old.formatCode = 0x4C31 → left.judge.1 = .badImage))
    ∧ (r.stage = .crc →
        written (old.writeBytes finish ((le 2 (crc16 (old.readBytes 0 finish)).toNat).take taken))
        ∧ (old.formatCode = 0x4C31 → left.judge.1 = .badImage))

/-- The stage commands of a save that is not in their stage, and of no save, change nothing (Log 2). -/
def Claims.StagesWaitTheirTurn : Prop :=
  ∀ (s : State) (f : FlashOutcome) (altered : List Host.Cell) (taken : Nat),
    ((∀ r, s.ims.saving = some r → r.stage ≠ .erase) → exec (.saveEraseDone f) s = .next s)
    ∧ ((∀ r, s.ims.saving = some r → r.stage ≠ .header) → exec (.saveHeaderDone f) s = .next s)
    ∧ ((∀ r, s.ims.saving = some r → r.stage ≠ .records) → exec (.saveRecordWritten f) s = .next s)
    ∧ ((∀ r, s.ims.saving = some r → r.stage ≠ .crc) → exec (.saveReadbackDone f altered) s = .next s)
    ∧ ((∀ r, s.ims.saving = some r → s.tmb.ms < r.timerEnd) → exec (.saveTimeout taken) s = .next s)

/-- The stages of a save, its failures, and what it leaves when it does not finish. -/
def Obligations.SaveProceedsOrFails : Prop :=
  Claims.SaveStagesProceed ∧ Claims.SaveFailsWithCause ∧ Claims.CutSaveLeavesNoImage ∧ Claims.StagesWaitTheirTurn

/-! ## Notices -/

/-- Posting a notice places it, stamped, at the tail of each queue its kind's route names that has room, sets the overflow flag of each
that has none, and changes nothing else. -/
def Obligations.PostPlacesInQueues : Prop :=
  ∀ (lane : Nat) (b : NoticeBody) (s : State),
    let route := s.routing.get b.kind
    let notice : Notice :=
      { lane := lane, ms := s.tmb.ms
        seconds := if s.tmb.valid then (s.tmb.base + (s.tmb.ms - s.tmb.baseAt) / 1000) % 2 ^ 32 else 0
        clockValid := s.tmb.valid, body := b }
    let placed (cap : Nat) (q : LinkPort) : LinkPort :=
      if q.queue.length < cap then { q with queue := q.queue ++ [notice] } else { q with overflow := true }
    State.post lane b s =
      { s with
        site := if route = .site ∨ route = .both then placed 64 s.site else s.site
        desk := if route = .desk ∨ route = .both then placed 32 s.desk else s.desk }

/-! ## Laws that every step keeps -/

/-- The laws of the part hold after reset. -/
def Obligations.LawsHoldAtReset : Prop :=
  State.reset.drivesFollow ∧ State.reset.queuesBounded ∧ State.reset.listsBounded ∧ State.reset.lanesBounded
    ∧ State.reset.queuesOneWay ∧ State.reset.slotsTagged ∧ State.reset.tableOrdered ∧ State.reset.routesSound
    ∧ State.reset.flashCanonical ∧ State.reset.outputsDerived

/-- Every step keeps the drive outputs at their barrier states: DRIVE_OPEN and DRIVE_SHUT are never asserted together. -/
def Obligations.DrivesFollowState : Prop :=
  ∀ s t, s.drivesFollow → step s = .next t → t.drivesFollow ∧ ∀ k, ¬((t.lane k).bc.driveOpen = true ∧ (t.lane k).bc.driveShut = true)

/-- Every step keeps the notice queues within 64 and 32 notices. -/
def Claims.NoticeQueuesStayBounded : Prop := ∀ s t, s.queuesBounded → step s = .next t → t.queuesBounded

/-- Every step keeps every transmit list within 4 frames. -/
def Claims.TransmitListsStayBounded : Prop := ∀ s t, s.listsBounded → step s = .next t → t.listsBounded

/-- Every step keeps the notice queues and the transmit lists within their sizes. -/
def Obligations.QueuesAndListsStayBounded : Prop := Claims.NoticeQueuesStayBounded ∧ Claims.TransmitListsStayBounded

/-- Every step keeps every lane within 8 tracks and 4 queued permits. -/
def Claims.LanesStayBounded : Prop := ∀ s t, s.lanesBounded → step s = .next t → t.lanesBounded

/-- Every step keeps the permits queued in a lane to the one direction of its claim. -/
def Claims.QueuesStayOneWay : Prop := ∀ s t, s.queuesOneWay → step s = .next t → t.queuesOneWay

/-- Every step keeps the lanes within their sizes, and each permit queue to one direction. -/
def Obligations.LanesStayBoundedAndOneWay : Prop := Claims.LanesStayBounded ∧ Claims.QueuesStayOneWay

/-- Every step keeps at most 8 referral slots occupied, no two under one tag. -/
def Obligations.SlotsStayTagged : Prop := ∀ s t, s.slotsTagged → step s = .next t → t.slotsTagged

/-- Every step keeps the credential table in strictly ascending order of number, without number 0, within 8,192 records. -/
def Claims.TableStaysOrdered : Prop := ∀ s t, s.tableOrdered → step s = .next t → t.tableOrdered

/-- Every step keeps REFERRAL routed SITE and no alarm-bearing kind routed NONE. -/
def Claims.RoutesStaySound : Prop := ∀ s t, s.routesSound → step s = .next t → t.routesSound

/-- Every step keeps the serial flash in canonical form. -/
def Claims.FlashStaysCanonical : Prop := ∀ s t, s.flashCanonical → step s = .next t → t.flashCanonical

/-- Every step keeps the credential table ordered, the routing table sound and the flash canonical. -/
def Obligations.StoredDataStaysSound : Prop := Claims.TableStaysOrdered ∧ Claims.RoutesStaySound ∧ Claims.FlashStaysCanonical

/-- Every step leaves every lane's buzzer and indicators as R100 and R102 give them (the premise on the slots is an invariant of its
own). -/
def Obligations.OutputsStayDerived : Prop := ∀ s t, s.slotsTagged → s.outputsDerived → step s = .next t → t.outputsDerived
end

