-- ==== Sys2Proof/Laws/State.lean ====
section
/-! SUPPORT. One lemma per field per update of the state, so that no later proof unfolds a record update. -/

namespace Sys2Proof.Machine

/-! ## Fields under the updates of the state -/

@[simp] theorem State.setLane_ports (s : State) (k : Lane) (l : LaneState) : (s.setLane k l).ports = s.ports := rfl
@[simp] theorem State.setLane_site (s : State) (k : Lane) (l : LaneState) : (s.setLane k l).site = s.site := rfl
@[simp] theorem State.setLane_desk (s : State) (k : Lane) (l : LaneState) : (s.setLane k l).desk = s.desk := rfl
@[simp] theorem State.setLane_routing (s : State) (k : Lane) (l : LaneState) : (s.setLane k l).routing = s.routing := rfl
@[simp] theorem State.setLane_cst (s : State) (k : Lane) (l : LaneState) : (s.setLane k l).cst = s.cst := rfl
@[simp] theorem State.setLane_rfu (s : State) (k : Lane) (l : LaneState) : (s.setLane k l).rfu = s.rfu := rfl
@[simp] theorem State.setLane_tmb (s : State) (k : Lane) (l : LaneState) : (s.setLane k l).tmb = s.tmb := rfl
@[simp] theorem State.setLane_ims (s : State) (k : Lane) (l : LaneState) : (s.setLane k l).ims = s.ims := rfl
@[simp] theorem State.setLane_egressLine (s : State) (k : Lane) (l : LaneState) : (s.setLane k l).egressLine = s.egressLine := rfl
@[simp] theorem State.setLane_deskKey (s : State) (k : Lane) (l : LaneState) : (s.setLane k l).deskKey = s.deskKey := rfl
@[simp] theorem State.setLane_pending (s : State) (k : Lane) (l : LaneState) : (s.setLane k l).pending = s.pending := rfl

@[simp] theorem State.modLane_ports (s : State) (k : Lane) (f : LaneState → LaneState) : (s.modLane k f).ports = s.ports := rfl
@[simp] theorem State.modLane_site (s : State) (k : Lane) (f : LaneState → LaneState) : (s.modLane k f).site = s.site := rfl
@[simp] theorem State.modLane_desk (s : State) (k : Lane) (f : LaneState → LaneState) : (s.modLane k f).desk = s.desk := rfl
@[simp] theorem State.modLane_routing (s : State) (k : Lane) (f : LaneState → LaneState) : (s.modLane k f).routing = s.routing := rfl
@[simp] theorem State.modLane_cst (s : State) (k : Lane) (f : LaneState → LaneState) : (s.modLane k f).cst = s.cst := rfl
@[simp] theorem State.modLane_rfu (s : State) (k : Lane) (f : LaneState → LaneState) : (s.modLane k f).rfu = s.rfu := rfl
@[simp] theorem State.modLane_tmb (s : State) (k : Lane) (f : LaneState → LaneState) : (s.modLane k f).tmb = s.tmb := rfl
@[simp] theorem State.modLane_ims (s : State) (k : Lane) (f : LaneState → LaneState) : (s.modLane k f).ims = s.ims := rfl
@[simp] theorem State.modLane_egressLine (s : State) (k : Lane) (f : LaneState → LaneState) : (s.modLane k f).egressLine = s.egressLine := rfl
@[simp] theorem State.modLane_deskKey (s : State) (k : Lane) (f : LaneState → LaneState) : (s.modLane k f).deskKey = s.deskKey := rfl
@[simp] theorem State.modLane_pending (s : State) (k : Lane) (f : LaneState → LaneState) : (s.modLane k f).pending = s.pending := rfl

@[simp] theorem State.modPort_lanes (s : State) (p : Port) (f : ReaderPort → ReaderPort) : (s.modPort p f).lanes = s.lanes := rfl
@[simp] theorem State.modPort_site (s : State) (p : Port) (f : ReaderPort → ReaderPort) : (s.modPort p f).site = s.site := rfl
@[simp] theorem State.modPort_desk (s : State) (p : Port) (f : ReaderPort → ReaderPort) : (s.modPort p f).desk = s.desk := rfl
@[simp] theorem State.modPort_routing (s : State) (p : Port) (f : ReaderPort → ReaderPort) : (s.modPort p f).routing = s.routing := rfl
@[simp] theorem State.modPort_cst (s : State) (p : Port) (f : ReaderPort → ReaderPort) : (s.modPort p f).cst = s.cst := rfl
@[simp] theorem State.modPort_rfu (s : State) (p : Port) (f : ReaderPort → ReaderPort) : (s.modPort p f).rfu = s.rfu := rfl
@[simp] theorem State.modPort_tmb (s : State) (p : Port) (f : ReaderPort → ReaderPort) : (s.modPort p f).tmb = s.tmb := rfl
@[simp] theorem State.modPort_ims (s : State) (p : Port) (f : ReaderPort → ReaderPort) : (s.modPort p f).ims = s.ims := rfl
@[simp] theorem State.modPort_egressLine (s : State) (p : Port) (f : ReaderPort → ReaderPort) : (s.modPort p f).egressLine = s.egressLine := rfl
@[simp] theorem State.modPort_deskKey (s : State) (p : Port) (f : ReaderPort → ReaderPort) : (s.modPort p f).deskKey = s.deskKey := rfl
@[simp] theorem State.modPort_pending (s : State) (p : Port) (f : ReaderPort → ReaderPort) : (s.modPort p f).pending = s.pending := rfl

@[simp] theorem State.sendReader_lanes (s : State) (p : Port) (f : ReaderFrame) : (s.sendReader p f).lanes = s.lanes := rfl
@[simp] theorem State.sendReader_site (s : State) (p : Port) (f : ReaderFrame) : (s.sendReader p f).site = s.site := rfl
@[simp] theorem State.sendReader_desk (s : State) (p : Port) (f : ReaderFrame) : (s.sendReader p f).desk = s.desk := rfl
@[simp] theorem State.sendReader_routing (s : State) (p : Port) (f : ReaderFrame) : (s.sendReader p f).routing = s.routing := rfl
@[simp] theorem State.sendReader_cst (s : State) (p : Port) (f : ReaderFrame) : (s.sendReader p f).cst = s.cst := rfl
@[simp] theorem State.sendReader_rfu (s : State) (p : Port) (f : ReaderFrame) : (s.sendReader p f).rfu = s.rfu := rfl
@[simp] theorem State.sendReader_tmb (s : State) (p : Port) (f : ReaderFrame) : (s.sendReader p f).tmb = s.tmb := rfl
@[simp] theorem State.sendReader_ims (s : State) (p : Port) (f : ReaderFrame) : (s.sendReader p f).ims = s.ims := rfl
@[simp] theorem State.sendReader_egressLine (s : State) (p : Port) (f : ReaderFrame) : (s.sendReader p f).egressLine = s.egressLine := rfl
@[simp] theorem State.sendReader_deskKey (s : State) (p : Port) (f : ReaderFrame) : (s.sendReader p f).deskKey = s.deskKey := rfl
@[simp] theorem State.sendReader_pending (s : State) (p : Port) (f : ReaderFrame) : (s.sendReader p f).pending = s.pending := rfl

@[simp] theorem State.tick_lanes (s : State) : (s.tick).lanes = s.lanes := rfl
@[simp] theorem State.tick_ports (s : State) : (s.tick).ports = s.ports := rfl
@[simp] theorem State.tick_site (s : State) : (s.tick).site = s.site := rfl
@[simp] theorem State.tick_desk (s : State) : (s.tick).desk = s.desk := rfl
@[simp] theorem State.tick_routing (s : State) : (s.tick).routing = s.routing := rfl
@[simp] theorem State.tick_cst (s : State) : (s.tick).cst = s.cst := rfl
@[simp] theorem State.tick_rfu (s : State) : (s.tick).rfu = s.rfu := rfl
@[simp] theorem State.tick_ims (s : State) : (s.tick).ims = s.ims := rfl
@[simp] theorem State.tick_egressLine (s : State) : (s.tick).egressLine = s.egressLine := rfl
@[simp] theorem State.tick_deskKey (s : State) : (s.tick).deskKey = s.deskKey := rfl
@[simp] theorem State.tick_pending (s : State) : (s.tick).pending = s.pending := rfl

@[simp] theorem State.refresh_ports (s : State) (k : Lane) : (s.refresh k).ports = s.ports := rfl
@[simp] theorem State.refresh_site (s : State) (k : Lane) : (s.refresh k).site = s.site := rfl
@[simp] theorem State.refresh_desk (s : State) (k : Lane) : (s.refresh k).desk = s.desk := rfl
@[simp] theorem State.refresh_routing (s : State) (k : Lane) : (s.refresh k).routing = s.routing := rfl
@[simp] theorem State.refresh_cst (s : State) (k : Lane) : (s.refresh k).cst = s.cst := rfl
@[simp] theorem State.refresh_rfu (s : State) (k : Lane) : (s.refresh k).rfu = s.rfu := rfl
@[simp] theorem State.refresh_tmb (s : State) (k : Lane) : (s.refresh k).tmb = s.tmb := rfl
@[simp] theorem State.refresh_ims (s : State) (k : Lane) : (s.refresh k).ims = s.ims := rfl
@[simp] theorem State.refresh_egressLine (s : State) (k : Lane) : (s.refresh k).egressLine = s.egressLine := rfl
@[simp] theorem State.refresh_deskKey (s : State) (k : Lane) : (s.refresh k).deskKey = s.deskKey := rfl
@[simp] theorem State.refresh_pending (s : State) (k : Lane) : (s.refresh k).pending = s.pending := rfl

@[simp] theorem State.setFlash_lanes (s : State) (m : Memory) : (s.setFlash m).lanes = s.lanes := rfl
@[simp] theorem State.setFlash_ports (s : State) (m : Memory) : (s.setFlash m).ports = s.ports := rfl
@[simp] theorem State.setFlash_site (s : State) (m : Memory) : (s.setFlash m).site = s.site := rfl
@[simp] theorem State.setFlash_desk (s : State) (m : Memory) : (s.setFlash m).desk = s.desk := rfl
@[simp] theorem State.setFlash_routing (s : State) (m : Memory) : (s.setFlash m).routing = s.routing := rfl
@[simp] theorem State.setFlash_cst (s : State) (m : Memory) : (s.setFlash m).cst = s.cst := rfl
@[simp] theorem State.setFlash_rfu (s : State) (m : Memory) : (s.setFlash m).rfu = s.rfu := rfl
@[simp] theorem State.setFlash_tmb (s : State) (m : Memory) : (s.setFlash m).tmb = s.tmb := rfl
@[simp] theorem State.setFlash_egressLine (s : State) (m : Memory) : (s.setFlash m).egressLine = s.egressLine := rfl
@[simp] theorem State.setFlash_deskKey (s : State) (m : Memory) : (s.setFlash m).deskKey = s.deskKey := rfl
@[simp] theorem State.setFlash_pending (s : State) (m : Memory) : (s.setFlash m).pending = s.pending := rfl

@[simp] theorem State.setRun_lanes (s : State) (r : SaveRun) : (s.setRun r).lanes = s.lanes := rfl
@[simp] theorem State.setRun_ports (s : State) (r : SaveRun) : (s.setRun r).ports = s.ports := rfl
@[simp] theorem State.setRun_site (s : State) (r : SaveRun) : (s.setRun r).site = s.site := rfl
@[simp] theorem State.setRun_desk (s : State) (r : SaveRun) : (s.setRun r).desk = s.desk := rfl
@[simp] theorem State.setRun_routing (s : State) (r : SaveRun) : (s.setRun r).routing = s.routing := rfl
@[simp] theorem State.setRun_cst (s : State) (r : SaveRun) : (s.setRun r).cst = s.cst := rfl
@[simp] theorem State.setRun_rfu (s : State) (r : SaveRun) : (s.setRun r).rfu = s.rfu := rfl
@[simp] theorem State.setRun_tmb (s : State) (r : SaveRun) : (s.setRun r).tmb = s.tmb := rfl
@[simp] theorem State.setRun_egressLine (s : State) (r : SaveRun) : (s.setRun r).egressLine = s.egressLine := rfl
@[simp] theorem State.setRun_deskKey (s : State) (r : SaveRun) : (s.setRun r).deskKey = s.deskKey := rfl
@[simp] theorem State.setRun_pending (s : State) (r : SaveRun) : (s.setRun r).pending = s.pending := rfl

@[simp] theorem State.setCreds_lanes (s : State) (cs : List Cred) : (s.setCreds cs).lanes = s.lanes := rfl
@[simp] theorem State.setCreds_ports (s : State) (cs : List Cred) : (s.setCreds cs).ports = s.ports := rfl
@[simp] theorem State.setCreds_site (s : State) (cs : List Cred) : (s.setCreds cs).site = s.site := rfl
@[simp] theorem State.setCreds_desk (s : State) (cs : List Cred) : (s.setCreds cs).desk = s.desk := rfl
@[simp] theorem State.setCreds_routing (s : State) (cs : List Cred) : (s.setCreds cs).routing = s.routing := rfl
@[simp] theorem State.setCreds_rfu (s : State) (cs : List Cred) : (s.setCreds cs).rfu = s.rfu := rfl
@[simp] theorem State.setCreds_tmb (s : State) (cs : List Cred) : (s.setCreds cs).tmb = s.tmb := rfl
@[simp] theorem State.setCreds_ims (s : State) (cs : List Cred) : (s.setCreds cs).ims = s.ims := rfl
@[simp] theorem State.setCreds_egressLine (s : State) (cs : List Cred) : (s.setCreds cs).egressLine = s.egressLine := rfl
@[simp] theorem State.setCreds_deskKey (s : State) (cs : List Cred) : (s.setCreds cs).deskKey = s.deskKey := rfl
@[simp] theorem State.setCreds_pending (s : State) (cs : List Cred) : (s.setCreds cs).pending = s.pending := rfl

@[simp] theorem State.freeSlot_lanes (s : State) (tag : Nat) : (s.freeSlot tag).lanes = s.lanes := rfl
@[simp] theorem State.freeSlot_ports (s : State) (tag : Nat) : (s.freeSlot tag).ports = s.ports := rfl
@[simp] theorem State.freeSlot_site (s : State) (tag : Nat) : (s.freeSlot tag).site = s.site := rfl
@[simp] theorem State.freeSlot_desk (s : State) (tag : Nat) : (s.freeSlot tag).desk = s.desk := rfl
@[simp] theorem State.freeSlot_routing (s : State) (tag : Nat) : (s.freeSlot tag).routing = s.routing := rfl
@[simp] theorem State.freeSlot_cst (s : State) (tag : Nat) : (s.freeSlot tag).cst = s.cst := rfl
@[simp] theorem State.freeSlot_tmb (s : State) (tag : Nat) : (s.freeSlot tag).tmb = s.tmb := rfl
@[simp] theorem State.freeSlot_ims (s : State) (tag : Nat) : (s.freeSlot tag).ims = s.ims := rfl
@[simp] theorem State.freeSlot_egressLine (s : State) (tag : Nat) : (s.freeSlot tag).egressLine = s.egressLine := rfl
@[simp] theorem State.freeSlot_deskKey (s : State) (tag : Nat) : (s.freeSlot tag).deskKey = s.deskKey := rfl
@[simp] theorem State.freeSlot_pending (s : State) (tag : Nat) : (s.freeSlot tag).pending = s.pending := rfl

@[simp] theorem State.modLink_lanes (s : State) (l : Link) (f : LinkPort → LinkPort) : (s.modLink l f).lanes = s.lanes := by cases l <;> rfl
@[simp] theorem State.modLink_ports (s : State) (l : Link) (f : LinkPort → LinkPort) : (s.modLink l f).ports = s.ports := by cases l <;> rfl
@[simp] theorem State.modLink_routing (s : State) (l : Link) (f : LinkPort → LinkPort) : (s.modLink l f).routing = s.routing := by cases l <;> rfl
@[simp] theorem State.modLink_cst (s : State) (l : Link) (f : LinkPort → LinkPort) : (s.modLink l f).cst = s.cst := by cases l <;> rfl
@[simp] theorem State.modLink_rfu (s : State) (l : Link) (f : LinkPort → LinkPort) : (s.modLink l f).rfu = s.rfu := by cases l <;> rfl
@[simp] theorem State.modLink_tmb (s : State) (l : Link) (f : LinkPort → LinkPort) : (s.modLink l f).tmb = s.tmb := by cases l <;> rfl
@[simp] theorem State.modLink_ims (s : State) (l : Link) (f : LinkPort → LinkPort) : (s.modLink l f).ims = s.ims := by cases l <;> rfl
@[simp] theorem State.modLink_egressLine (s : State) (l : Link) (f : LinkPort → LinkPort) : (s.modLink l f).egressLine = s.egressLine := by cases l <;> rfl
@[simp] theorem State.modLink_deskKey (s : State) (l : Link) (f : LinkPort → LinkPort) : (s.modLink l f).deskKey = s.deskKey := by cases l <;> rfl
@[simp] theorem State.modLink_pending (s : State) (l : Link) (f : LinkPort → LinkPort) : (s.modLink l f).pending = s.pending := by cases l <;> rfl

@[simp] theorem State.hunt_lanes (s : State) (l : Link) : (s.hunt l).lanes = s.lanes := by cases l <;> rfl
@[simp] theorem State.hunt_ports (s : State) (l : Link) : (s.hunt l).ports = s.ports := by cases l <;> rfl
@[simp] theorem State.hunt_routing (s : State) (l : Link) : (s.hunt l).routing = s.routing := by cases l <;> rfl
@[simp] theorem State.hunt_cst (s : State) (l : Link) : (s.hunt l).cst = s.cst := by cases l <;> rfl
@[simp] theorem State.hunt_rfu (s : State) (l : Link) : (s.hunt l).rfu = s.rfu := by cases l <;> rfl
@[simp] theorem State.hunt_tmb (s : State) (l : Link) : (s.hunt l).tmb = s.tmb := by cases l <;> rfl
@[simp] theorem State.hunt_ims (s : State) (l : Link) : (s.hunt l).ims = s.ims := by cases l <;> rfl
@[simp] theorem State.hunt_egressLine (s : State) (l : Link) : (s.hunt l).egressLine = s.egressLine := by cases l <;> rfl
@[simp] theorem State.hunt_deskKey (s : State) (l : Link) : (s.hunt l).deskKey = s.deskKey := by cases l <;> rfl
@[simp] theorem State.hunt_pending (s : State) (l : Link) : (s.hunt l).pending = s.pending := by cases l <;> rfl

@[simp] theorem State.countGap_lanes (s : State) (l : Link) : (s.countGap l).lanes = s.lanes := by cases l <;> rfl
@[simp] theorem State.countGap_ports (s : State) (l : Link) : (s.countGap l).ports = s.ports := by cases l <;> rfl
@[simp] theorem State.countGap_routing (s : State) (l : Link) : (s.countGap l).routing = s.routing := by cases l <;> rfl
@[simp] theorem State.countGap_cst (s : State) (l : Link) : (s.countGap l).cst = s.cst := by cases l <;> rfl
@[simp] theorem State.countGap_rfu (s : State) (l : Link) : (s.countGap l).rfu = s.rfu := by cases l <;> rfl
@[simp] theorem State.countGap_tmb (s : State) (l : Link) : (s.countGap l).tmb = s.tmb := by cases l <;> rfl
@[simp] theorem State.countGap_ims (s : State) (l : Link) : (s.countGap l).ims = s.ims := by cases l <;> rfl
@[simp] theorem State.countGap_egressLine (s : State) (l : Link) : (s.countGap l).egressLine = s.egressLine := by cases l <;> rfl
@[simp] theorem State.countGap_deskKey (s : State) (l : Link) : (s.countGap l).deskKey = s.deskKey := by cases l <;> rfl
@[simp] theorem State.countGap_pending (s : State) (l : Link) : (s.countGap l).pending = s.pending := by cases l <;> rfl

@[simp] theorem State.reply_lanes (s : State) (l : Link) (r : Reply) : (s.reply l r).lanes = s.lanes := by cases l <;> rfl
@[simp] theorem State.reply_ports (s : State) (l : Link) (r : Reply) : (s.reply l r).ports = s.ports := by cases l <;> rfl
@[simp] theorem State.reply_routing (s : State) (l : Link) (r : Reply) : (s.reply l r).routing = s.routing := by cases l <;> rfl
@[simp] theorem State.reply_cst (s : State) (l : Link) (r : Reply) : (s.reply l r).cst = s.cst := by cases l <;> rfl
@[simp] theorem State.reply_rfu (s : State) (l : Link) (r : Reply) : (s.reply l r).rfu = s.rfu := by cases l <;> rfl
@[simp] theorem State.reply_tmb (s : State) (l : Link) (r : Reply) : (s.reply l r).tmb = s.tmb := by cases l <;> rfl
@[simp] theorem State.reply_ims (s : State) (l : Link) (r : Reply) : (s.reply l r).ims = s.ims := by cases l <;> rfl
@[simp] theorem State.reply_egressLine (s : State) (l : Link) (r : Reply) : (s.reply l r).egressLine = s.egressLine := by cases l <;> rfl
@[simp] theorem State.reply_deskKey (s : State) (l : Link) (r : Reply) : (s.reply l r).deskKey = s.deskKey := by cases l <;> rfl
@[simp] theorem State.reply_pending (s : State) (l : Link) (r : Reply) : (s.reply l r).pending = s.pending := by cases l <;> rfl

@[simp] theorem State.place_lanes (s : State) (l : Link) (n : Notice) : (s.place l n).lanes = s.lanes := by cases l <;> rfl
@[simp] theorem State.place_ports (s : State) (l : Link) (n : Notice) : (s.place l n).ports = s.ports := by cases l <;> rfl
@[simp] theorem State.place_routing (s : State) (l : Link) (n : Notice) : (s.place l n).routing = s.routing := by cases l <;> rfl
@[simp] theorem State.place_cst (s : State) (l : Link) (n : Notice) : (s.place l n).cst = s.cst := by cases l <;> rfl
@[simp] theorem State.place_rfu (s : State) (l : Link) (n : Notice) : (s.place l n).rfu = s.rfu := by cases l <;> rfl
@[simp] theorem State.place_tmb (s : State) (l : Link) (n : Notice) : (s.place l n).tmb = s.tmb := by cases l <;> rfl
@[simp] theorem State.place_ims (s : State) (l : Link) (n : Notice) : (s.place l n).ims = s.ims := by cases l <;> rfl
@[simp] theorem State.place_egressLine (s : State) (l : Link) (n : Notice) : (s.place l n).egressLine = s.egressLine := by cases l <;> rfl
@[simp] theorem State.place_deskKey (s : State) (l : Link) (n : Notice) : (s.place l n).deskKey = s.deskKey := by cases l <;> rfl
@[simp] theorem State.place_pending (s : State) (l : Link) (n : Notice) : (s.place l n).pending = s.pending := by cases l <;> rfl

/-! ## Fields of a lane under its updates -/

@[simp] theorem LaneState.modBsu_geo (l : LaneState) (g : Bsu → Bsu) : (l.modBsu g).geo = l.geo := rfl
@[simp] theorem LaneState.modBsu_timing (l : LaneState) (g : Bsu → Bsu) : (l.modBsu g).timing = l.timing := rfl
@[simp] theorem LaneState.modBsu_bsu (l : LaneState) (g : Bsu → Bsu) : (l.modBsu g).bsu = g l.bsu := rfl
@[simp] theorem LaneState.modBsu_ot (l : LaneState) (g : Bsu → Bsu) : (l.modBsu g).ot = l.ot := rfl
@[simp] theorem LaneState.modBsu_pq (l : LaneState) (g : Bsu → Bsu) : (l.modBsu g).pq = l.pq := rfl
@[simp] theorem LaneState.modBsu_bc (l : LaneState) (g : Bsu → Bsu) : (l.modBsu g).bc = l.bc := rfl
@[simp] theorem LaneState.modBsu_lsv (l : LaneState) (g : Bsu → Bsu) : (l.modBsu g).lsv = l.lsv := rfl
@[simp] theorem LaneState.modBsu_reported (l : LaneState) (g : Bsu → Bsu) : (l.modBsu g).reported = l.reported := rfl

@[simp] theorem LaneState.modOt_geo (l : LaneState) (g : Ot → Ot) : (l.modOt g).geo = l.geo := rfl
@[simp] theorem LaneState.modOt_timing (l : LaneState) (g : Ot → Ot) : (l.modOt g).timing = l.timing := rfl
@[simp] theorem LaneState.modOt_bsu (l : LaneState) (g : Ot → Ot) : (l.modOt g).bsu = l.bsu := rfl
@[simp] theorem LaneState.modOt_ot (l : LaneState) (g : Ot → Ot) : (l.modOt g).ot = g l.ot := rfl
@[simp] theorem LaneState.modOt_pq (l : LaneState) (g : Ot → Ot) : (l.modOt g).pq = l.pq := rfl
@[simp] theorem LaneState.modOt_bc (l : LaneState) (g : Ot → Ot) : (l.modOt g).bc = l.bc := rfl
@[simp] theorem LaneState.modOt_lsv (l : LaneState) (g : Ot → Ot) : (l.modOt g).lsv = l.lsv := rfl
@[simp] theorem LaneState.modOt_reported (l : LaneState) (g : Ot → Ot) : (l.modOt g).reported = l.reported := rfl

@[simp] theorem LaneState.modPq_geo (l : LaneState) (g : Pq → Pq) : (l.modPq g).geo = l.geo := rfl
@[simp] theorem LaneState.modPq_timing (l : LaneState) (g : Pq → Pq) : (l.modPq g).timing = l.timing := rfl
@[simp] theorem LaneState.modPq_bsu (l : LaneState) (g : Pq → Pq) : (l.modPq g).bsu = l.bsu := rfl
@[simp] theorem LaneState.modPq_ot (l : LaneState) (g : Pq → Pq) : (l.modPq g).ot = l.ot := rfl
@[simp] theorem LaneState.modPq_pq (l : LaneState) (g : Pq → Pq) : (l.modPq g).pq = g l.pq := rfl
@[simp] theorem LaneState.modPq_bc (l : LaneState) (g : Pq → Pq) : (l.modPq g).bc = l.bc := rfl
@[simp] theorem LaneState.modPq_lsv (l : LaneState) (g : Pq → Pq) : (l.modPq g).lsv = l.lsv := rfl
@[simp] theorem LaneState.modPq_reported (l : LaneState) (g : Pq → Pq) : (l.modPq g).reported = l.reported := rfl

@[simp] theorem LaneState.modBc_geo (l : LaneState) (g : Bc → Bc) : (l.modBc g).geo = l.geo := rfl
@[simp] theorem LaneState.modBc_timing (l : LaneState) (g : Bc → Bc) : (l.modBc g).timing = l.timing := rfl
@[simp] theorem LaneState.modBc_bsu (l : LaneState) (g : Bc → Bc) : (l.modBc g).bsu = l.bsu := rfl
@[simp] theorem LaneState.modBc_ot (l : LaneState) (g : Bc → Bc) : (l.modBc g).ot = l.ot := rfl
@[simp] theorem LaneState.modBc_pq (l : LaneState) (g : Bc → Bc) : (l.modBc g).pq = l.pq := rfl
@[simp] theorem LaneState.modBc_bc (l : LaneState) (g : Bc → Bc) : (l.modBc g).bc = g l.bc := rfl
@[simp] theorem LaneState.modBc_lsv (l : LaneState) (g : Bc → Bc) : (l.modBc g).lsv = l.lsv := rfl
@[simp] theorem LaneState.modBc_reported (l : LaneState) (g : Bc → Bc) : (l.modBc g).reported = l.reported := rfl

@[simp] theorem LaneState.modLsv_geo (l : LaneState) (g : Lsv → Lsv) : (l.modLsv g).geo = l.geo := rfl
@[simp] theorem LaneState.modLsv_timing (l : LaneState) (g : Lsv → Lsv) : (l.modLsv g).timing = l.timing := rfl
@[simp] theorem LaneState.modLsv_bsu (l : LaneState) (g : Lsv → Lsv) : (l.modLsv g).bsu = l.bsu := rfl
@[simp] theorem LaneState.modLsv_ot (l : LaneState) (g : Lsv → Lsv) : (l.modLsv g).ot = l.ot := rfl
@[simp] theorem LaneState.modLsv_pq (l : LaneState) (g : Lsv → Lsv) : (l.modLsv g).pq = l.pq := rfl
@[simp] theorem LaneState.modLsv_bc (l : LaneState) (g : Lsv → Lsv) : (l.modLsv g).bc = l.bc := rfl
@[simp] theorem LaneState.modLsv_lsv (l : LaneState) (g : Lsv → Lsv) : (l.modLsv g).lsv = g l.lsv := rfl
@[simp] theorem LaneState.modLsv_reported (l : LaneState) (g : Lsv → Lsv) : (l.modLsv g).reported = l.reported := rfl

/-! ## Work -/

@[simp] theorem Work.mod_lane (w : Work) (g : LaneState → LaneState) : (w.mod g).lane = g w.lane := rfl
@[simp] theorem Work.emit_lane (w : Work) (b : NoticeBody) : (w.emit b).lane = w.lane := rfl
@[simp] theorem Work.mod_creds (w : Work) (g : LaneState → LaneState) : (w.mod g).creds = w.creds := rfl
@[simp] theorem Work.emit_creds (w : Work) (b : NoticeBody) : (w.emit b).creds = w.creds := rfl
@[simp] theorem Work.mod_out (w : Work) (g : LaneState → LaneState) : (w.mod g).out = w.out := rfl
@[simp] theorem Work.emit_out (w : Work) (b : NoticeBody) : (w.emit b).out = w.out ++ [b] := rfl

/-! ## Reaching lanes, ports and links -/

@[simp] theorem State.setLane_lane (s : State) (k : Lane) (l : LaneState) : (s.setLane k l).lane k = l := by
  simp [State.lane, State.setLane, Vector.get_eq_getElem]

theorem State.setLane_lane_of_ne (s : State) {j k : Lane} (l : LaneState) (h : j ≠ k) : (s.setLane k l).lane j = s.lane j := by
  have h' : k.val ≠ j.val := fun e => h (Fin.ext e.symm)
  simp [State.lane, State.setLane, Vector.get_eq_getElem, h']

@[simp] theorem State.modLane_lane (s : State) (k : Lane) (f : LaneState → LaneState) : (s.modLane k f).lane k = f (s.lane k) :=
  State.setLane_lane s k _

theorem State.modLane_lane_of_ne (s : State) {j k : Lane} (f : LaneState → LaneState) (h : j ≠ k) :
    (s.modLane k f).lane j = s.lane j := State.setLane_lane_of_ne s _ h

@[simp] theorem State.setLane_self (s : State) (k : Lane) : s.setLane k (s.lane k) = s := by
  simp [State.setLane, State.lane, Vector.get_eq_getElem]

@[simp] theorem State.setLane_setLane (s : State) (k : Lane) (a b : LaneState) : (s.setLane k a).setLane k b = s.setLane k b := by
  simp [State.setLane]

@[simp] theorem State.modPort_port (s : State) (p : Port) (f : ReaderPort → ReaderPort) : (s.modPort p f).port p = f (s.port p) := by
  simp [State.port, State.modPort, Vector.get_eq_getElem]

theorem State.modPort_port_of_ne (s : State) {p q : Port} (f : ReaderPort → ReaderPort) (h : q ≠ p) :
    (s.modPort p f).port q = s.port q := by
  have h' : p.val ≠ q.val := fun e => h (Fin.ext e.symm)
  simp [State.port, State.modPort, Vector.get_eq_getElem, h']

@[simp] theorem State.modLink_link (s : State) (l : Link) (f : LinkPort → LinkPort) : (s.modLink l f).link l = f (s.link l) := by
  cases l <;> rfl

theorem State.modLink_link_of_ne (s : State) {l m : Link} (f : LinkPort → LinkPort) (h : m ≠ l) :
    (s.modLink l f).link m = s.link m := by
  cases l <;> cases m <;> first | rfl | exact absurd rfl h

end Sys2Proof.Machine
end

