-- ==== Sys2Proof/Laws/Ops.lean ====
section
/-! SUPPORT. What the shared operations can do: posting, the work of an event on one lane, outputs, frames to readers and replies. -/

namespace Sys2Proof.Machine

/-! ## Posting (R181, R183) -/

theorem LinkPort.place_of_room {cap : Nat} {n : Notice} {q : LinkPort} (h : q.queue.length < cap) :
    LinkPort.place cap n q = { q with queue := q.queue ++ [n] } := by simp [LinkPort.place, h]

theorem LinkPort.place_of_full {cap : Nat} {n : Notice} {q : LinkPort} (h : ¬q.queue.length < cap) :
    LinkPort.place cap n q = { q with overflow := true } := by simp [LinkPort.place, h]

theorem LinkPort.place_sameButQueue (cap : Nat) (n : Notice) (q : LinkPort) : q.sameButQueue (LinkPort.place cap n q) := by
  unfold LinkPort.place LinkPort.sameButQueue
  split <;> simp

theorem LinkPort.place_length_le {cap : Nat} {n : Notice} {q : LinkPort} (h : q.queue.length ≤ cap) :
    (LinkPort.place cap n q).queue.length ≤ cap := by
  unfold LinkPort.place
  split
  · simp; omega
  · exact h

theorem LinkPort.sameButQueue_refl (q : LinkPort) : q.sameButQueue q := ⟨rfl, rfl, rfl, rfl, rfl⟩

theorem LinkPort.sameButQueue_trans {a b c : LinkPort} (h : a.sameButQueue b) (g : b.sameButQueue c) : a.sameButQueue c :=
  ⟨g.1.trans h.1, g.2.1.trans h.2.1, g.2.2.1.trans h.2.2.1, g.2.2.2.1.trans h.2.2.2.1, g.2.2.2.2.trans h.2.2.2.2⟩

/-- Posting changes nothing but the two links, and places the same stamped notice by the route of its kind. -/
theorem State.post_eq (s : State) (lane : Nat) (b : NoticeBody) :
    s.post lane b =
      { s with
        site :=
          match s.routing.get b.kind with
          | .site => LinkPort.place 64 (s.stamp lane b) s.site
          | .both => LinkPort.place 64 (s.stamp lane b) s.site
          | .desk => s.site
          | .nowhere => s.site
        desk :=
          match s.routing.get b.kind with
          | .desk => LinkPort.place 32 (s.stamp lane b) s.desk
          | .both => LinkPort.place 32 (s.stamp lane b) s.desk
          | .site => s.desk
          | .nowhere => s.desk } := by
  unfold State.post
  cases s.routing.get b.kind <;> rfl

@[simp] theorem State.post_lanes (s : State) (n : Nat) (b : NoticeBody) : (s.post n b).lanes = s.lanes := by rw [State.post_eq]
@[simp] theorem State.post_ports (s : State) (n : Nat) (b : NoticeBody) : (s.post n b).ports = s.ports := by rw [State.post_eq]
@[simp] theorem State.post_routing (s : State) (n : Nat) (b : NoticeBody) : (s.post n b).routing = s.routing := by rw [State.post_eq]
@[simp] theorem State.post_cst (s : State) (n : Nat) (b : NoticeBody) : (s.post n b).cst = s.cst := by rw [State.post_eq]
@[simp] theorem State.post_rfu (s : State) (n : Nat) (b : NoticeBody) : (s.post n b).rfu = s.rfu := by rw [State.post_eq]
@[simp] theorem State.post_tmb (s : State) (n : Nat) (b : NoticeBody) : (s.post n b).tmb = s.tmb := by rw [State.post_eq]
@[simp] theorem State.post_ims (s : State) (n : Nat) (b : NoticeBody) : (s.post n b).ims = s.ims := by rw [State.post_eq]
@[simp] theorem State.post_egressLine (s : State) (n : Nat) (b : NoticeBody) : (s.post n b).egressLine = s.egressLine := by
  rw [State.post_eq]
@[simp] theorem State.post_deskKey (s : State) (n : Nat) (b : NoticeBody) : (s.post n b).deskKey = s.deskKey := by
  rw [State.post_eq]
@[simp] theorem State.post_pending (s : State) (n : Nat) (b : NoticeBody) : (s.post n b).pending = s.pending := by
  rw [State.post_eq]
@[simp] theorem State.post_lane (s : State) (n : Nat) (b : NoticeBody) (k : Lane) : (s.post n b).lane k = s.lane k := by
  simp [State.lane]
@[simp] theorem State.post_port (s : State) (n : Nat) (b : NoticeBody) (p : Port) : (s.post n b).port p = s.port p := by
  simp [State.port]

theorem State.post_site_sameButQueue (s : State) (n : Nat) (b : NoticeBody) : s.site.sameButQueue (s.post n b).site := by
  rw [State.post_eq]
  cases s.routing.get b.kind <;>
    first | exact LinkPort.place_sameButQueue _ _ _ | exact LinkPort.sameButQueue_refl _

theorem State.post_desk_sameButQueue (s : State) (n : Nat) (b : NoticeBody) : s.desk.sameButQueue (s.post n b).desk := by
  rw [State.post_eq]
  cases s.routing.get b.kind <;>
    first | exact LinkPort.place_sameButQueue _ _ _ | exact LinkPort.sameButQueue_refl _

theorem State.post_queuesBounded {s : State} (h : s.queuesBounded) (n : Nat) (b : NoticeBody) : (s.post n b).queuesBounded := by
  rw [State.post_eq]
  obtain ⟨hs, hd⟩ := h
  constructor <;> cases s.routing.get b.kind <;>
    first | exact LinkPort.place_length_le hs | exact LinkPort.place_length_le hd | exact hs | exact hd

/-- Posting does not see the lanes: it commutes with replacing one. -/
theorem State.post_setLane (s : State) (k : Lane) (l : LaneState) (n : Nat) (b : NoticeBody) :
    (s.setLane k l).post n b = (s.post n b).setLane k l := by
  rw [State.post_eq, State.post_eq]
  rfl

/-- Posting does not see the reader ports: it commutes with changing one. -/
theorem State.post_modPort (s : State) (p : Port) (f : ReaderPort → ReaderPort) (n : Nat) (b : NoticeBody) :
    (s.modPort p f).post n b = (s.post n b).modPort p f := by
  rw [State.post_eq, State.post_eq]
  rfl

@[simp] theorem State.postAll_nil (s : State) (n : Nat) : s.postAll n [] = s := rfl

theorem State.postAll_cons (s : State) (n : Nat) (b : NoticeBody) (bs : List NoticeBody) :
    s.postAll n (b :: bs) = (s.post n b).postAll n bs := rfl

theorem State.postAll_append (s : State) (n : Nat) (as bs : List NoticeBody) :
    s.postAll n (as ++ bs) = (s.postAll n as).postAll n bs := by simp [State.postAll, List.foldl_append]

/-- Posting a list of notices changes nothing but the notice queues. -/
theorem State.postAll_frame (s : State) (n : Nat) (bs : List NoticeBody) :
    (s.postAll n bs).lanes = s.lanes ∧ (s.postAll n bs).ports = s.ports ∧ s.site.sameButQueue (s.postAll n bs).site
      ∧ s.desk.sameButQueue (s.postAll n bs).desk ∧ (s.postAll n bs).routing = s.routing ∧ (s.postAll n bs).cst = s.cst
      ∧ (s.postAll n bs).rfu = s.rfu ∧ (s.postAll n bs).tmb = s.tmb ∧ (s.postAll n bs).ims = s.ims
      ∧ (s.postAll n bs).egressLine = s.egressLine ∧ (s.postAll n bs).deskKey = s.deskKey
      ∧ (s.postAll n bs).pending = s.pending := by
  induction bs generalizing s with
  | nil => exact ⟨rfl, rfl, LinkPort.sameButQueue_refl _, LinkPort.sameButQueue_refl _, rfl, rfl, rfl, rfl, rfl, rfl, rfl, rfl⟩
  | cons b bs ih =>
    rw [State.postAll_cons]
    obtain ⟨h1, h2, h3, h4, h5, h6, h7, h8, h9, h10, h11, h12⟩ := ih (s.post n b)
    exact ⟨by simp [h1], by simp [h2], LinkPort.sameButQueue_trans (State.post_site_sameButQueue s n b) h3,
      LinkPort.sameButQueue_trans (State.post_desk_sameButQueue s n b) h4, by simp [h5], by simp [h6], by simp [h7], by simp [h8],
      by simp [h9], by simp [h10], by simp [h11], by simp [h12]⟩

@[simp] theorem State.postAll_lanes (s : State) (n : Nat) (bs : List NoticeBody) : (s.postAll n bs).lanes = s.lanes :=
  (s.postAll_frame n bs).1
@[simp] theorem State.postAll_ports (s : State) (n : Nat) (bs : List NoticeBody) : (s.postAll n bs).ports = s.ports :=
  (s.postAll_frame n bs).2.1
@[simp] theorem State.postAll_routing (s : State) (n : Nat) (bs : List NoticeBody) : (s.postAll n bs).routing = s.routing :=
  (s.postAll_frame n bs).2.2.2.2.1
@[simp] theorem State.postAll_cst (s : State) (n : Nat) (bs : List NoticeBody) : (s.postAll n bs).cst = s.cst :=
  (s.postAll_frame n bs).2.2.2.2.2.1
@[simp] theorem State.postAll_rfu (s : State) (n : Nat) (bs : List NoticeBody) : (s.postAll n bs).rfu = s.rfu :=
  (s.postAll_frame n bs).2.2.2.2.2.2.1
@[simp] theorem State.postAll_tmb (s : State) (n : Nat) (bs : List NoticeBody) : (s.postAll n bs).tmb = s.tmb :=
  (s.postAll_frame n bs).2.2.2.2.2.2.2.1
@[simp] theorem State.postAll_ims (s : State) (n : Nat) (bs : List NoticeBody) : (s.postAll n bs).ims = s.ims :=
  (s.postAll_frame n bs).2.2.2.2.2.2.2.2.1
@[simp] theorem State.postAll_egressLine (s : State) (n : Nat) (bs : List NoticeBody) :
    (s.postAll n bs).egressLine = s.egressLine := (s.postAll_frame n bs).2.2.2.2.2.2.2.2.2.1
@[simp] theorem State.postAll_deskKey (s : State) (n : Nat) (bs : List NoticeBody) : (s.postAll n bs).deskKey = s.deskKey :=
  (s.postAll_frame n bs).2.2.2.2.2.2.2.2.2.2.1
@[simp] theorem State.postAll_pending (s : State) (n : Nat) (bs : List NoticeBody) : (s.postAll n bs).pending = s.pending :=
  (s.postAll_frame n bs).2.2.2.2.2.2.2.2.2.2.2
@[simp] theorem State.postAll_lane (s : State) (n : Nat) (bs : List NoticeBody) (k : Lane) :
    (s.postAll n bs).lane k = s.lane k := by simp [State.lane]
@[simp] theorem State.postAll_port (s : State) (n : Nat) (bs : List NoticeBody) (p : Port) :
    (s.postAll n bs).port p = s.port p := by simp [State.port]

theorem State.postAll_queuesBounded {s : State} (h : s.queuesBounded) (n : Nat) (bs : List NoticeBody) :
    (s.postAll n bs).queuesBounded := by
  induction bs generalizing s with
  | nil => exact h
  | cons b bs ih => exact ih (State.post_queuesBounded h n b)

theorem State.postAll_setLane (s : State) (k : Lane) (l : LaneState) (n : Nat) (bs : List NoticeBody) :
    (s.setLane k l).postAll n bs = (s.postAll n bs).setLane k l := by
  induction bs generalizing s with
  | nil => rfl
  | cons b bs ih => rw [State.postAll_cons, State.postAll_cons, State.post_setLane, ih]

/-! ## An event on one lane -/

@[simp] theorem State.laneEvent_lane (s : State) (k : Lane) (l : LaneState) (bs : List NoticeBody) :
    (s.laneEvent k l bs).lane k = l := by simp [State.laneEvent]

theorem State.laneEvent_lane_of_ne (s : State) {j k : Lane} (l : LaneState) (bs : List NoticeBody) (h : j ≠ k) :
    (s.laneEvent k l bs).lane j = s.lane j := by simp [State.laneEvent, State.setLane_lane_of_ne s l h]

/-- An event on a lane changes that lane, the credential records, and the notice queues. -/
theorem State.absorb_eq (s : State) (k : Lane) (w : Work) :
    s.absorb k w = (s.setCreds w.creds).laneEvent k w.lane w.out := rfl

/-- An event on a lane that leaves the credential records alone, indicators included, is a lane event. -/
theorem State.absorb_refresh (s : State) (k : Lane) (w : Work) (h : w.creds = s.cst.creds) :
    (s.absorb k w).refresh k = s.laneEvent k (w.lane.withOutputs s.rfu.slots k) w.out := by
  have hs : s.setCreds w.creds = s := by rw [h]; rfl
  rw [State.absorb_eq, hs]
  unfold State.laneEvent
  rw [State.postAll_setLane, State.postAll_setLane]
  simp [State.refresh, State.modLane]

theorem State.runLane_eq (s : State) (k : Lane) (f : Env → Work → Work) :
    s.runLane k f = s.absorb k (f (s.env k) (s.work k)) := rfl

@[simp] theorem State.work_lane (s : State) (k : Lane) : (s.work k).lane = s.lane k := rfl
@[simp] theorem State.work_creds (s : State) (k : Lane) : (s.work k).creds = s.cst.creds := rfl
@[simp] theorem State.work_out (s : State) (k : Lane) : (s.work k).out = [] := rfl
@[simp] theorem State.env_now (s : State) (k : Lane) : (s.env k).now = s.tmb.ms := rfl
@[simp] theorem State.env_clock (s : State) (k : Lane) : (s.env k).clock = s.clock := rfl
@[simp] theorem State.env_lane (s : State) (k : Lane) : (s.env k).lane = k := rfl

/-! ## Buzzer and indicators (R100, R102) -/

/-- The outputs are worked out from the rest of the lane: working them out twice changes nothing more. -/
@[simp] theorem LaneState.withOutputs_withOutputs (slots : List Slot) (k : Lane) (l : LaneState) :
    (l.withOutputs slots k).withOutputs slots k = l.withOutputs slots k := rfl

@[simp] theorem LaneState.withOutputs_geo (slots : List Slot) (k : Lane) (l : LaneState) : (l.withOutputs slots k).geo = l.geo := rfl
@[simp] theorem LaneState.withOutputs_timing (slots : List Slot) (k : Lane) (l : LaneState) :
    (l.withOutputs slots k).timing = l.timing := rfl
@[simp] theorem LaneState.withOutputs_bsu (slots : List Slot) (k : Lane) (l : LaneState) : (l.withOutputs slots k).bsu = l.bsu := rfl
@[simp] theorem LaneState.withOutputs_ot (slots : List Slot) (k : Lane) (l : LaneState) : (l.withOutputs slots k).ot = l.ot := rfl
@[simp] theorem LaneState.withOutputs_pq (slots : List Slot) (k : Lane) (l : LaneState) : (l.withOutputs slots k).pq = l.pq := rfl
@[simp] theorem LaneState.withOutputs_bc (slots : List Slot) (k : Lane) (l : LaneState) : (l.withOutputs slots k).bc = l.bc := rfl
@[simp] theorem LaneState.withOutputs_reported (slots : List Slot) (k : Lane) (l : LaneState) :
    (l.withOutputs slots k).reported = l.reported := rfl

@[simp] theorem State.refresh_lane (s : State) (k : Lane) :
    (s.refresh k).lane k = (s.lane k).withOutputs s.rfu.slots k := by simp [State.refresh]

theorem State.refresh_lane_of_ne (s : State) {j k : Lane} (h : j ≠ k) : (s.refresh k).lane j = s.lane j :=
  State.modLane_lane_of_ne s _ h

/-! ## Frames to readers (R170) and replies (R176) -/

theorem State.sendReader_port (s : State) (p : Port) (f : ReaderFrame) :
    (s.sendReader p f).port p =
      if (s.port p).tx.length < 4 then { s.port p with tx := (s.port p).tx ++ [f] }
      else { s.port p with dropped := (s.port p).dropped + 1 } := by
  rw [State.sendReader, State.modPort_port]
  rfl

theorem State.sendReader_tx_length_le {s : State} {p : Port} {f : ReaderFrame} (h : (s.port p).tx.length ≤ 4) :
    ((s.sendReader p f).port p).tx.length ≤ 4 := by
  rw [State.sendReader_port]
  split
  · simp; omega
  · exact h

@[simp] theorem State.reply_lane (s : State) (l : Link) (r : Reply) (k : Lane) : (s.reply l r).lane k = s.lane k := by
  cases l <;> rfl

@[simp] theorem State.hunt_lane (s : State) (l : Link) (k : Lane) : (s.hunt l).lane k = s.lane k := by cases l <;> rfl

@[simp] theorem State.hunt_port (s : State) (l : Link) (p : Port) : (s.hunt l).port p = s.port p := by cases l <;> rfl

/-- A request that reaches a link with room is judged with the receiver hunting and answered; with a full list it is lost (R176). -/
theorem State.take_of_room {s : State} {l : Link} {tag : Byte} {kind : Nat} {judge : State → Judged}
    (h : (s.link l).tx.length < 4) : s.take l tag kind judge = (judge (s.hunt l)).send l tag kind := by
  have : s.txFull l = false := decide_eq_false (by simpa [Config.linkTxCap] using h)
  simp [State.take, this]

theorem State.take_of_full {s : State} {l : Link} {tag : Byte} {kind : Nat} {judge : State → Judged}
    (h : 4 ≤ (s.link l).tx.length) : s.take l tag kind judge = (s.hunt l).countGap l := by
  have : s.txFull l = true := decide_eq_true (by simpa [Config.linkTxCap] using h)
  simp [State.take, this]

end Sys2Proof.Machine
end

