-- ==== Sys2Proof/Laws/Barrier.lean ====
section
/-! SUPPORT. The Barrier Controller's shared operations: taking a state, the two conditions, and what a motion's beginning leaves
alone. -/

namespace Sys2Proof.Machine

/-! ## Taking a state (R68, R108) -/

@[simp] theorem LaneState.setBarrier_state (b : Barrier) (l : LaneState) : (l.setBarrier b).bc.state = b := by cases b <;> rfl
@[simp] theorem LaneState.setBarrier_driveOpen (b : Barrier) (l : LaneState) :
    (l.setBarrier b).bc.driveOpen = decide (b = .opening) := by cases b <;> rfl
@[simp] theorem LaneState.setBarrier_driveShut (b : Barrier) (l : LaneState) :
    (l.setBarrier b).bc.driveShut = decide (b = .shutting) := by cases b <;> rfl
@[simp] theorem LaneState.setBarrier_barrierMark (b : Barrier) (l : LaneState) :
    (l.setBarrier b).lsv.barrierMark = decide (b = .stalled) := by cases b <;> rfl
@[simp] theorem LaneState.setBarrier_geo (b : Barrier) (l : LaneState) : (l.setBarrier b).geo = l.geo := by cases b <;> rfl
@[simp] theorem LaneState.setBarrier_timing (b : Barrier) (l : LaneState) : (l.setBarrier b).timing = l.timing := by
  cases b <;> rfl
@[simp] theorem LaneState.setBarrier_bsu (b : Barrier) (l : LaneState) : (l.setBarrier b).bsu = l.bsu := by cases b <;> rfl
@[simp] theorem LaneState.setBarrier_ot (b : Barrier) (l : LaneState) : (l.setBarrier b).ot = l.ot := by cases b <;> rfl
@[simp] theorem LaneState.setBarrier_pq (b : Barrier) (l : LaneState) : (l.setBarrier b).pq = l.pq := by cases b <;> rfl
@[simp] theorem LaneState.setBarrier_reported (b : Barrier) (l : LaneState) : (l.setBarrier b).reported = l.reported := by
  cases b <;> rfl
@[simp] theorem LaneState.setBarrier_mode (b : Barrier) (l : LaneState) : (l.setBarrier b).lsv.mode = l.lsv.mode := by
  cases b <;> rfl
@[simp] theorem LaneState.setBarrier_policy (b : Barrier) (l : LaneState) : (l.setBarrier b).lsv.policy = l.lsv.policy := by
  cases b <;> rfl
@[simp] theorem LaneState.setBarrier_alarms (b : Barrier) (l : LaneState) : (l.setBarrier b).lsv.alarms = l.lsv.alarms := by
  cases b <;> rfl
@[simp] theorem LaneState.setBarrier_openLimit (b : Barrier) (l : LaneState) : (l.setBarrier b).bc.openLimit = l.bc.openLimit := by
  cases b <;> rfl
@[simp] theorem LaneState.setBarrier_shutLimit (b : Barrier) (l : LaneState) : (l.setBarrier b).bc.shutLimit = l.bc.shutLimit := by
  cases b <;> rfl
@[simp] theorem LaneState.setBarrier_obstruct (b : Barrier) (l : LaneState) : (l.setBarrier b).bc.obstruct = l.bc.obstruct := by
  cases b <;> rfl

@[simp] theorem LaneState.setBarrier_posture (b : Barrier) (l : LaneState) : (l.setBarrier b).bc.posture = l.bc.posture := by
  cases b <;> rfl

/-! ## The fault posture in force (Table 4-2) -/

@[simp] theorem LaneState.takePosture_posture (l : LaneState) : l.takePosture.bc.posture = l.timing.posture := rfl
@[simp] theorem LaneState.takePosture_state (l : LaneState) : l.takePosture.bc.state = l.bc.state := rfl
@[simp] theorem LaneState.takePosture_geo (l : LaneState) : l.takePosture.geo = l.geo := rfl
@[simp] theorem LaneState.takePosture_timing (l : LaneState) : l.takePosture.timing = l.timing := rfl
@[simp] theorem LaneState.takePosture_bsu (l : LaneState) : l.takePosture.bsu = l.bsu := rfl
@[simp] theorem LaneState.takePosture_ot (l : LaneState) : l.takePosture.ot = l.ot := rfl
@[simp] theorem LaneState.takePosture_pq (l : LaneState) : l.takePosture.pq = l.pq := rfl
@[simp] theorem LaneState.takePosture_lsv (l : LaneState) : l.takePosture.lsv = l.lsv := rfl
@[simp] theorem LaneState.takePosture_reported (l : LaneState) : l.takePosture.reported = l.reported := rfl

/-- The shut condition does not read the fault posture. -/
@[simp] theorem LaneState.takePosture_failedPoints (l : LaneState) : l.takePosture.failedPoints = l.failedPoints := rfl

/-! ## The conditions (R73, R75) -/

/-- A point of Table 4-4 fails exactly when it stands in the list of failed points. -/
theorem LaneState.shutCondition_iff (l : LaneState) :
    l.shutCondition = true ↔
      l.readyQueued = false ∧ l.bsu.result.guardOccupied = false ∧ l.ot.untracked = false
        ∧ l.ot.tracks.any (holdsOpen l.geo) = false ∧ (l.assessments.any fun a => !a.feasible) = false ∧ l.sensor = false
        ∧ l.bc.jamHoldEnd.isSome = false := by
  unfold LaneState.shutCondition LaneState.failedPoints
  simp [List.isEmpty_iff]

/-- While the shut condition holds in a mode in which it is evaluated, the open condition does not hold. -/
theorem LaneState.openCondition_false_of_shutCondition {l : LaneState} (h : l.shutCondition = true)
    (m : shutMode l.lsv.mode = true) : l.openCondition = false := by
  obtain ⟨h1, _, _, _, _, h6, _⟩ := l.shutCondition_iff.mp h
  have hm : l.lsv.mode ≠ .egress := by
    intro e
    rw [e] at m
    exact absurd m (by decide)
  simp [LaneState.openCondition, h1, h6, hm]

theorem LaneState.shutCondition_iff_failedPoints (l : LaneState) : l.shutCondition = true ↔ l.failedPoints = [] := by
  simp [LaneState.shutCondition]

/-! ## Motions (R70, R73, R75) -/

/-- What a motion's beginning or end leaves alone: everything of the lane but its Barrier Controller and Lane Supervisor; of those the
levels of the inputs, the mode and the policy; and the credential table. -/
def Work.barrierFrame (w v : Work) : Prop :=
  v.lane.geo = w.lane.geo ∧ v.lane.timing = w.lane.timing ∧ v.lane.bsu = w.lane.bsu ∧ v.lane.ot = w.lane.ot
    ∧ v.lane.pq = w.lane.pq ∧ v.lane.lsv.mode = w.lane.lsv.mode ∧ v.lane.lsv.policy = w.lane.lsv.policy
    ∧ v.lane.bc.openLimit = w.lane.bc.openLimit ∧ v.lane.bc.shutLimit = w.lane.bc.shutLimit
    ∧ v.lane.bc.obstruct = w.lane.bc.obstruct ∧ v.lane.reported = w.lane.reported ∧ v.creds = w.creds

theorem Work.barrierFrame_refl (w : Work) : w.barrierFrame w := ⟨rfl, rfl, rfl, rfl, rfl, rfl, rfl, rfl, rfl, rfl, rfl, rfl⟩

theorem Work.barrierFrame_trans {a b c : Work} (h : a.barrierFrame b) (g : b.barrierFrame c) : a.barrierFrame c := by
  obtain ⟨h1, h2, h3, h4, h5, h6, h7, h8, h9, h10, h11, h12⟩ := h
  obtain ⟨g1, g2, g3, g4, g5, g6, g7, g8, g9, g10, g11, g12⟩ := g
  exact ⟨g1.trans h1, g2.trans h2, g3.trans h3, g4.trans h4, g5.trans h5, g6.trans h6, g7.trans h7, g8.trans h8, g9.trans h9,
    g10.trans h10, g11.trans h11, g12.trans h12⟩

theorem clearJam_frame (w : Work) : w.barrierFrame (clearJam w) := by
  unfold clearJam
  dsimp only
  split <;> exact ⟨rfl, rfl, rfl, rfl, rfl, rfl, rfl, rfl, rfl, rfl, rfl, rfl⟩

theorem arriveShut_frame (w : Work) : w.barrierFrame (arriveShut w) := by
  refine Work.barrierFrame_trans ?_ (clearJam_frame _)
  simp [Work.barrierFrame, LaneState.modBc]

theorem beginShutting_frame (e : Env) (w : Work) : w.barrierFrame (beginShutting e w) := by
  unfold beginShutting
  dsimp only
  split
  · refine Work.barrierFrame_trans ?_ (arriveShut_frame _)
    simp [Work.barrierFrame, LaneState.modBc]
  · simp [Work.barrierFrame, LaneState.modBc]

theorem evalShut_frame (e : Env) (w : Work) : w.barrierFrame (evalShut e w) := by
  unfold evalShut
  split
  · dsimp only
    split
    · refine Work.barrierFrame_trans ?_ (beginShutting_frame e _)
      exact ⟨rfl, rfl, rfl, rfl, rfl, rfl, rfl, rfl, rfl, rfl, rfl, rfl⟩
    · exact ⟨rfl, rfl, rfl, rfl, rfl, rfl, rfl, rfl, rfl, rfl, rfl, rfl⟩
  · exact w.barrierFrame_refl

theorem arriveOpen_frame (e : Env) (w : Work) : w.barrierFrame (arriveOpen e w) := by
  unfold arriveOpen
  refine Work.barrierFrame_trans ?_ (evalShut_frame e _)
  dsimp only [Work.mod]
  split <;> simp [Work.barrierFrame, LaneState.modBc, LaneState.startJamHold]

theorem beginOpening_frame (e : Env) (w : Work) : w.barrierFrame (beginOpening e w) := by
  unfold beginOpening
  dsimp only
  split
  · refine Work.barrierFrame_trans ?_ (arriveOpen_frame e _)
    simp [Work.barrierFrame, LaneState.modBc]
  · simp [Work.barrierFrame, LaneState.modBc]

theorem evalOpen_frame (e : Env) (w : Work) : w.barrierFrame (evalOpen e w) := by
  unfold evalOpen
  split
  · exact w.barrierFrame_refl
  · split
    · split
      · exact beginOpening_frame e w
      · exact w.barrierFrame_refl
    · split
      · exact beginOpening_frame e w
      · exact w.barrierFrame_refl
    all_goals exact w.barrierFrame_refl

/-- A shut condition that fails, or an obstructed or unlit lane, moves no leaf: the barrier stays OPEN and posts nothing. -/
theorem evalShut_stays {e : Env} {w : Work} (h : w.lane.failedPoints ≠ [] ∨ w.lane.bc.obstruct = true) :
    (evalShut e w).lane.bc.state = w.lane.bc.state ∧ (evalShut e w).out = w.out := by
  have c : (w.lane.shutCondition && !w.lane.bc.obstruct) = false := by
    rcases h with h | h
    · have : w.lane.shutCondition = false := by
        cases hc : w.lane.shutCondition
        · rfl
        · exact absurd (w.lane.shutCondition_iff_failedPoints.mp hc) h
      simp [this]
    · simp [h]
  unfold evalShut
  split
  · dsimp only
    rw [c]
    exact ⟨rfl, rfl⟩
  · exact ⟨rfl, rfl⟩

/-- The drives of the lane at work follow its barrier state (R68). -/
def Work.driven (w : Work) : Prop :=
  w.lane.bc.driveOpen = decide (w.lane.bc.state = .opening) ∧ w.lane.bc.driveShut = decide (w.lane.bc.state = .shutting)

theorem clearJam_driven {w : Work} (h : w.driven) : (clearJam w).driven := by
  unfold clearJam
  dsimp only
  split <;> exact h

theorem arriveShut_driven (w : Work) : (arriveShut w).driven := clearJam_driven ⟨rfl, rfl⟩

theorem beginShutting_driven (e : Env) (w : Work) : (beginShutting e w).driven := by
  unfold beginShutting
  dsimp only
  split
  · exact arriveShut_driven _
  · exact ⟨rfl, rfl⟩

theorem evalShut_driven (e : Env) {w : Work} (h : w.driven) : (evalShut e w).driven := by
  unfold evalShut
  split
  · dsimp only
    split
    · exact beginShutting_driven e _
    · exact h
  · exact h

theorem arriveOpen_driven (e : Env) (w : Work) : (arriveOpen e w).driven := by
  unfold arriveOpen
  refine evalShut_driven e ?_
  dsimp only [Work.mod]
  split <;> exact ⟨rfl, rfl⟩

theorem beginOpening_driven (e : Env) (w : Work) : (beginOpening e w).driven := by
  unfold beginOpening
  dsimp only
  split
  · exact arriveOpen_driven e _
  · exact ⟨rfl, rfl⟩

theorem evalOpen_driven (e : Env) {w : Work} (h : w.driven) : (evalOpen e w).driven := by
  unfold evalOpen
  split
  · exact h
  · split
    · split
      · exact beginOpening_driven e w
      · exact h
    · split
      · exact beginOpening_driven e w
      · exact h
    all_goals exact h

end Sys2Proof.Machine
end

