-- ==== Sys2Proof/Laws/Credentials.lean ====
section
/-! SUPPORT. The credential table: inserting and dropping keep its order, and what a record's number finds afterwards (R126). -/

namespace Sys2Proof.Machine

/-- Strictly ascending order, as a fact about all pairs. -/
theorem ascending_iff (cs : List Cred) : ascending cs = true ↔ cs.Pairwise fun a b => a.number < b.number := by
  induction cs with
  | nil => simp [ascending]
  | cons x cs ih =>
    cases cs with
    | nil => simp [ascending]
    | cons y cs =>
      have step : ascending (x :: y :: cs) = (decide (x.number < y.number) && ascending (y :: cs)) := rfl
      rw [step, Bool.and_eq_true, decide_eq_true_eq, ih]
      constructor
      · rintro ⟨hxy, hp⟩
        refine List.pairwise_cons.mpr ⟨?_, hp⟩
        intro a ha
        rcases List.mem_cons.mp ha with rfl | h
        · exact hxy
        · exact Nat.lt_trans hxy ((List.pairwise_cons.mp hp).1 a h)
      · intro hp
        exact ⟨(List.pairwise_cons.mp hp).1 y (List.mem_cons_self ..), (List.pairwise_cons.mp hp).2⟩

theorem mem_insertCred {c x : Cred} {cs : List Cred} (h : x ∈ insertCred c cs) : x = c ∨ x ∈ cs := by
  induction cs with
  | nil => simpa [insertCred] using h
  | cons y cs ih =>
    unfold insertCred at h
    split at h
    · rcases List.mem_cons.mp h with rfl | h
      · exact .inr (List.mem_cons_self ..)
      · rcases ih h with h | h
        · exact .inl h
        · exact .inr (List.mem_cons_of_mem _ h)
    · split at h
      · rcases List.mem_cons.mp h with rfl | h
        · exact .inl rfl
        · exact .inr (List.mem_cons_of_mem _ h)
      · rcases List.mem_cons.mp h with rfl | h
        · exact .inl rfl
        · exact .inr h

theorem insertCred_length_le (c : Cred) (cs : List Cred) : (insertCred c cs).length ≤ cs.length + 1 := by
  induction cs with
  | nil => simp [insertCred]
  | cons y cs ih =>
    unfold insertCred
    split
    · simpa using ih
    · split <;> simp

theorem insertCred_ascending (c : Cred) {cs : List Cred} (h : ascending cs = true) : ascending (insertCred c cs) = true := by
  rw [ascending_iff] at h ⊢
  induction cs with
  | nil => simp [insertCred]
  | cons y cs ih =>
    obtain ⟨h1, h2⟩ := List.pairwise_cons.mp h
    unfold insertCred
    split
    · rename_i hy
      refine List.pairwise_cons.mpr ⟨?_, ih h2⟩
      intro a ha
      rcases mem_insertCred ha with rfl | ha
      · exact hy
      · exact h1 a ha
    · split
      · rename_i hy
        refine List.pairwise_cons.mpr ⟨?_, h2⟩
        intro a ha
        have := h1 a ha
        omega
      · rename_i hlt hne
        refine List.pairwise_cons.mpr ⟨?_, h⟩
        intro a ha
        rcases List.mem_cons.mp ha with rfl | ha
        · omega
        · have := h1 a ha
          omega

theorem dropCred_ascending (n : Nat) {cs : List Cred} (h : ascending cs = true) : ascending (dropCred n cs) = true := by
  rw [ascending_iff] at h ⊢
  exact h.filter _

theorem dropCred_length_le (n : Nat) (cs : List Cred) : (dropCred n cs).length ≤ cs.length := List.length_filter_le _ _

/-- Changing records without changing a number keeps the order. -/
theorem map_ascending {f : Cred → Cred} (hf : ∀ c, (f c).number = c.number) {cs : List Cred} (h : ascending cs = true) :
    ascending (cs.map f) = true := by
  rw [ascending_iff] at h ⊢
  rw [List.pairwise_map]
  simpa only [hf] using h

end Sys2Proof.Machine
end

