-- ==== Sys2Proof/Laws/Memory.lean ====
section
/-! SUPPORT. The serial flash: every operation keeps the canonical form, and what a byte reads as after a write. -/

namespace Sys2Proof.Machine

/-- The canonical form, as a fact about all cells: addresses strictly rising, each below the flash's size, no cell erased. -/
theorem Memory.wf_iff (m : Memory) :
    m.wf = true ↔ m.Pairwise (fun a b => a.1 < b.1) ∧ ∀ c ∈ m, c.1 < Config.flashSize ∧ c.2 ≠ 0xFF#8 := by
  induction m with
  | nil => simp [Memory.wf]
  | cons c m ih =>
    obtain ⟨x, b⟩ := c
    cases m with
    | nil => simp [Memory.wf]
    | cons d m =>
      obtain ⟨y, e⟩ := d
      have step : Memory.wf ((x, b) :: (y, e) :: m) = (decide (x < y) && decide (b ≠ 0xFF#8) && Memory.wf ((y, e) :: m)) := rfl
      rw [step, Bool.and_eq_true, Bool.and_eq_true, decide_eq_true_eq, decide_eq_true_eq, ih]
      constructor
      · rintro ⟨⟨hxy, hb⟩, hp, hc⟩
        refine ⟨List.pairwise_cons.mpr ⟨?_, hp⟩, ?_⟩
        · intro a ha
          rcases List.mem_cons.mp ha with rfl | h
          · exact hxy
          · exact Nat.lt_trans hxy ((List.pairwise_cons.mp hp).1 a h)
        · intro a ha
          rcases List.mem_cons.mp ha with rfl | h
          · exact ⟨Nat.lt_trans hxy (hc (y, e) (List.mem_cons_self ..)).1, hb⟩
          · exact hc a h
      · rintro ⟨hp, hc⟩
        obtain ⟨h1, h2⟩ := List.pairwise_cons.mp hp
        exact ⟨⟨h1 (y, e) (List.mem_cons_self ..), (hc (x, b) (List.mem_cons_self ..)).2⟩, h2,
          fun a ha => hc a (List.mem_cons_of_mem _ ha)⟩

theorem Memory.wf_nil : Memory.wf [] = true := rfl

theorem Memory.wf_tail {c : Host.Cell} {m : Memory} (h : Memory.wf (c :: m) = true) : Memory.wf m = true := by
  rw [Memory.wf_iff] at h ⊢
  exact ⟨(List.pairwise_cons.mp h.1).2, fun a ha => h.2 a (List.mem_cons_of_mem _ ha)⟩

/-- A cell of the memory after a put is the one written or was there before. -/
theorem Memory.mem_put {a : Nat} {b : Byte} {m : Memory} {c : Host.Cell} (h : c ∈ m.put a b) :
    (c = (a, b) ∧ b ≠ 0xFF#8) ∨ c ∈ m := by
  induction m with
  | nil =>
    unfold Memory.put at h
    split at h
    · simp at h
    · rename_i hb
      exact .inl ⟨by simpa using h, hb⟩
  | cons d m ih =>
    obtain ⟨x, y⟩ := d
    unfold Memory.put at h
    split at h
    · split at h
      · exact .inr h
      · rename_i hb
        rcases List.mem_cons.mp h with rfl | h
        · exact .inl ⟨rfl, hb⟩
        · exact .inr h
    · split at h
      · split at h
        · exact .inr (List.mem_cons_of_mem _ h)
        · rename_i hb
          rcases List.mem_cons.mp h with rfl | h
          · exact .inl ⟨rfl, hb⟩
          · exact .inr (List.mem_cons_of_mem _ h)
      · rcases List.mem_cons.mp h with rfl | h
        · exact .inr (List.mem_cons_self ..)
        · rcases ih h with h | h
          · exact .inl h
          · exact .inr (List.mem_cons_of_mem _ h)

theorem Memory.put_wf {a : Nat} (b : Byte) {m : Memory} (h : m.wf = true) (ha : a < Config.flashSize) :
    (m.put a b).wf = true := by
  induction m with
  | nil =>
    unfold Memory.put
    split
    · rfl
    · rename_i hb
      simp [Memory.wf, ha, hb]
  | cons d m ih =>
    obtain ⟨x, y⟩ := d
    obtain ⟨hp, hc⟩ := (Memory.wf_iff _).mp h
    obtain ⟨h1, h2⟩ := List.pairwise_cons.mp hp
    unfold Memory.put
    split
    · rename_i hax
      split
      · exact h
      · rename_i hb
        rw [Memory.wf_iff]
        refine ⟨List.pairwise_cons.mpr ⟨?_, hp⟩, ?_⟩
        · intro c hcm
          rcases List.mem_cons.mp hcm with rfl | hm
          · exact hax
          · exact Nat.lt_trans hax (h1 c hm)
        · intro c hcm
          rcases List.mem_cons.mp hcm with rfl | hm
          · exact ⟨ha, hb⟩
          · exact hc c hm
    · split
      · rename_i hax
        subst hax
        split
        · exact Memory.wf_tail h
        · rename_i hb
          rw [Memory.wf_iff]
          refine ⟨List.pairwise_cons.mpr ⟨h1, h2⟩, ?_⟩
          intro c hcm
          rcases List.mem_cons.mp hcm with rfl | hm
          · exact ⟨ha, hb⟩
          · exact hc c (List.mem_cons_of_mem _ hm)
      · rename_i hlt hne
        obtain ⟨g1, g2⟩ := (Memory.wf_iff _).mp (ih (Memory.wf_tail h))
        rw [Memory.wf_iff]
        refine ⟨List.pairwise_cons.mpr ⟨?_, g1⟩, ?_⟩
        · intro c hcm
          rcases Memory.mem_put hcm with ⟨rfl, _⟩ | hm
          · change x < a
            omega
          · exact h1 c hm
        · intro c hcm
          rcases List.mem_cons.mp hcm with rfl | hm
          · exact hc _ (List.mem_cons_self ..)
          · exact g2 c hm

theorem Memory.write_wf (a : Nat) (b : Byte) {m : Memory} (h : m.wf = true) : (m.write a b).wf = true := by
  unfold Memory.write
  split
  · rename_i ha
    exact Memory.put_wf b h ha
  · exact h

theorem Memory.writeBytes_wf (a : Nat) (bs : List Byte) {m : Memory} (h : m.wf = true) : (m.writeBytes a bs).wf = true := by
  induction bs generalizing a m with
  | nil => exact h
  | cons b bs ih => exact ih (a + 1) (Memory.write_wf a b h)

theorem Memory.writeCells_wf (cells : List Host.Cell) {m : Memory} (h : m.wf = true) : (m.writeCells cells).wf = true := by
  unfold Memory.writeCells
  induction cells generalizing m with
  | nil => exact h
  | cons c cs ih => exact ih (Memory.write_wf c.1 c.2 h)

theorem Memory.filter_wf (f : Host.Cell → Bool) {m : Memory} (h : m.wf = true) : Memory.wf (m.filter f) = true := by
  rw [Memory.wf_iff] at h ⊢
  exact ⟨h.1.filter f, fun c hc => h.2 c (List.mem_of_mem_filter hc)⟩

theorem Memory.eraseFirst_wf (n : Nat) {m : Memory} (h : m.wf = true) : (m.eraseFirst n).wf = true :=
  Memory.filter_wf _ h

theorem Memory.reset_wf : State.reset.ims.flash.wf = true := rfl

/-! ## Reading after a write (R190) -/

/-- A position below every listed one reads erased. -/
theorem Memory.read_of_lt {a : Nat} {m : Memory} (h : ∀ c ∈ m, a < c.1) : m.read a = 0xFF#8 := by
  induction m with
  | nil => rfl
  | cons d m ih =>
    have hd := h d (List.mem_cons_self ..)
    have : d.1 ≠ a := by omega
    obtain ⟨x, y⟩ := d
    simp only [Memory.read]
    rw [if_neg this]
    exact ih fun c hc => h c (List.mem_cons_of_mem _ hc)

/-- A put changes the byte at its position and no other. -/
theorem Memory.read_put {m : Memory} (h : m.wf = true) (a : Nat) (b : Byte) (i : Nat) :
    (m.put a b).read i = if i = a then b else m.read i := by
  induction m with
  | nil =>
    unfold Memory.put
    split
    · rename_i hb
      simp [Memory.read, hb]
    · simp only [Memory.read]
      by_cases hi : i = a
      · simp [hi]
      · simp [hi, Ne.symm hi]
  | cons d m ih =>
    obtain ⟨x, y⟩ := d
    obtain ⟨hp, _⟩ := (Memory.wf_iff _).mp h
    have h1 := (List.pairwise_cons.mp hp).1
    have below : ∀ j, j ≤ x → Memory.read j m = 0xFF#8 := fun j hj =>
      Memory.read_of_lt fun c hc => Nat.lt_of_le_of_lt hj (h1 c hc)
    unfold Memory.put
    split
    · rename_i hax
      split
      · rename_i hb
        by_cases hi : i = a
        · subst hi
          have : x ≠ i := by omega
          simp [Memory.read, this, below i (by omega), hb]
        · simp [hi]
      · by_cases hi : i = a
        · simp [Memory.read, hi]
        · rw [if_neg hi]
          simp only [Memory.read]
          rw [if_neg (Ne.symm hi)]
    · split
      · rename_i hax
        subst hax
        split
        · rename_i hb
          by_cases hi : i = a
          · subst hi
            simp [below i (Nat.le_refl _), hb]
          · simp only [Memory.read]
            rw [if_neg hi, if_neg (Ne.symm hi)]
        · by_cases hi : i = a
          · simp [Memory.read, hi]
          · simp only [Memory.read]
            rw [if_neg hi, if_neg (Ne.symm hi), if_neg (Ne.symm hi)]
      · rename_i hlt hne
        simp only [Memory.read]
        by_cases hx : x = i
        · subst hx
          have : x ≠ a := fun e => hne e.symm
          simp [this]
        · rw [if_neg hx, if_neg hx]
          exact ih (Memory.wf_tail h)

theorem Memory.read_write {m : Memory} (h : m.wf = true) {a : Nat} (ha : a < Config.flashSize) (b : Byte) (i : Nat) :
    (m.write a b).read i = if i = a then b else m.read i := by
  unfold Memory.write
  rw [if_pos ha]
  exact Memory.read_put h a b i

/-- Writing bytes from a position upward leaves every position outside them as it was. -/
theorem Memory.read_writeBytes_of_outside {m : Memory} (h : m.wf = true) (a : Nat) (bs : List Byte) (i : Nat)
    (out : i < a ∨ a + bs.length ≤ i) (fits : a + bs.length ≤ Config.flashSize) : (m.writeBytes a bs).read i = m.read i := by
  induction bs generalizing a m with
  | nil => rfl
  | cons b bs ih =>
    simp only [List.length_cons] at out fits
    have := ih (Memory.write_wf a b h) (a + 1) (by omega) (by omega)
    simp only [Memory.writeBytes]
    rw [this, Memory.read_write h (by omega)]
    have : i ≠ a := by omega
    simp [this]

/-- Writing bytes from a position upward puts each byte at its place. -/
theorem Memory.read_writeBytes_of_inside {m : Memory} (h : m.wf = true) (a : Nat) (bs : List Byte) (i : Nat) (hi : i < bs.length)
    (fits : a + bs.length ≤ Config.flashSize) : (m.writeBytes a bs).read (a + i) = bs[i] := by
  induction bs generalizing a i m with
  | nil => exact absurd hi (by simp)
  | cons b bs ih =>
    simp only [List.length_cons] at hi fits
    have hw := Memory.write_wf a b h
    cases i with
    | zero =>
      simp only [Memory.writeBytes, Nat.add_zero, List.getElem_cons_zero]
      rw [Memory.read_writeBytes_of_outside hw (a + 1) bs a (by omega) (by omega), Memory.read_write h (by omega)]
      simp
    | succ i =>
      have := ih hw (a + 1) i (by omega) (by omega)
      simpa only [Memory.writeBytes, List.getElem_cons_succ, Nat.add_assoc, Nat.add_comm 1 i] using this

/-- The bytes written are the bytes read back. -/
theorem Memory.readBytes_writeBytes {m : Memory} (h : m.wf = true) (a : Nat) (bs : List Byte)
    (fits : a + bs.length ≤ Config.flashSize) : (m.writeBytes a bs).readBytes a bs.length = bs := by
  apply List.ext_getElem
  · simp [Memory.readBytes]
  · intro i h1 h2
    simp only [Memory.readBytes, List.getElem_map, List.getElem_range', Nat.one_mul]
    exact Memory.read_writeBytes_of_inside h a bs i h2 fits

/-- Bytes outside those written read as before. -/
theorem Memory.readBytes_writeBytes_of_outside {m : Memory} (h : m.wf = true) (a n b : Nat) (bs : List Byte)
    (out : a + n ≤ b ∨ b + bs.length ≤ a) (fits : b + bs.length ≤ Config.flashSize) :
    (m.writeBytes b bs).readBytes a n = m.readBytes a n := by
  unfold Memory.readBytes
  apply List.map_congr_left
  intro i hi
  have := List.mem_range'_1.mp hi
  exact Memory.read_writeBytes_of_outside h b bs i (by omega) fits

theorem Memory.readBytes_take (m : Memory) (a n k : Nat) (h : k ≤ n) : (m.readBytes a n).take k = m.readBytes a k := by
  unfold Memory.readBytes
  rw [← List.map_take]
  congr 1
  apply List.ext_getElem
  · simp [h]
  · intro i h1 h2
    simp

/-! ## A save that does not finish (R193) -/

/-- An erase that is cut short leaves every position from its reach upward, and erases those below. -/
theorem Memory.read_eraseFirst (n : Nat) {m : Memory} (h : m.wf = true) (i : Nat) :
    (m.eraseFirst n).read i = if i < n then 0xFF#8 else m.read i := by
  induction m with
  | nil => simp [Memory.eraseFirst, Memory.read]
  | cons c m ih =>
    obtain ⟨x, b⟩ := c
    have step : Memory.eraseFirst n ((x, b) :: m) = if n ≤ x then (x, b) :: Memory.eraseFirst n m else Memory.eraseFirst n m := by
      simp [Memory.eraseFirst, List.filter_cons]
    rw [step]
    have tail := ih (Memory.wf_tail h)
    split
    · rename_i hx
      simp only [Memory.read]
      split
      · rename_i hi
        subst hi
        rw [if_neg (Nat.not_lt.mpr hx)]
      · exact tail
    · rename_i hx
      rw [tail]
      split
      · rfl
      · rename_i hi
        have : x ≠ i := by omega
        simp [Memory.read, this]

theorem Memory.unfinished_wf {m : Memory} (h : m.wf = true) : m.unfinished.wf = true := by
  unfold Memory.unfinished
  split
  · exact Memory.write_wf _ _ h
  · exact h

/-- What a stage writes, whole or cut short, keeps the canonical form. -/
theorem State.stageWritten_wf (taken : Option Nat) (r : SaveRun) {s : State} (h : s.ims.flash.wf = true) :
    (s.stageWritten taken r).wf = true := by
  unfold State.stageWritten
  split
  · unfold Memory.erased
    split
    · rfl
    · exact Memory.eraseFirst_wf _ h
  all_goals
    split
    · exact Memory.writeBytes_wf _ _ h
    · exact Memory.unfinished_wf (Memory.writeBytes_wf _ _ h)

/-- A write outside a range leaves the bytes read from it. -/
theorem Memory.readBytes_write_of_outside {m : Memory} (h : m.wf = true) {x : Nat} (b : Byte) (a n : Nat) (out : a + n ≤ x)
    (fits : x < Config.flashSize) : (m.write x b).readBytes a n = m.readBytes a n :=
  Memory.readBytes_writeBytes_of_outside h a n x [b] (.inl out) (by simpa using fits)

theorem Memory.readBytes_length (m : Memory) (a n : Nat) : (m.readBytes a n).length = n := by simp [Memory.readBytes]

theorem Memory.imageBytes_length (m : Memory) :
    m.imageBytes.length = headerSize + recordSize * imageCount (m.readBytes 0 headerSize) := by
  simp [Memory.imageBytes, Memory.readBytes_length]

/-- Bytes that would pass for an image do not, once the byte behind them is changed: what an unfinished save leaves is no good
image. -/
theorem Memory.judge_unfinished {m : Memory} (h : m.wf = true) : m.unfinished.judge.1 ≠ .loaded := by
  unfold Memory.unfinished
  split
  case isFalse hj => exact hj
  rename_i hj
  have few : imageCount (m.readBytes 0 headerSize) ≤ Config.maxRecords := by
    refine Nat.not_lt.mp fun lt => ?_
    unfold Memory.judge at hj
    rw [if_pos lt] at hj
    split at hj
    · simp at hj
    · split at hj <;> simp at hj
  have size := m.imageBytes_length
  have fits : m.imageBytes.length + 1 < Config.flashSize := by
    rw [size]
    simp only [headerSize, recordSize, Config.maxRecords, Config.flashSize] at few ⊢
    omega
  have head : headerSize ≤ m.imageBytes.length := by rw [size]; exact Nat.le_add_right ..
  generalize hw : m.write m.imageBytes.length (~~~(m.read m.imageBytes.length)) = w
  have header : w.readBytes 0 headerSize = m.readBytes 0 headerSize := by
    rw [← hw]
    exact Memory.readBytes_write_of_outside h _ 0 _ (by omega) (by omega)
  have image : w.imageBytes = m.imageBytes := by
    unfold Memory.imageBytes
    dsimp only
    rw [header]
    refine congrArg (m.readBytes 0 headerSize ++ ·) ?_
    rw [← hw]
    exact Memory.readBytes_write_of_outside h _ _ _ (Nat.le_of_eq size.symm) (by omega)
  have code : w.formatCode = m.formatCode := by
    unfold Memory.formatCode
    rw [← Memory.readBytes_take w 0 headerSize 2 (by decide), ← Memory.readBytes_take m 0 headerSize 2 (by decide), header]
  have first : ∀ x : Memory, x.imageCrc m.imageBytes.length % 256 = (x.read m.imageBytes.length).toNat := by
    intro x
    have two : x.readBytes m.imageBytes.length 2 = [x.read m.imageBytes.length, x.read (m.imageBytes.length + 1)] := rfl
    simp only [Memory.imageCrc, two, fromLe, List.foldr_cons, List.foldr_nil]
    have := (x.read m.imageBytes.length).isLt
    omega
  have changed : w.imageCrc m.imageBytes.length ≠ m.imageCrc m.imageBytes.length := by
    intro e
    have bytes := first w
    rw [e, first m, ← hw, Memory.read_write h (by omega), if_pos rfl] at bytes
    have := BitVec.eq_of_toNat_eq bytes
    revert this
    generalize m.read m.imageBytes.length = b
    revert b
    decide
  have crc : (crc16 m.imageBytes).toNat = m.imageCrc m.imageBytes.length := by
    refine Decidable.byContradiction fun ne => ?_
    unfold Memory.judge at hj
    dsimp only at hj
    rw [if_pos ne] at hj
    split at hj
    · simp at hj
    · split at hj
      · simp at hj
      · split at hj <;> simp at hj
  unfold Memory.judge
  rw [code, header, image]
  dsimp only
  rw [if_pos (fun e => changed (by rw [← e, crc]) : (crc16 m.imageBytes).toNat ≠ w.imageCrc m.imageBytes.length)]
  split
  · simp
  · split
    · simp
    · split <;> simp

end Sys2Proof.Machine
end

