-- ==== Sys2Proof/Laws/Operands.lean ====
section
/-! SUPPORT. Little-endian fields: a field reads back as the number written where the number fits. -/

namespace Sys2Proof.Machine

theorem le_length (w n : Nat) : (le w n).length = w := by
  induction w generalizing n with
  | zero => rfl
  | succ w ih => simp [le, ih]

theorem fromLe_cons (b : Byte) (bs : List Byte) : fromLe (b :: bs) = b.toNat + 256 * fromLe bs := rfl

/-- A number of w bytes is what its field reads back as. -/
theorem fromLe_le {w n : Nat} (h : n < 256 ^ w) : fromLe (le w n) = n := by
  induction w generalizing n with
  | zero =>
    have : n = 0 := by simpa using h
    simp [le, fromLe, this]
  | succ w ih =>
    have hd : n / 256 < 256 ^ w := Nat.div_lt_of_lt_mul (by simpa [Nat.pow_succ, Nat.mul_comm] using h)
    rw [le, fromLe_cons, ih hd]
    simp only [BitVec.toNat_ofNat, Nat.reducePow]
    omega

theorem fld_of_fits {w n : Nat} (h : n < 256 ^ w) : fld w n = le w n := by simp [fld, h]

end Sys2Proof.Machine
end

