-- ==== Sys2Proof/Laws/PermitQueue.lean ====
section
/-! SUPPORT. The Permit Queue's shared operations: the next free number, an append's three answers, a removal. -/

namespace Sys2Proof.Machine

/-! ## Numbers (R20, R46, R151) -/

theorem next255_range {n : Nat} (h : 1 ≤ n) : 1 ≤ next255 n ∧ next255 n ≤ 255 := by
  unfold next255
  split <;> omega

theorem firstFree_of_free {taken : List Nat} {n fuel : Nat} (h : n ∉ taken) : firstFree taken (fuel + 1) n = n := by
  have : taken.contains n = false := by simpa using h
  simp [firstFree, h]

theorem firstFree_range {taken : List Nat} {n fuel : Nat} (h : 1 ≤ n) (g : n ≤ 255) :
    1 ≤ firstFree taken fuel n ∧ firstFree taken fuel n ≤ 255 := by
  induction fuel generalizing n with
  | zero => exact ⟨h, g⟩
  | succ fuel ih =>
    unfold firstFree
    split
    · exact ih (next255_range h).1 (next255_range h).2
    · exact ⟨h, g⟩

/-! ## Append (R47) -/

theorem append_laneBusy {e : Env} {r : AppendReq} {w : Work} {c : Direction} (h : w.lane.pq.claim = some c) (g : c ≠ r.dir) :
    append e r w = .laneBusy := by
  unfold append
  rw [if_pos ⟨by simp [h], by simp [h, g]⟩]

theorem append_queueFull {e : Env} {r : AppendReq} {w : Work} (h : w.lane.pq.claim = none ∨ w.lane.pq.claim = some r.dir)
    (g : 4 ≤ w.lane.pq.permits.length) : append e r w = .queueFull := by
  unfold append
  rw [if_neg (fun x => h.elim x.1 x.2), if_pos (by simpa [Config.maxPermits] using g)]

/-- An accepted append: the permit of R46 and R47, its place in the queue, and, when it is READY, the open condition evaluated. -/
theorem append_accepted {e : Env} {r : AppendReq} {w : Work} (h : w.lane.pq.claim = none ∨ w.lane.pq.claim = some r.dir)
    (g : w.lane.pq.permits.length < 4) :
    append e r w =
      .accepted
        (if (newPermit e.now w.lane r).state = .ready then evalOpen e (w.mod (LaneState.queuePermit e.now r))
         else w.mod (LaneState.queuePermit e.now r))
        (newPermit e.now w.lane r).number (newPermit e.now w.lane r).state := by
  unfold append
  rw [if_neg (fun x => h.elim x.1 x.2), if_neg (by simpa [Config.maxPermits] using g)]

theorem releaseEscorted_numbers (now : Nat) (t : Timing) (ps : List Permit) :
    (releaseEscorted now t ps).map (·.number) = ps.map (·.number) := by
  induction ps with
  | nil => rfl
  | cons p ps ih =>
    simp only [releaseEscorted, List.map_cons, List.map_map] at ih ⊢
    refine congrArg₂ _ ?_ ih
    split <;> rfl

theorem releaseEscorted_length (now : Nat) (t : Timing) (ps : List Permit) :
    (releaseEscorted now t ps).length = ps.length := by simp [releaseEscorted]

theorem placePermit_length (now : Nat) (t : Timing) (escort : Bool) (p : Permit) (ps : List Permit) :
    (placePermit now t escort p ps).length = ps.length + 1 := by
  unfold placePermit
  split
  · rw [List.length_append, List.length_cons, releaseEscorted_length, ← Nat.add_assoc, ← List.length_append,
      List.takeWhile_append_dropWhile]
  · simp

@[simp] theorem LaneState.setPermits_permits (ps : List Permit) (l : LaneState) : (l.setPermits ps).pq.permits = ps := rfl

theorem LaneState.queuePermit_permits (now : Nat) (r : AppendReq) (l : LaneState) :
    (l.queuePermit now r).pq.permits = placePermit now l.timing r.escort (newPermit now l r) l.pq.permits := by
  unfold LaneState.queuePermit
  dsimp only [LaneState.modPq]
  split
  · cases r.dir <;> rfl
  · rfl

/-- An append never leaves more than four permits queued. -/
theorem append_permits_le {e : Env} {r : AppendReq} {w w' : Work} {n : Nat} {st : PermitState}
    (h : append e r w = .accepted w' n st) : w'.lane.pq.permits.length ≤ 4 := by
  unfold append at h
  split at h
  · exact absurd h (by simp)
  · split at h
    · exact absurd h (by simp)
    · rename_i hc hl
      have hq : (w.mod (LaneState.queuePermit e.now r)).lane.pq.permits.length = w.lane.pq.permits.length + 1 := by
        rw [Work.mod_lane, LaneState.queuePermit_permits, placePermit_length]
      have hl' : w.lane.pq.permits.length < 4 := by
        simpa [Config.maxPermits] using hl
      simp only [AppendResult.accepted.injEq] at h
      obtain ⟨rfl, _, _⟩ := h
      split
      · have := (evalOpen_frame e (w.mod (LaneState.queuePermit e.now r))).2.2.2.2.1
        rw [this, hq]
        omega
      · rw [hq]
        omega

/-! ## Removal (R64) -/

@[simp] theorem removePermit_out (p : Permit) (x : PermitEnd) (w : Work) :
    (removePermit p x w).out = w.out ++ [.permitEnd p x] := rfl

theorem removePermit_permits (p : Permit) (x : PermitEnd) (w : Work) :
    (removePermit p x w).lane.pq.permits = w.lane.pq.permits.filter fun y => decide (y.number ≠ p.number) := rfl

@[simp] theorem removePermit_creds (p : Permit) (x : PermitEnd) (w : Work) : (removePermit p x w).creds = w.creds := rfl

end Sys2Proof.Machine
end

