-- ==== Sys2Proof/Laws/Requests.lean ====
section
/-! SUPPORT. What taking a request comes to: a request that reaches its owner is the owner's judgement and its reply (R176, R177). -/

namespace Sys2Proof.Machine

theorem exec_ofRequest (l : Link) (tag : Byte) (p : List Byte) (kind : RequestKind) (s : State) :
    exec (Instr.ofRequest l tag p kind) s = .next (s.request kind l tag p) := by cases kind <;> rfl

theorem replyOf_eq (kind : RequestKind) (tag : Byte) (st : Status) (body : List Byte) :
    replyOf kind tag st body = { tag := tag, kind := replyKind kind.code, status := st, body := body } := by cases kind <;> rfl

theorem State.request_of_reaches {s : State} {l : Link} {kind : RequestKind} {p : List Byte} (h : s.reaches l kind p) (tag : Byte) :
    s.request kind l tag p =
      (judgeOf l kind p (s.hunt l)).state.reply l
        (replyOf kind tag (judgeOf l kind p (s.hunt l)).status (judgeOf l kind p (s.hunt l)).body) := by
  rw [State.request, State.take_of_room h.1, judgeFrame, if_pos h.2, replyOf_eq]
  rfl

theorem State.request_of_badLength {s : State} {l : Link} {kind : RequestKind} {p : List Byte} (h : (s.link l).tx.length < 4)
    (g : p.length ≠ kind.payloadLength p) (tag : Byte) :
    s.request kind l tag p = (s.hunt l).reply l (replyOf kind tag .badLength []) := by
  rw [State.request, State.take_of_room h, judgeFrame, if_neg g, replyOf_eq]
  rfl

theorem laneOfByte_laneNumber (k : Lane) : laneOfByte (laneNumber k) = some k := by
  revert k
  decide

theorem onLane_of_reachesLane {s t : State} {l : Link} {kind : RequestKind} {p : List Byte} {k : Lane} (h : s.reachesLane l kind p k)
    (judge : Lane → List Byte → State → Judged) : onLane judge p t = judge k p t := by
  simp [onLane, h.2, laneOfByte_laneNumber]

theorem State.heldFor_of_mayChange {s : State} {l : Link} {k : Lane} (h : s.mayChange l k) : (s.hunt l).heldFor l k = false := by
  rcases h with rfl | h
  · rfl
  · simp [State.heldFor, h]

/-! ## The frame period in force (Table 1-3, R8, R19) -/

@[simp] theorem LaneState.frameTiming_tf (l : LaneState) : l.frameTiming.tf = l.bsu.period := rfl

theorem LaneState.frameTiming_of_inForce {l : LaneState} (h : l.timing.tf = l.bsu.period) : l.frameTiming = l.timing := by
  rw [LaneState.frameTiming, ← h]

@[simp] theorem LaneState.applyTiming_timing (t : Timing) (l : LaneState) : (l.applyTiming t).timing = t := rfl
@[simp] theorem LaneState.applyTiming_period (t : Timing) (l : LaneState) : (l.applyTiming t).bsu.period = l.bsu.period := rfl
@[simp] theorem LaneState.applyTiming_posture (t : Timing) (l : LaneState) : (l.applyTiming t).bc.posture = l.bc.posture := rfl
@[simp] theorem LaneState.applyTiming_reported (t : Timing) (l : LaneState) : (l.applyTiming t).reported = l.reported := rfl
@[simp] theorem LaneState.applyTiming_ot_next (t : Timing) (l : LaneState) : (l.applyTiming t).ot.next = l.ot.next := rfl

/-- A due frame timer restarts with the T_f set, which is then in force. -/
theorem LaneState.frameExpiry_of_due {now : Nat} {l : LaneState} (h : l.bsu.frameTimer ≤ now) :
    l.frameExpiry now =
      { l with
        bsu := { l.bsu with frameTimer := l.bsu.frameTimer + l.timing.tf, period := l.timing.tf, read := .reading } } := by
  simp [LaneState.frameExpiry, due, h, LaneState.modBsu]

end Sys2Proof.Machine
end

