-- ==== Sys2Proof/Laws/Tracker.lean ====
section
/-! SUPPORT. The tracker kept for LANE_TRACKS: what recording it does, and what a chain read's completion leaves recorded (R43). -/

namespace Sys2Proof.Machine

@[simp] theorem LaneState.recordTracks_geo (l : LaneState) : l.recordTracks.geo = l.geo := rfl
@[simp] theorem LaneState.recordTracks_timing (l : LaneState) : l.recordTracks.timing = l.timing := rfl
@[simp] theorem LaneState.recordTracks_bsu (l : LaneState) : l.recordTracks.bsu = l.bsu := rfl
@[simp] theorem LaneState.recordTracks_ot (l : LaneState) : l.recordTracks.ot = l.ot := rfl
@[simp] theorem LaneState.recordTracks_pq (l : LaneState) : l.recordTracks.pq = l.pq := rfl
@[simp] theorem LaneState.recordTracks_bc (l : LaneState) : l.recordTracks.bc = l.bc := rfl
@[simp] theorem LaneState.recordTracks_lsv (l : LaneState) : l.recordTracks.lsv = l.lsv := rfl
@[simp] theorem LaneState.recordTracks_reported (l : LaneState) :
    l.recordTracks.reported = { geo := l.geo, untracked := l.ot.untracked, shadows := l.ot.shadows, tracks := l.ot.tracks } := rfl

/-- Recording the tracker commutes with the outputs, which are worked out from the rest of the lane. -/
theorem LaneState.recordTracks_withOutputs (slots : List Slot) (k : Lane) (l : LaneState) :
    (l.withOutputs slots k).recordTracks = l.recordTracks.withOutputs slots k := rfl

/-- A completed read that is not marked runs the units and then records the tracker as they leave it. -/
theorem frameEvent_of_reading {e : Env} {chain : List (Option BarAnswer)} {order : FrameOrder} {w : Work}
    (h : w.lane.bsu.read = .reading) :
    frameEvent e chain order w =
      (barrierFrame e (pendingFrame (claimFrame e (trackerFrame e order (scanFrame e chain w))))).mod LaneState.recordTracks := by
  simp [frameEvent, h]

/-- After such a read the record is the tracker as it stands. -/
theorem frameEvent_reported {e : Env} {chain : List (Option BarAnswer)} {order : FrameOrder} {w : Work}
    (h : w.lane.bsu.read = .reading) :
    let l := (frameEvent e chain order w).lane
    l.reported = { geo := l.geo, untracked := l.ot.untracked, shadows := l.ot.shadows, tracks := l.ot.tracks } := by
  simp only [frameEvent_of_reading h]
  rfl

/-- A marked read, and an event without a read in progress, leave the record as it is. -/
theorem frameEvent_reported_of_not_reading {e : Env} {chain : List (Option BarAnswer)} {order : FrameOrder} {w : Work}
    (h : w.lane.bsu.read ≠ .reading) : (frameEvent e chain order w).lane.reported = w.lane.reported := by
  unfold frameEvent
  split
  · rfl
  · rfl
  · contradiction

end Sys2Proof.Machine
end

