-- ==== Sys2Proof/Tests/Slice0.lean ====
section
/-! SUPPORT. Tests: each check of Instr.wf refuses an ill-formed command, the two checksums, worked examples of the spec, and for every
statement with hypotheses a concrete state and operands that meet them (`witness_…`), each clause at a boundary of its range. -/

namespace Sys2Proof.Tests

open Sys2Proof Sys2Proof.Machine

set_option Elab.async false

/-! ## Small states -/

/-- The reset state at a millisecond count, with lane 1 changed. -/
def st (ms : Nat) (f : LaneState → LaneState) : State :=
  ({ State.reset with tmb := { State.reset.tmb with ms := ms } } : State).modLane 0 f

/-- What an event on lane 1 works on, with the lane changed. -/
def work (f : LaneState → LaneState) : Work := (st 0 f).work 0

/-- A lane in a mode and policy, its barrier in a known state. -/
def mode (m : Mode) (entry exit : Setting) (l : LaneState) : LaneState :=
  (l.modLsv fun v => { v with mode := m, policy := { entry := entry, exit := exit }, barrierMark := false }).modBc fun c =>
    { c with state := .shut, positionUnknown := false }

/-- A lane in SERVICE under (BADGED, BADGED). -/
def service (l : LaneState) : LaneState := mode .service .badged .badged l

/-- The lane's barrier in a state. -/
def barrier (b : Barrier) (l : LaneState) : LaneState :=
  l.modBc fun c => { c with state := b, driveOpen := decide (b = .opening), driveShut := decide (b = .shutting) }

/-- An ENTRY permit of port 1. -/
def permit (n : Nat) (x : PermitState) (deadline : Nat) : Permit where
  number := n
  dir := .entry
  origin := .badge
  credential := some 40112
  cls := some 0
  reader := some 0
  state := x
  allowance := 1
  used := 0
  deadline := deadline
  soft := false

/-- The lane's queue. -/
def queue (ps : List Permit) (l : LaneState) : LaneState := l.setPermits ps

/-- A live ENTRY track over travel indices lo to hi. -/
def track (n lo hi : Nat) : Track where
  number := n
  dir := some .entry
  ext := { lo := lo, hi := hi }
  firstPos := lo + hi
  history := [(hi + 1) * 60]
  peak := (hi + 1) * 60
  held := false
  crossed := false
  bound := none
  merged := false
  splitBorn := false
  retreating := false
  exempt := false
  coasting := false
  loitered := false
  violated := false
  coastCount := 0
  born := 0
  speed := 1200

/-- The copy of a BADGE permit of a credential. -/
def copy (n : Nat) (o : Origin) : PermitCopy :=
  { number := 1, credential := some n, origin := o, cls := some 0, reader := some 0, soft := false }

/-- A credential record. -/
def cred (n : Nat) (uses : Option Nat) : Cred where
  number := n
  cls := 0
  state := .active
  validFrom := none
  validUntil := none
  uses := uses
  group := 1
  presence := .outside
  lastTime := none
  lastLane := none

/-- A CRED_PUT payload of a plain record. -/
def put (n : Nat) : List Byte := le 8 n ++ [0, 0, 1, 0]

/-- A referral slot of port 1. -/
def slot (tag deadline : Nat) (cls : Option ClassNo) : Slot :=
  { tag := tag, reader := 0, number := 88001, cls := cls, reason := .notInTable, opened := 0, deadline := deadline }

/-- A bar that answers clear. -/
def clearBar : BarAnswer := { beam0 := false, beam1 := false, beam2 := false, beam3 := false, emitterFault := false }

/-- Port 1 with a change. -/
def port (f : ReaderPort → ReaderPort) (s : State) : State := s.modPort 0 f

/-- The desk link with a change. -/
def desk (f : LinkPort → LinkPort) (s : State) : State := s.modLink .desk f

/-- A save in flight at a stage. -/
def saveAt (stage : SaveStage) (written : Nat) : State :=
  { st 6000 id with
    ims := { State.reset.ims with saving := some { stage := stage, written := written, timerEnd := 6000 } }
    cst := { State.reset.cst with creds := [cred 5 none] } }

/-- The flash that a save of an empty table leaves. -/
def goodFlash : Memory :=
  let header := Memory.writeBytes 0 State.reset.header []
  header.writeBytes 416 (le 2 (crc16 (header.readBytes 0 416)).toNat)

/-- What a full reset finds, with the strap at a level. -/
def resetInputs (strap : Bool) : ResetInputs :=
  { cause := .power, strap := strap, flashAnswers := true, altered := [], saveTaken := 0, elapsed := 0, laneOrder := [] }

/-- An ENTRY append request. -/
def request (escort needsEscort : Bool) : AppendReq where
  dir := .entry
  origin := .badge
  credential := some 40112
  cls := some 0
  reader := some 0
  allowance := 1
  soft := false
  escort := escort
  needsEscort := needsEscort

/-! ## Well-formedness: each check refuses -/

theorem test_wf_refuses_reset_cells :
    (Instr.fullReset { resetInputs true with altered := [(262144, 0)] }).wf = false := by decide
theorem test_wf_refuses_reset_elapsed : (Instr.fullReset { resetInputs true with elapsed := 2 ^ 48 }).wf = false := by decide
theorem test_wf_refuses_nine_bars :
    (Instr.chainReadComplete 0 (List.replicate 9 clearBar) { crossings := [], completions := [] }).wf = false := by decide
theorem test_wf_refuses_permit_numbers :
    (Instr.permitExpiry 0 0).wf = false ∧ (Instr.permitExpiry 0 256).wf = false ∧ (Instr.escortTimeout 0 0).wf = false
      ∧ (Instr.escortTimeout 0 256).wf = false := by decide
theorem test_wf_refuses_tags : (Instr.referralDeadline 0).wf = false ∧ (Instr.referralDeadline 256).wf = false := by decide
theorem test_wf_refuses_card_numbers :
    (Instr.readerCardFrame 0 0).wf = false ∧ (Instr.readerCardFrame 0 (2 ^ 64)).wf = false := by decide
theorem test_wf_refuses_known_kind : (Instr.unknownKind .site 0 0x43).wf = false := by decide
theorem test_wf_refuses_long_payload : (Instr.save .site 0 (List.replicate 1023 0)).wf = false := by decide +kernel
theorem test_wf_refuses_readback_cells : (Instr.saveReadbackDone .ok [(262144, 0)]).wf = false := by decide
theorem test_wf_accepts_bounds :
    (Instr.permitExpiry 0 255).wf = true ∧ (Instr.readerCardFrame 0 (2 ^ 64 - 1)).wf = true
      ∧ (Instr.unknownKind .site 0 0x44).wf = true ∧ (Instr.saveReadbackDone .ok [(262143, 0)]).wf = true := by decide

/-! ## Checksums and worked examples -/

theorem test_crc16_check : crc16 [0x31, 0x32, 0x33, 0x34, 0x35, 0x36, 0x37, 0x38, 0x39] = 0x29B1#16 := by decide +kernel
theorem test_crc8_check : crc8 [0x31, 0x32, 0x33, 0x34, 0x35, 0x36, 0x37, 0x38, 0x39] = 0xF4#8 := by decide +kernel

/-- FULL_RESET of the reset state, taking no time, is the reset state. -/
theorem test_full_reset : State.reset.fullReset (resetInputs false) = State.reset := by decide +kernel

/-- Table 1-2: which geometries are valid. -/
theorem test_table_1_2 :
    (let g (bars nb f sz : Nat) := (Geometry.resolved { bars := bars, nb := nb, orientation := .normal, p := 60, f := f, sz := sz }).ok
     [g 4 16 8 2, g 4 13 0 2, g 1 4 2 1, g 4 12 6 2, g 6 24 3 3, g 8 32 29 3, g 8 32 29 2])
      = [true, true, true, false, false, false, true] := by decide

/-- Table 1-4, beam 0 over its four frames with V = 2. -/
theorem test_table_1_4 :
    (let b1 := Beam.clear.vote 2 true
     let b2 := b1.vote 2 true
     let b3 := b2.vote 2 false
     let b4 := b3.vote 2 false
     [b1, b2, b3, b4].map fun b => (b.counter, b.occluded)) = [(1, false), (0, true), (1, true), (0, false)] := by decide

/-- Table 4-5: time and verdict of its four followers. -/
theorem test_table_4_5 :
    [feasibleAt { Timing.reset with tc := 450, tm := 100 } 300 1090, feasibleAt { Timing.reset with tc := 450, tm := 100 } 600 1090,
      feasibleAt { Timing.reset with tc := 450, tm := 100 } 600 300, feasibleAt { Timing.reset with tc := 450, tm := 100 } 600 1200]
      = [(275, false), (550, true), (2000, true), (500, false)] := by decide

/-- R198: the speed of the history of Table 4-5's first follower. -/
theorem test_speed_of_history : speedOf 10 1200 ([300] ++ List.replicate 10 360 ++ [420]) = 1090 := by decide

/-- A step of an idle part counts a millisecond. -/
theorem test_step_idle : step State.reset = .next (st 1 id) := by rfl

/-! ## Witnesses: the step and reset -/

theorem witness_StepIdle : State.reset.pending = [] := rfl
theorem witness_FullResetWithoutAutoload :
    (resetInputs false).strap = false ∧ (resetInputs false).altered = [] ∧ State.reset.ims.saving = none
      ∧ State.reset.egressLine = false ∧ ({ State.reset with egressLine := true } : State).egressLine = true := by decide
/-- A full reset under the EGRESS line opens the leaves, from an unknown position too (R194, Log 17). -/
theorem test_reset_under_egress :
    (let l := ((({ State.reset with egressLine := true } : State).fullReset (resetInputs false)).lane 0)
     l.lsv.mode = .egress ∧ l.bc.state = .opening ∧ l.bc.motionEnd = some 900 ∧ l.bc.positionUnknown = true
      ∧ l.lsv.barrierMark = false ∧ l.lsv.lobbyColour = .red) := by decide +kernel
/-- The forms of a full reset with the strap high: a flash that answers, one that does not, one altered, and a save cut short. -/
theorem witness_FullResetLoadsImage :
    (resetInputs true).strap = true ∧ (resetInputs true).flashAnswers = true ∧ (resetInputs true).altered = []
      ∧ State.reset.ims.saving = none ∧ State.reset.flashCanonical ∧ (Memory.judge []).1 ≠ .loaded
      ∧ (State.reset.fullReset { resetInputs true with flashAnswers := false }).ims.startResult = .noImage
      ∧ flashAtReset { resetInputs true with altered := [(0, 0x31)] } State.reset = [(0, 0x31)]
      ∧ (saveAt .header 0).ims.saving ≠ none ∧ (saveAt .header 0).flashCanonical := by
  unfold State.flashCanonical
  decide +kernel

/-- The header that a save of an empty table writes. -/
def headerBytes : List Byte := State.reset.header

theorem headerBytes_length : headerBytes.length = 416 := by decide +kernel

/-- What a save that has written its header finds when it writes its CRC. -/
theorem header_readBack : (Memory.writeBytes 0 headerBytes []).readBytes 0 416 = headerBytes := by
  have := Memory.readBytes_writeBytes Memory.wf_nil 0 headerBytes (by rw [headerBytes_length]; decide)
  rwa [headerBytes_length] at this

theorem goodFlash_readBytes : goodFlash.readBytes 0 416 = headerBytes := by
  unfold goodFlash
  dsimp only
  rw [Memory.readBytes_writeBytes_of_outside (Memory.writeBytes_wf 0 _ Memory.wf_nil) 0 416 416 _ (.inl (by decide))
    (by rw [le_length]; decide)]
  exact header_readBack

theorem imageCrc_of_written {m : Memory} (h : m.wf = true) (x : BitVec 16) :
    Memory.imageCrc (m.writeBytes 416 (le 2 x.toNat)) 416 = x.toNat := by
  have r := Memory.readBytes_writeBytes h 416 (le 2 x.toNat) (by rw [le_length]; decide)
  rw [le_length] at r
  unfold Memory.imageCrc
  rw [r, fromLe_le (Nat.lt_of_lt_of_eq x.isLt (by decide))]

/-- An image without records whose header reads back, with its CRC behind it, is good when the header's fields are. -/
theorem judge_of_header {m : Memory} {b : List Byte} {i : Image} (body : m.readBytes 0 416 = b) (size : b.length = 416)
    (code : fromLe (b.take 2) = 0x4C31) (count : imageCount b = 0) (crc : m.imageCrc 416 = (crc16 b).toNat)
    (contents : imageContents b = some i) : m.judge = (.loaded, some i) := by
  have image : m.imageBytes = b := by
    unfold Memory.imageBytes
    dsimp only [headerSize]
    rw [body, count]
    simp [Memory.readBytes]
  have head : m.formatCode = 0x4C31 := by
    unfold Memory.formatCode
    rw [← Memory.readBytes_take m 0 416 2 (by decide), body, code]
  have few : ¬Config.maxRecords < imageCount (m.readBytes 0 headerSize) := by
    have : imageCount (m.readBytes 0 headerSize) = 0 := by rw [show m.readBytes 0 headerSize = b from body, count]
    rw [this]
    exact Nat.not_lt_zero _
  have match_ : ¬(crc16 b).toNat ≠ m.imageCrc b.length := by rw [size, crc]; exact not_not_intro rfl
  unfold Memory.judge
  rw [if_neg (by rw [head]; decide), if_neg (by rw [head]; decide), if_neg few, image]
  dsimp only
  rw [if_neg match_, contents]

/-- The flash that a save of an empty table leaves is judged a good image. -/
theorem witness_GoodImage : ∃ i, goodFlash.judge = (.loaded, some i) := by
  have contents : (imageContents headerBytes).isSome = true := by decide +kernel
  obtain ⟨i, hi⟩ := Option.isSome_iff_exists.mp contents
  refine ⟨i, judge_of_header goodFlash_readBytes headerBytes_length (by decide +kernel) (by decide +kernel) ?_ hi⟩
  rw [← header_readBack]
  exact imageCrc_of_written (Memory.writeBytes_wf 0 headerBytes Memory.wf_nil) (crc16 _)

/-! ## Witnesses: frames and tracks -/

theorem witness_FrameTimer :
    ((st 10 id).lane 0).bsu.frameTimer ≤ (st 10 id).tmb.ms ∧ (st 9 id).tmb.ms < ((st 9 id).lane 0).bsu.frameTimer
      ∧ ((st 0 fun l => l.modBsu fun b => { b with read := .discarding }).lane 0).bsu.read = .discarding := by decide +kernel
theorem witness_FaultyFrame :
    (let s := st 0 fun l => l.modBsu fun b => { b with read := .reading }
     (s.lane 0).bsu.read = .reading ∧ (answering [none, some clearBar, some clearBar, some clearBar]).length ≠ (s.lane 0).geo.bars
      ∧ (answering (List.replicate 5 (some clearBar))).length ≠ (s.lane 0).geo.bars ∧ (s.lane 0).bsu.chainFault = false)
      ∧ ∃ b, some b ∈ [none, some { clearBar with emitterFault := true }] ∧ b.emitterFault = true :=
  ⟨by decide +kernel, _, List.mem_cons_of_mem _ (List.mem_cons_self ..), rfl⟩
/-- A faulting bar behind a silent one keeps its number along the chain (R1). -/
theorem test_faulting_bars_number_the_chain :
    faultingBars [none, some { clearBar with emitterFault := true }, some clearBar] = [1] := by decide
theorem witness_ValidFrame :
    (let s := st 0 fun l => l.modBsu fun b => { b with read := .reading }
     (s.lane 0).bsu.read = .reading ∧ (answering (List.replicate 4 (some clearBar))).length = (s.lane 0).geo.bars)
      ∧ (∀ b ∈ answering (List.replicate 4 (some clearBar)), b.emitterFault = false)
      ∧ (work id).lane.bsu.result.valid = false
      ∧ (work fun l => l.modBsu fun b => { b with result := { b.result with valid := true } }).lane.bsu.result.valid = true := by
  decide +kernel

/-! ## Witnesses: the tracker -/

/-- A vector of 16 beams with the given ones occluded. -/
def beams (on : List Nat) : List Bool := (List.range 16).map fun j => on.contains j

/-- A tracker that holds these tracks. -/
def tracker (ts : List Track) : Ot := { tracks := ts, shadows := [], untracked := false, next := 1 }

theorem witness_Shadows :
    (beams [0, 2, 5])[0]? = some true
      ∧ shadowsOf 1 (beams [0, 2, 5]) = [{ lo := 0, hi := 2 }, { lo := 5, hi := 5 }] := by decide
theorem witness_Groups :
    (groupsOf [track 1 0 1, track 2 10 11] [{ lo := 2, hi := 3 }, { lo := 6, hi := 7 }]).map
        (fun g => (g.tracks.map (·.1), g.shadows))
      = [([], [{ lo := 6, hi := 7 }]), ([0], [{ lo := 2, hi := 3 }]), ([1], [])] := by decide
theorem witness_Settled :
    (let xs : List Extent := [{ lo := 0, hi := 1 }, { lo := 4, hi := 6 }]
     xs.Pairwise (fun a b => a.hi < b.lo) ∧ (∀ y ∈ xs, y.lo ≤ y.hi)
      ∧ ((settle [(0, track 1 0 6)] xs).1.map (·.ext)) = [{ lo := 4, hi := 6 }]
      ∧ ((settle [(0, { track 1 0 6 with dir := some .exit })] xs).1.map (·.ext)) = [{ lo := 0, hi := 1 }]
      ∧ ((settle [(0, { track 1 0 6 with dir := none })] xs).1.map (·.ext)) = [{ lo := 4, hi := 6 }]) := by decide
theorem witness_TrackEnds :
    (let ends (d : Option Direction) (lo hi coasts : Nat) :=
       ({ track 1 lo hi with dir := d, coastCount := coasts } : Track).endWithoutShadow Geometry.reset 3
     [ends (some .entry) 0 15 0, ends (some .exit) 0 15 0, ends (some .entry) 0 14 0, ends (some .exit) 1 15 0, ends none 0 1 0,
      ends (some .entry) 1 14 3, ends (some .entry) 1 14 2]
      = [some (.completed .entry), some (.completed .exit), some (.backedOut .entry), some (.backedOut .exit),
         some (.lost .endUnset), some (.lost .coasted), none]) := rfl
theorem witness_Follow :
    (let x := track 1 4 5
     (tracker [x]).tracks = [] ++ x :: [] ∧ shadowsOf 1 (beams [6, 7, 12]) = [{ lo := 6, hi := 7 }, { lo := 12, hi := 12 }]
      ∧ (6 ≤ x.ext.hi + 1 ∧ x.ext.lo ≤ 7 + 1) ∧ ¬(12 ≤ x.ext.hi + 1) ∧ x.dir = some .entry ∧ x.history ≠ [] ∧ x.held = false
      ∧ ({ x with held := true } : Track).held = true
      ∧ (let m (n : Nat) : Track := { track n 14 15 with merged := true }
         isRear [m 1, m 2] 0 (m 1) = true ∧ (m 1).crossed = false)) := by decide
theorem witness_Merge :
    (let ts := [track 1 3 4, track 2 6 7]
     shadowsOf 1 (beams [4, 5, 6]) = [{ lo := 4, hi := 6 }] ∧ 2 ≤ ts.length
      ∧ (∀ x ∈ ts, 4 ≤ x.ext.hi + 1 ∧ x.ext.lo ≤ 6 + 1)
      ∧ ((trackFrame Geometry.reset Timing.reset 0 (beams [4, 5, 6]) (tracker ts)).ot.tracks.map fun y => (y.number, y.merged, y.held))
          = [(1, true, true), (2, true, false)]) := by decide +kernel
theorem witness_Births :
    (let born (n : Nat) : Births := { tracks := (List.range n).map fun i => track (i + 1) 0 0, untracked := [], next := 1, startEnd := 0 }
     (born 7).tracks.length < 8 ∧ 8 ≤ (born 8).tracks.length ∧ (1 ≤ (tracker []).next ∧ (tracker []).next ≤ 255)
      ∧ (tracker []).tracks.length ≤ 8 ∧ ((tracker []).tracks.map (·.number)).Nodup ∧ (tracker []).tracks = []
      ∧ (shadowsOf 0 ((List.range 18).map fun j => decide (j % 2 = 0))).length = 9) := by decide
theorem witness_VoteFilter :
    (let b := Beam.clear
     let c := { Beam.clear with counter := 1 }
     (false = b.occluded) ∧ (true ≠ b.occluded ∧ b.counter + 1 < 2) ∧ (true ≠ c.occluded ∧ 2 ≤ c.counter + 1)
      ∧ (0 < 1 ∧ b.counter < 1)) := by decide
theorem witness_ValidScanHandedOn :
    (let w := work id
     (answering (List.replicate 4 (some clearBar))).length = w.lane.geo.bars)
      ∧ ∀ b, some b ∈ List.replicate 4 (some clearBar) → b.emitterFault = false := by
  refine ⟨by decide +kernel, fun b h => ?_⟩
  rw [Option.some.inj (List.eq_of_mem_replicate h)]
  rfl
/-- A beam occluded since count 0 is marked at the stuck time, not one millisecond before; a clear beam loses its mark (R12). -/
theorem witness_StuckTest :
    (let b : Beam := { occluded := true, counter := 0, timer := some 0, stuck := false }
     (b.stuckTest 10000 10).stuck = true ∧ (b.stuckTest 9999 10).stuck = false
      ∧ (({ b with timer := none } : Beam).stuckTest 9999 10).timer = some 9999
      ∧ (({ b with occluded := false, stuck := true } : Beam).stuckTest 9999 10).stuck = false) := by decide
/-- The guard zone of the reset geometry begins at beam 6: SZ 2 beams below the barrier index 8 (R14). -/
theorem witness_GuardZoneOccupied :
    (let blocked (j : Nat) : Work := work fun l => l.modBsu fun u =>
       { u with beams := (List.range 16).map fun i => { Beam.clear with occluded := decide (i = j) } }
     let first : BarAnswer := { clearBar with beam1 := true }
     let second : BarAnswer := { clearBar with beam2 := true }
     (validFrame ((st 0 id).env 0) [some clearBar, some first, some clearBar, some clearBar] (blocked 5)).lane.bsu.result.guardOccupied = false
      ∧ (validFrame ((st 0 id).env 0) [some clearBar, some second, some clearBar, some clearBar] (blocked 6)).lane.bsu.result.guardOccupied
          = true) := by
  decide +kernel
theorem witness_SpeedAndRetreat :
    (let fresh := { track 1 0 1 with history := [] }
     (fresh.appendLead 60 Timing.reset 120).history.length ≤ 1
      ∧ ((track 1 0 1).appendLead 60 Timing.reset 180).history = 120 :: ([] ++ [180])
      ∧ Timing.reset.vNom ≤ 4000 ∧ ({ fresh with dir := none } : Track).dir = none
      ∧ ({ fresh with coasting := true } : Track).coasting = true ∧ (track 1 0 1).history ≠ []) := by decide
theorem witness_Direction :
    (let at_ (lo hi : Nat) : Track := { track 1 lo hi with dir := none, firstPos := 8, history := [] }
     ((at_ 6 6).dir = none ∧ (at_ 6 6).coasting = false ∧ (at_ 6 6).firstPos + 4 ≤ (at_ 6 6).ext.lo + (at_ 6 6).ext.hi)
      ∧ (at_ 2 2).ext.lo + (at_ 2 2).ext.hi + 4 ≤ (at_ 2 2).firstPos
      ∧ ((at_ 5 6).ext.lo + (at_ 5 6).ext.hi < (at_ 5 6).firstPos + 4 ∧ (at_ 5 6).firstPos < (at_ 5 6).ext.lo + (at_ 5 6).ext.hi + 4)
      ∧ ({ at_ 2 2 with coasting := true } : Track).coasting = true
      ∧ (let y := { track 1 7 8 with history := [] }
         y.dir = some .entry ∧ y.coasting = false ∧ y.history = [] ∧ y.crossed = false)) := by decide
theorem witness_Bind :
    bindFirst 9 .entry [permit 1 .awaitingEscort 0, permit 2 .ready 0]
      = some ({ permit 2 .ready 9 with used := 1 }, [permit 1 .awaitingEscort 0, { permit 2 .ready 9 with used := 1 }])
      ∧ bindFirst 9 .exit [permit 1 .ready 0] = none := by decide
theorem witness_NextNumber :
    [255].length < 255 ∧ (1 : Nat) ≤ 255 ∧ 255 ≤ 255 ∧ 1 ∉ [255] ∧ firstFree [255] 255 255 = 1 := by decide

/-! ## Witnesses: permits -/

/-- A lane whose queue holds n READY permits. -/
def queued (n : Nat) : State := st 0 fun l => queue ((List.range n).map fun i => permit (i + 1) .ready 8000) (service l)

theorem witness_Append :
    (∃ c, ((queued 1).work 0).lane.pq.claim = some c ∧ c ≠ (freeReq .exit).dir)
      ∧ (((queued 4).work 0).lane.pq.claim = some (request false false).dir ∧ 4 ≤ ((queued 4).work 0).lane.pq.permits.length)
      ∧ (((queued 3).work 0).lane.pq.claim = some (request false true).dir ∧ ((queued 3).work 0).lane.pq.permits.length < 4)
      ∧ ((queued 0).work 0).lane.pq.claim = none ∧ ((queued 0).work 0).lane.pq.window .entry = none
      ∧ (request true false).escort = true
      ∧ ∀ x ∈ ((queued 3).work 0).lane.pq.permits, ((queued 3).work 0).lane.pq.claim = some x.dir := by
  refine ⟨⟨.entry, by decide +kernel⟩, ?_⟩
  decide +kernel
/-- The place of an ESCORT: ahead of the first permit that awaits one, which it makes READY (Table 3-2). -/
theorem witness_EscortPlace :
    (let w := (st 0 fun l => queue [permit 1 .ready 8000, permit 2 .awaitingEscort 8000] (service l)).work 0
     (w.lane.pq.claim = some (request true false).dir ∧ w.lane.pq.permits.length < 4)
      ∧ (match append ((st 0 id).env 0) (request true false) w with
         | .accepted v n _ => v.lane.pq.permits.map (fun p => (p.number == n, p.state))
         | .laneBusy => []
         | .queueFull => []) = [(false, .ready), (true, .ready), (false, .ready)]) := by decide +kernel
theorem witness_DuePermit :
    (let s := st 8000 fun l => queue [permit 1 .ready 8000, permit 2 .awaitingEscort 8000] (service l)
     let ps := (s.lane 0).pq.permits
     permit 1 .ready 8000 ∈ ps ∧ permit 2 .awaitingEscort 8000 ∈ ps
      ∧ (∀ q ∈ ps, q.number = 1 → q = permit 1 .ready 8000) ∧ (∀ q ∈ ps, q.number = 2 → q = permit 2 .awaitingEscort 8000)
      ∧ (permit 1 .ready 8000).deadline ≤ s.tmb.ms)
      ∧ ((st 8000 (queue [permit 1 .ready 8000])).lane 0).lsv.mode ≠ .service := by decide +kernel
theorem witness_EscortWindow :
    (let s := st 20 fun l => l.modPq fun q => { q with entryWindow := some 20, exitWindow := some 20 }
     20 ≤ s.tmb.ms ∧ (s.lane 0).pq.entryWindow = some 20 ∧ (s.lane 0).pq.exitWindow = some 20) := by decide +kernel

/-! ## Witnesses: the barrier -/

theorem witness_LimitCompletes_open :
    (let l := ((st 0 fun x => barrier .opening (service x)).lane 0)
     l.bc.state = .opening ∧ l.bc.openLimit = false ∧ shutMode l.lsv.mode = true ∧ l.failedPoints = [] ∧ l.bc.obstruct = false
      ∧ l.bc.shutLimit = false)
      ∧ shutMode ((st 0 (barrier .opening)).lane 0).lsv.mode = false
      ∧ ((st 0 fun x => (barrier .opening (service x)).modBc fun c => { c with jam := true, jamHoldEnd := some 1 }).lane 0).failedPoints
          = [7] := by decide +kernel
theorem witness_LimitCompletes_shut :
    (let l := ((st 0 fun x => barrier .shutting (queue [permit 1 .ready 9] (service x))).lane 0)
     l.bc.state = .shutting ∧ l.bc.shutLimit = false ∧ l.lsv.mode ≠ .dark ∧ l.opensFromShut = true ∧ l.bc.openLimit = false)
      ∧ ((st 0 fun x => barrier .shutting (service x)).lane 0).opensFromShut = false
      ∧ ((st 0 (barrier .shutting)).lane 0).lsv.mode = .dark := by decide +kernel
theorem witness_LimitEndsStalled :
    (let l := ((st 0 fun x => barrier .stalled (service x)).lane 0)
     l.bc.state = .stalled ∧ l.bc.openLimit = false ∧ l.bc.shutLimit = false ∧ shutMode l.lsv.mode = true ∧ l.failedPoints = []
      ∧ l.bc.obstruct = false ∧ l.opensFromShut = false)
      ∧ (let l := ((st 0 fun x => barrier .stalled (queue [permit 1 .ready 9] (service x))).lane 0)
         l.bc.state = .stalled ∧ l.failedPoints ≠ [] ∧ l.lsv.mode ≠ .dark ∧ l.opensFromShut = true ∧ l.bc.openLimit = false)
      ∧ (State.reset.lane 0).bc.state = .stalled ∧ shutMode (State.reset.lane 0).lsv.mode = false
      ∧ (State.reset.lane 0).lsv.mode = .dark := by decide +kernel
theorem witness_OtherLimitActive :
    (let l (b : Barrier) (ps : List Permit) : LaneState :=
       (st 0 fun x => (barrier b (queue ps (service x))).modBc fun c =>
          { c with openLimit := decide (b = .shutting), shutLimit := decide (b = .opening) }).lane 0
     (l .opening []).bc.state = .opening ∧ (l .opening []).bc.openLimit = false ∧ (l .opening []).bc.shutLimit = true
      ∧ (l .opening []).failedPoints = [] ∧ (l .shutting [permit 1 .ready 9]).bc.state = .shutting
      ∧ (l .shutting [permit 1 .ready 9]).bc.shutLimit = false ∧ (l .shutting [permit 1 .ready 9]).bc.openLimit = true
      ∧ (l .shutting [permit 1 .ready 9]).opensFromShut = true)
      ∧ (let stalled (open_ shut : Bool) (ps : List Permit) : LaneState :=
           (st 0 fun x => (barrier .stalled (queue ps (service x))).modBc fun c =>
              { c with openLimit := open_, shutLimit := shut }).lane 0
         (stalled false true []).bc.openLimit = false ∧ (stalled false true []).bc.shutLimit = true
          ∧ (stalled false true []).failedPoints = [] ∧ (stalled true false [permit 1 .ready 9]).bc.shutLimit = false
          ∧ (stalled true false [permit 1 .ready 9]).bc.openLimit = true
          ∧ (stalled true false [permit 1 .ready 9]).opensFromShut = true) := by decide +kernel
theorem witness_LimitElsewhere :
    (let l := ((st 0 fun x => barrier .opened (service x)).lane 0)
     ¬(true = true ∧ l.bc.openLimit = false ∧ (l.bc.state = .opening ∨ l.bc.state = .stalled))
      ∧ ¬(true = true ∧ l.bc.shutLimit = false ∧ (l.bc.state = .shutting ∨ l.bc.state = .stalled)))
      ∧ (let l := ((st 0 fun x => barrier .opening (service x)).lane 0)
         ¬(false = true ∧ l.bc.openLimit = false ∧ (l.bc.state = .opening ∨ l.bc.state = .stalled))) := by decide +kernel
theorem witness_FrameMovesBarrier :
    (let l (b : Barrier) (guard fault : Bool) (ps : List Permit) (open_ shut : Bool) : LaneState :=
       (work fun x =>
          ((barrier b (queue ps (service x))).modBsu fun u =>
            { u with result := { u.result with guardOccupied := guard }, causes := { u.causes with chainFault := fault } }).modBc
              fun c => { c with openLimit := open_, shutLimit := shut }).lane
     let one := [permit 1 .ready 9]
     ((l .shutting true false [] false true).bc.state = .shutting ∧ (l .shutting true false [] false true).bsu.result.guardOccupied = true)
      ∧ ((l .shutting false true [] true true).bsu.result.guardOccupied = false ∧ (l .shutting false true [] true true).bsu.causes.any = true)
      ∧ ((l .shutting false false one false true).lsv.mode ≠ .dark
          ∧ (l .shutting false false one false true).takePosture.openCondition = true
          ∧ (l .shutting false false one false true).bsu.causes.any = false)
      ∧ (l .shutting false false [] false true).takePosture.openCondition = false
      ∧ ((l .shut false false one true true).takePosture.opensFromShut = true ∧ (l .shut false false [] true true).takePosture.opensFromShut = false)
      ∧ (shutMode (l .opened false false [] true false).lsv.mode = true ∧ (l .opened false false [] true false).failedPoints = []
          ∧ (l .opened false false [] true false).bc.obstruct = false ∧ (l .opened false false [] true false).bc.shutLimit = false)
      ∧ (l .opened false false [] true true).bc.shutLimit = true ∧ (l .opened false false one true false).failedPoints ≠ [])
      ∧ (work (barrier .opened)).lane.bc.state = .opened ∧ shutMode (work (barrier .opened)).lane.lsv.mode = false
      ∧ (work (barrier .opening)).lane.bc.state = .opening ∧ (work (barrier .stalled)).lane.bc.state = .stalled
      ∧ (work (barrier .shut)).lane.lsv.mode = .dark := by decide +kernel
/-- A fault posture that LANE_TIMING has set comes into force at the next frame event, not before (Table 4-2). -/
theorem test_posture_waits_for_frame :
    (let l := (work fun l => { l with timing := { l.timing with posture := .opened } }).lane
     l.bc.posture = .hold ∧ l.takePosture.bc.posture = .opened) := by decide +kernel
theorem witness_Obstruct :
    (let l := ((st 0 fun x => (barrier .shutting (service x)).modBc fun c => { c with reversals := 2 }).lane 0)
     l.bc.state = .shutting ∧ l.bc.obstruct = false ∧ l.bc.openLimit = false ∧ l.bc.reversals = 2)
      ∧ (let l := ((st 0 service).lane 0)
         l.bc.obstruct ≠ true ∧ ¬(true = true ∧ l.bc.state = .shutting)) := by decide +kernel
/-- A third reversal with OPEN_LIMIT still active: open at once, under JAM with its hold (R70, R82). -/
theorem witness_ObstructAtOpenLimit :
    (let w := work fun x => (barrier .shutting (service x)).modBc fun c => { c with reversals := 2, openLimit := true }
     let t := onObstruct ((st 0 id).env 0) true w
     w.lane.bc.state = .shutting ∧ w.lane.bc.obstruct = false ∧ w.lane.bc.openLimit = true ∧ shutMode w.lane.lsv.mode = true
      ∧ t.lane.bc.state = .opened ∧ t.lane.bc.jam = true ∧ t.lane.bc.jamHoldEnd = some 5000 ∧ t.lane.bc.motionEnd = none
      ∧ (t.lane.bc.last.map (·.failed)) = some [7] ∧ shutMode (work (barrier .shutting)).lane.lsv.mode = false) := by decide +kernel
theorem witness_MotionTimeout :
    (let l (b : Barrier) := (st 900 fun x => (barrier b (service x)).modBc fun c => { c with motionEnd := some 900 })
     ((l .opening).lane 0).bc.state = .opening ∧ ((l .shutting).lane 0).bc.state = .shutting
      ∧ ((l .opening).lane 0).bc.motionEnd = some 900 ∧ 900 ≤ (l .opening).tmb.ms) := by decide +kernel
theorem witness_JamHoldEnd :
    (let s (b : Barrier) (ps : List Permit) :=
       (st 5000 fun x => (barrier b (queue ps (service x))).modBc fun c => { c with jamHoldEnd := some 5000 })
     let released (t : State) : LaneState := { t.lane 0 with bc := { (t.lane 0).bc with jamHoldEnd := none } }
     ((s .opened []).lane 0).bc.jamHoldEnd = some 5000 ∧ 5000 ≤ (s .opened []).tmb.ms ∧ ((s .shut []).lane 0).bc.state ≠ .opened
      ∧ ((s .opened []).lane 0).bc.state = .opened ∧ shutMode ((s .opened []).lane 0).lsv.mode = true
      ∧ (released (s .opened [])).failedPoints = [] ∧ ((s .opened []).lane 0).bc.obstruct = false
      ∧ ((s .opened []).lane 0).bc.shutLimit = false
      ∧ (released (s .opened [permit 1 .ready 9000])).failedPoints ≠ []) := by decide +kernel
theorem witness_ShutFeasibility :
    (let far := track 22 5 6
     let near := track 22 6 7
     far.dir = some .entry ∧ far.crossed = false ∧ far.bound = none
      ∧ (assess Geometry.reset Timing.reset far false).map (·.distance) = some 60
      ∧ (assess Geometry.reset Timing.reset near false).map (·.distance) = some 0) := by decide

/-- A merge of two ENTRY tracks: the one behind is a rear member, infeasible whatever its distance (R80). -/
theorem witness_RearAssessed :
    (let m (n : Nat) : Track := { track n 2 3 with merged := true }
     let l := (work fun x => { x with ot := tracker [m 1, m 2] }).lane
     (l.assessments.map fun a => (a.track, a.distance, a.feasible)) = [(1, 240, false), (2, 240, false)]
      ∧ (l.assessments.map fun a => a.arithmetic.isSome) = [false, true]
      ∧ (m 1).crossed = false ∧ (m 1).bound = none
      ∧ (assess l.geo l.timing { m 1 with crossed := true } true).isNone = true) := by decide +kernel
/-- UNSET tracks on either side of the line and across it (R80). -/
theorem witness_UnsetAssessed :
    (let unset (lo hi : Nat) : Track := { track 1 lo hi with dir := none }
     ([unset 0 6, unset 0 7, unset 7 8, unset 8 9, unset 9 9].map fun x =>
        (assess Geometry.reset Timing.reset x false).map (·.distance)) = [some 60, some 0, some 0, some 0, some 60]) := by
  decide +kernel
theorem witness_BarrierConditions :
    (let l (f : LaneState → LaneState) := (work fun x => f (service x)).lane
     let stuck (x : LaneState) : LaneState := x.modBsu fun u => { u with causes := { u.causes with guardStuck := true } }
     let posture (p : Posture) (x : LaneState) : LaneState := x.modBc fun c => { c with posture := p }
     let through := { track 1 9 9 with bound := some (copy 5 .badge), crossed := true }
     (l (queue [permit 1 .ready 9])).failedPoints = [1]
      ∧ (l fun x => stuck (queue [permit 1 .ready 9] x)).opensFromShut = false
      ∧ (l fun x => stuck (posture .opened x)).opensFromShut = true ∧ (l stuck).failedPoints = [6]
      ∧ (l fun x => { x with ot := tracker [through] }).failedPoints = [4]
      ∧ (l fun x => { x with ot := tracker [{ through with ext := { lo := 10, hi := 10 } }] }).failedPoints = []) := by
  decide +kernel
/-- A track at the line shows the tailgate risk at the lobby side: under the ENTRY claim, and of its own without a claim (R103). -/
theorem witness_EvaluationShowsRisk :
    (let l (c : Option Direction) : LaneState :=
       (work fun x => ({ service x with ot := tracker [track 1 6 7] } : LaneState).modPq fun q => { q with claim := c }).lane
     (l none).failedPoints = [5]
      ∧ ((l none).recordEvaluation 7).lsv.riskLobby = true ∧ ((l none).recordEvaluation 7).lsv.riskSecure = false
      ∧ ((l (some .exit)).recordEvaluation 7).lsv.riskLobby = false ∧ ((l (some .exit)).recordEvaluation 7).lsv.riskSecure = true) := by
  decide +kernel

/-! ## Witnesses: passages, lines, lanes -/

theorem witness_CompletionUpdatesRecord :
    (let c := copy 40112 .badge
     let found (u : Option Nat) := ([cred 40112 u].find? fun y => y.number == 40112)
     c.credential = some 40112 ∧ c.origin = .badge ∧ Mode.service ≠ .egress ∧ found (some 1) = some (cred 40112 (some 1))
      ∧ found (some 2) = some (cred 40112 (some 2)) ∧ found none = some (cred 40112 none)
      ∧ (∀ y ∈ [cred 5 none], y.number ≠ 40112) ∧ (copy 1 .pulse).origin = .pulse ∧ (copy 1 .free).origin = .free) := by decide
theorem witness_PassageEnds :
    (let bound : Track := { track 7 0 1 with bound := some (copy 5 .badge) }
     let w (n : Nat) : Work := work fun l => queue ((List.range n).map fun i => permit (i + 2) .ready 8000) (service l)
     (track 7 0 1).bound = none ∧ bound.bound = some (copy 5 .badge) ∧ (copy 5 .badge).number = 1
      ∧ (∃ p ∈ (work fun l => queue [permit 1 .ready 8000] (service l)).lane.pq.permits, p.number = (copy 5 .badge).number)
      ∧ (∀ p ∈ (w 3).lane.pq.permits, p.number ≠ (copy 5 .badge).number) ∧ (w 3).lane.lsv.mode = .service
      ∧ (w 3).lane.pq.permits.length < 4 ∧ (w 3).lane.pq.claim = some .entry
      ∧ (∀ p ∈ (w 4).lane.pq.permits, p.number ≠ (copy 5 .badge).number) ∧ ¬(w 4).lane.pq.permits.length < 4) := by decide +kernel
theorem witness_Crossings :
    (let ready := work fun l => queue [permit 1 .awaitingEscort 9, permit 2 .ready 9] (service l)
     let waits (m : Mode) := work fun l => queue [permit 1 .awaitingEscort 9] (mode m .badged .badged l)
     ({ track 1 0 9 with exempt := true } : Track).exempt = true ∧ (track 1 0 9).exempt = false
      ∧ (∀ p ∈ (waits .egress).lane.pq.permits, ¬(p.dir = .entry ∧ p.state = .ready)) ∧ (waits .egress).lane.lsv.mode = .egress
      ∧ (∀ p ∈ (waits .service).lane.pq.permits, ¬(p.dir = .entry ∧ p.state = .ready)) ∧ (waits .service).lane.lsv.mode ≠ .egress
      ∧ ready.lane.pq.permits = [permit 1 .awaitingEscort 9] ++ permit 2 .ready 9 :: []
      ∧ (∀ q ∈ [permit 1 .awaitingEscort 9], ¬(q.dir = .entry ∧ q.state = .ready))
      ∧ (permit 2 .ready 9).dir = .entry ∧ (permit 2 .ready 9).state = .ready
      ∧ (permit 2 .ready 9).allowance ≤ (permit 2 .ready 9).used + 1
      ∧ (permit 2 .ready 9).used + 1 < ({ permit 2 .ready 9 with allowance := 2 } : Permit).allowance) := by decide +kernel
theorem witness_LossLoiterOverflow :
    (work (mode .egress .free .free)).lane.lsv.mode = .egress ∧ (work service).lane.lsv.mode ≠ .egress
      ∧ (let l := ((st 30000 fun l => { service l with ot := tracker [track 1 0 1] }).work 0).lane
         ((l.ot.tracks.filter fun x => !x.loitered && decide (l.timing.loiter * 1000 ≤ 30000 - x.born)).map (·.number)) = [1])
      ∧ [({ lo := 0, hi := 1 } : Extent)] ≠ [] := by decide +kernel
theorem witness_FreeService :
    (let w (a b : Setting) (ts : List Track) : Work := work fun l => { mode .service a b l with ot := tracker ts }
     let back : Track := { track 2 14 15 with dir := some .exit }
     ((w .free .barred [track 1 0 1]).lane.lsv.policy.setting .entry = .free ∧ (w .free .barred [track 1 0 1]).lane.lsv.policy.setting .exit ≠ .free
        ∧ (w .free .barred [track 1 0 1]).lane.pq.claim = none
        ∧ (freeService ((st 0 id).env 0) (w .free .barred [track 1 0 1])).lane.pq.permits.length = 1)
      ∧ ((w .free .free [track 1 0 1, back]).lane.lsv.policy.entry = .free ∧ (w .free .free [track 1 0 1, back]).lane.lsv.policy.exit = .free
        ∧ (w .free .free [track 1 0 1, back]).lane.pq.permits = []
        ∧ (freeService ((st 0 id).env 0) (w .free .free [track 1 0 1, back])).lane.pq.claim = some .entry)
      ∧ (w .badged .barred []).lane.lsv.policy.entry ≠ .free ∧ (work id).lane.lsv.mode ≠ .service
      ∧ (work fun l => { queue [{ permit 1 .ready 9 with dir := .exit }] (mode .service .free .barred l) with ot := tracker [] }).lane.pq.claim
          = some .exit) := by decide +kernel
theorem witness_EgressAssert :
    State.reset.egressLine = false ∧ ((st 0 (mode .egress .barred .barred)).lane 0).lsv.mode = .egress
      ∧ (State.reset.lane 0).lsv.mode ≠ .egress ∧ ({ State.reset with egressLine := true } : State).egressLine = true := by
  decide +kernel
theorem witness_LaneDeadlines :
    (let s := st 30000 fun l =>
       ((l.modLsv fun v =>
          { v with hold := some 30000, alarms := { v.alarms with tamper := { set := true, deadline := some 30000, raises := 1 } } }))
     30000 ≤ s.tmb.ms ∧ ((s.lane 0).lsv.alarms.latched .tamper).deadline = some 30000 ∧ (s.lane 0).lsv.hold = some 30000) := by
  decide +kernel
theorem witness_ClassCondition :
    (let c (x : Condition) (a b : Nat) : ClassRec := { ClassRec.reset x with windowStart := a, windowEnd := b }
     (c .always 0 0).condition = .always ∧ (c .never 0 0).condition = .never ∧ (c .deskKey 0 0).condition = .deskKey
      ∧ (c .noDeskKey 0 0).condition = .noDeskKey ∧ (c .clockSet 0 0).condition = .clockSet
      ∧ (c .dayWindow 5 5).condition = .dayWindow ∧ (c .dayWindow 5 5).windowStart ≤ (c .dayWindow 5 5).windowEnd
      ∧ (c .dayWindow 6 5).windowEnd < (c .dayWindow 6 5).windowStart
      ∧ ((c .dayWindow 5 5).holds (some 300) false = true ∧ (c .dayWindow 6 5).holds (some 359) false = true)) := by decide

/-! ## Witnesses: reads and referrals -/

/-- Lane 1 in SERVICE behind a PRESENT port 1, with a record of class 0. -/
def reading (f : LaneState → LaneState) : State :=
  { (port (fun r => { r with state := .present }) (st 0 fun l => f (service l))) with
    cst := { State.reset.cst with creds := [cred 40112 none] } }

theorem witness_CardReadEarlySteps :
    1 ≤ 2 ^ 64 - 1 ∧ 2 ^ 64 - 1 < 2 ^ 64
      ∧ ((port (fun r => { r with state := .tampered }) State.reset).port 0).state = .tampered
      ∧ ((reading id).port 0).state ≠ .tampered ∧ (State.reset.port 0).state ≠ .tampered ∧ (State.reset.lane 0).lsv.mode = .dark
      ∧ ((reading (mode .egress .badged .badged)).lane 0).lsv.mode = .egress
      ∧ ((reading (mode .lockdown .badged .badged)).lane 0).lsv.mode = .lockdown
      ∧ ((reading fun l => l.modLsv fun v => { v with sensorMark := true }).lane 0).lsv.sensorMark = true
      ∧ (((reading id).lane 0).lsv.sensorMark = false ∧ ((reading id).lane 0).lsv.barrierMark = false)
      ∧ ((reading fun l => l.modLsv fun v => { v with pending := some { mode := .closed, policy := .barred, link := .site } }).lane
          0).lsv.pending ≠ none
      ∧ ((reading (mode .service .barred .badged)).lane 0).lsv.policy.entry = .barred
      ∧ ((reading (mode .service .free .badged)).lane 0).lsv.policy.entry = .free
      ∧ ((reading id).lane 0).lsv.policy.entry = .badged
      ∧ ((reading fun l => l.modPq fun q => { q with claim := some .exit }).lane 0).pq.claim = some .exit := by decide +kernel
theorem witness_CardReadGrantsOrRefers :
    (let s := reading id
     (s.port 0).state = .present ∧ (s.lane 0).lsv.mode = .service ∧ (s.lane 0).lsv.policy.setting (portDir 0) = .badged
      ∧ (s.lane 0).lsv.sensorMark = false ∧ (s.lane 0).lsv.barrierMark = false ∧ (s.lane 0).lsv.pending = none
      ∧ (s.lane 0).pq.claim = none ∧ s.held 40112 = false ∧ s.held 88001 = false
      ∧ findCred 40112 s.cst.creds = some (cred 40112 none) ∧ (cred 40112 none).state = .active
      ∧ (s.cst.cls 0).alwaysRefer = false ∧ (s.cst.cls 0).allows (portLane 0) (portDir 0) = true
      ∧ (s.cst.cls 0).holds s.clock s.deskKey = true ∧ (s.cst.cls 0).passback = .off ∧ (s.lane 0).pq.permits.length < 4
      ∧ (s.port 0).tx.length < 4 ∧ findCred 88001 s.cst.creds = none ∧ s.rfu.slots.length < 8 ∧ s.site.queue.length < 64)
      := by decide +kernel
/-- Lane 1 in a mode behind a PRESENT port 1, with one record and the class records changed. -/
def judging (m : Mode) (c : Cred) (f : ClassRec → ClassRec) : State :=
  { (port (fun r => { r with state := .present }) (st 0 (mode m .badged .badged))) with
    cst := { creds := [c], classes := State.reset.cst.classes.map f } }

/-- A record with a validity window. -/
def windowed (first last : Option Nat) : Cred := { cred 40112 none with validFrom := first, validUntil := last }

/-- The clock set to a time. -/
def clockAt (t : Nat) (s : State) : State := { s with tmb := { s.tmb with valid := true, base := t } }

theorem witness_AdmitsRead :
    ((judging .service (cred 40112 none) id).lane (portLane 0)).admitsRead (portDir 0)
      ∧ ((judging .lockdown (cred 40112 none) id).lane (portLane 0)).admitsRead (portDir 0)
      ∧ ((judging .service (cred 40112 none) id).port 0).state ≠ .tampered := by
  unfold LaneState.admitsRead LaneState.healthy claimAllows
  decide +kernel
theorem witness_LookupDenies :
    (let s := judging .service (cred 40112 none) id
     findCred 88001 s.cst.creds = none ∧ findCred 40112 s.cst.creds = some (cred 40112 none) ∧ s.classPasses 0 0
      ∧ s.judgedHere 0 (cred 40112 none) ∧ s.classAdmits 0 (cred 40112 none) ∧ (clockAt 9 s).clock = some 9)
      ∧ ((judging .lockdown (cred 40112 none) id).lane (portLane 0)).lsv.mode = .lockdown
      ∧ ¬(judging .lockdown (cred 40112 none) id).classPasses 0 0
      ∧ (judging .lockdown (cred 40112 none) fun c => { c with lockdownPass := true }).classPasses 0 0
      ∧ (((judging .service (cred 40112 none) fun c => { c with mask := 0 }).cst.cls 0).allows (portLane 0) (portDir 0) = false)
      ∧ ((judging .service (cred 40112 none) fun c => { c with condition := .never }).cst.cls 0).holds none false = false
      ∧ (windowed (some 10) none).validFrom = some 10 ∧ (windowed none (some 8)).validUntil = some 8 := by
  unfold State.judgedHere State.classAdmits State.classPasses
  decide +kernel
theorem witness_ReferredReads :
    (judging .service (cred 40112 none) id).refersRead 0 none .notInTable
      ∧ (judging .service (cred 40112 none) fun c => { c with alwaysRefer := true }).refersRead 0 (some (cred 40112 none)) .classRefer
      ∧ (judging .service (windowed (some 10) none) id).refersRead 0 (some (windowed (some 10) none)) .noClock := by
  unfold State.refersRead State.judgedHere State.classAdmits State.classPasses
  exact ⟨by decide +kernel, ⟨_, rfl, by decide +kernel⟩, ⟨_, rfl, by decide +kernel⟩⟩
theorem witness_ReferredReadsSettled :
    (let s := judging .service (cred 40112 none) id
     let full (x : State) : State := { x with rfu := { x.rfu with slots := (List.range 8).map fun i => slot (i + 1) 1500 none } }
     let notice : Notice :=
       { lane := 0, ms := 0, seconds := 0, clockValid := false, body := .start .notRequested .power none 0 0 false }
     let busy (x : State) : State := x.modLink .site fun q => { q with queue := List.replicate 64 notice }
     ({ s with rfu := { s.rfu with slots := [slot 1 1500 none] } } : State).held 88001 = true ∧ s.held 40112 = false
      ∧ s.rfu.slots.length < 8 ∧ (s.cardHeard 0).site.queue.length < 64 ∧ 8 ≤ (full s).rfu.slots.length
      ∧ (full s).held 40112 = false ∧ 64 ≤ ((busy s).cardHeard 0).site.queue.length ∧ (s.cst.cls 0).fallback = .deny
      ∧ ((judging .service (cred 40112 none) fun c => { c with fallback := .grant }).cst.cls 0).fallback = .grant
      ∧ (s.lane 0).pq.permits.length < 4 ∧ 4 ≤ ((queued 4).lane 0).pq.permits.length) := by decide +kernel
theorem witness_FoundReads :
    (let s (b : Passback) := judging .service (cred 40112 none) fun c => { c with passback := b }
     (∀ b, (s b).passesLookup 0 (cred 40112 none)) ∧ ((s .hard).cst.cls 0).passback = .hard ∧ ((s .soft).cst.cls 0).passback = .soft
      ∧ passbackRead .inside (portDir 0) ∧ passbackRead .outside (portDir 1) ∧ ¬passbackRead .unknown (portDir 0)
      ∧ (s .hard).held 40112 = false ∧ ((s .hard).lane 0).pq.permits.length < 4)
      ∧ (clockAt 9 (judging .service (windowed (some 9) (some 9)) id)).passesLookup 0 (windowed (some 9) (some 9)) := by
  unfold State.passesLookup State.judgedHere State.classAdmits State.classPasses passbackRead
  refine ⟨⟨fun b => ?_, by decide +kernel⟩, by decide +kernel, by decide +kernel, .inr ⟨9, by decide +kernel, ?_, ?_⟩⟩
  · cases b <;> exact ⟨by decide +kernel, by decide +kernel, .inl ⟨rfl, rfl⟩⟩
  · intro f hf
    exact Nat.le_of_eq (Option.some.inj hf).symm
  · intro u hu
    exact Nat.le_of_eq (Option.some.inj hu)
/-- Each end of the re-check comes about, and its pass. -/
theorem witness_Recheck :
    (let s (m : Mode) (f : LaneState → LaneState) : State := st 0 fun l => f (mode m .badged .badged l)
     (s .closed id).RecheckEnds 0 5 none .deny .laneClosed 2 ∧ (s .egress id).RecheckEnds 0 5 none .free .egress 2
      ∧ (s .lockdown id).RecheckEnds 0 5 none .deny .lockdown 2
      ∧ (s .service fun l => l.modLsv fun v => { v with sensorMark := true }).RecheckEnds 0 5 none .deny .laneFault 3
      ∧ (s .service fun l => l.modLsv fun v => { v with pending := some { mode := .closed, policy := .barred, link := .site } }).RecheckEnds
          0 5 none .deny .modeChanging 3
      ∧ (st 0 (mode .service .barred .badged)).RecheckEnds 0 5 none .deny .directionBarred 3
      ∧ (st 0 (mode .service .free .badged)).RecheckEnds 0 5 none .free .freeDirection 3
      ∧ (s .service fun l => l.modPq fun q => { q with claim := some .exit }).RecheckEnds 0 5 none .deny .laneBusy 4
      ∧ (queued 1).RecheckEnds 0 40112 none .deny .duplicate 6 ∧ (queued 4).RecheckEnds 0 5 none .deny .queueFull 8
      ∧ (queued 3).recheckPasses 0 5 none)
      ∧ (judging .lockdown (cred 40112 none) fun c => { c with lockdownPass := true }).recheckPasses 0 5 (some 0) := by
  unfold State.recheckPasses
  refine ⟨⟨.closed ?_, .egress ?_, .lockdown ?_ ?_, .health ?_ ?_, .pending ?_ ?_ ?_, .barred ?_ ?_ ?_ ?_, .free ?_ ?_ ?_ ?_,
    .claim ?_ ?_, .duplicate ?_ ?_ ?_, .room ?_ ?_ ?_ ?_, ?_, ?_, ?_, ?_⟩, ⟨.inr ⟨?_, 0, rfl, ?_⟩, ?_⟩, ?_⟩
  all_goals
    try unfold State.laneGoesOn
    try unfold State.modeGoesOn
    try unfold LaneState.healthy
    try unfold claimAllows
  all_goals decide +kernel
theorem witness_EarlyDeadline :
    (let s : State := { st 1499 id with rfu := { slots := [slot 255 1500 none], tagCounter := 1 } }
     s.slot 255 = some (slot 255 1500 none) ∧ s.tmb.ms < (slot 255 1500 none).deadline ∧ s.slot 1 = none) := by decide +kernel
theorem witness_ReferralDeadline :
    (let s (f : Fallback) : State :=
       { st 1500 (fun l => { service l with timing := { l.timing with unknownFallback := f } }) with
         rfu := { slots := [slot 255 1500 none], tagCounter := 1 } }
     let freed : State := { s .grant with rfu := { slots := [], tagCounter := 1 } }
     (s .deny).slot 255 = some (slot 255 1500 none) ∧ (slot 255 1500 none).deadline ≤ (s .deny).tmb.ms
      ∧ ((s .deny).lane 0).timing.unknownFallback = .deny ∧ ((s .grant).lane 0).timing.unknownFallback = .grant
      ∧ ((s .grant).lane 0).lsv.mode = .service ∧ ((s .grant).lane 0).pq.claim = none ∧ freed.held 88001 = false
      ∧ ((s .grant).lane 0).pq.permits.length < 4 ∧ ((s .grant).port 0).tx.length < 4) := by decide +kernel

/-! ## Witnesses: reader ports -/

theorem witness_PortStateMoves :
    (let s (x : PortState) := port (fun r => { r with state := x, lastGood := some 0 }) (st 3000 id)
     ((s .absent).port 0).state = .absent ∧ ((s .present).port 0).state = .present ∧ ((s .tampered).port 0).state = .tampered
      ∧ ((s .present).port 0).state ≠ .tampered ∧ ((s .present).port 0).lastGood = some 0 ∧ ((s .present).port 0).state ≠ .absent
      ∧ 0 + ((s .present).lane (portLane 0)).timing.silenceTime * 1000 ≤ (s .present).tmb.ms) := by decide +kernel
theorem witness_BadFrame :
    (let s (n : Nat) := port (fun r => { r with bad := n, rx := some { bytes := [0x5A], last := 0 } }) (st 10 id)
     ((s 1).port 0).bad + 1 ≤ ((s 1).lane (portLane 0)).timing.retryLimit
      ∧ ((s 2).lane (portLane 0)).timing.retryLimit < ((s 2).port 0).bad + 1
      ∧ ((s 1).port 0).rx = some { bytes := [0x5A], last := 0 } ∧ 0 + 10 ≤ (s 1).tmb.ms) := by decide +kernel
theorem witness_SentFrame :
    ((port (fun r => { r with tx := [.nak] }) State.reset).port 0).tx = .nak :: []
      ∧ ((desk (fun q => { q with tx := [replyOf .save 1 .ok []] }) State.reset).link .desk).tx = replyOf .save 1 .ok [] :: [] := by
  decide +kernel
theorem witness_ReaderBytes :
    (let s (bs : List Byte) := port (fun r => { r with rx := some { bytes := bs, last := 0 } }) (st 10 id)
     (State.reset.port 0).rx = none ∧ (0x43#8 ≠ 0x5A#8) ∧ (s [0x5A]).tmb.ms ≤ 0 + 10
      ∧ ((s [0x5A]).port 0).rx = some { bytes := [0x5A#8], last := 0 } ∧ (0x44#8 ≠ 0x43#8 ∧ 0x44#8 ≠ 0x53#8)
      ∧ ((s [0x5A, 0x53, 1]).port 0).rx = some { bytes := [0x5A#8, 0x53#8, 1#8], last := 0 }
      ∧ crc8 [0x5A#8, 0x53#8, 1#8] ≠ 0#8 ∧ (1 : Byte).toNat ≤ 1 ∧ 1 < (2 : Byte).toNat
      ∧ ((s [0x5A, 0x43, 1, 7]).port 0).rx = some { bytes := 0x5A#8 :: 0x43#8 :: BitVec.ofNat 8 [7#8].length :: [7#8], last := 0 }
      ∧ fromLe [7#8] ≠ 0 ∧ fromLe [0#8] = 0 ∧ (List.replicate 8 255#8).length ≤ 8) := by decide +kernel
theorem witness_ReaderBytesGathered :
    (let s (now : Nat) (bs : List Byte) := port (fun r => { r with rx := some { bytes := bs, last := 0 } }) (st now id)
     ((s 11 [0x5A]).port 0).rx = some { bytes := [0x5A], last := 0 } ∧ 0 + 10 < (s 11 [0x5A]).tmb.ms
      ∧ ((s 10 [0x5A, 0x43]).port 0).rx = some { bytes := [0x5A#8, 0x43#8], last := 0 } ∧ 1 ≤ (8#8).toNat ∧ (8#8).toNat ≤ 8
      ∧ (0#8).toNat = 0 ∧ 8 < (9#8).toNat ∧ [1, 2, 3, 4, 5, 6, (7 : Byte)].length < (8#8).toNat
      ∧ ((s 10 [0x5A, 0x53]).port 0).rx = some { bytes := [0x5A#8, 0x53#8], last := 0 }) := by decide +kernel
/-- A CARD frame of card 7 with its CRC-8 is the event READER_CARD_FRAME. -/
theorem test_card_frame_bytes :
    judgeReader [0x5A, 0x43, 1, 7, crc8 [0x5A, 0x43, 1, 7]] = .card 7
      ∧ judgeReader [0x5A, 0x53, 1, crc8 [0x5A, 0x53, 1]] = .status true
      ∧ judgeReader [0x5A, 0x43, 9] = .bad := by decide +kernel

/-! ## Witnesses: links and checks -/

/-- The desk link with a full transmit list. -/
def full : State := desk (fun q => { q with tx := List.replicate 4 (replyOf .save 1 .ok []) }) State.reset

theorem witness_DiscardedFrames :
    (let s := desk (fun q => { q with rx := some { bytes := [0xA5], last := 0 } }) (st 20 id)
     (s.link .desk).rx = some { bytes := [0xA5], last := 0 } ∧ 0 + 20 ≤ s.tmb.ms) ∧ 4 ≤ (full.link .desk).tx.length := by decide +kernel
theorem witness_LinkBytes :
    (State.reset.link .desk).rx = none ∧ 0x00#8 ≠ 0xA5#8
      ∧ ((1#8).toNat + 256 * (0#8).toNat < 2) ∧ (1024 < (1#8).toNat + 256 * (4#8).toNat) ∧ ([] : List Byte).length ≤ 1022
      ∧ (List.replicate 1022 0#8).length ≤ 1022
      ∧ judgeLink [0xA5, 2, 0, 9, 0x42, BitVec.ofNat 8 (crc16 [2, 0, 9, 0x42]).toNat,
            BitVec.ofNat 8 ((crc16 [2, 0, 9, 0x42]).toNat / 256)] = .frame 9 0x42 [] := by decide +kernel
theorem witness_LinkBytesGathered :
    (let s (now : Nat) (bs : List Byte) := desk (fun q => { q with rx := some { bytes := bs, last := 0 } }) (st now id)
     ((s 21 [0xA5]).link .desk).rx = some { bytes := [0xA5], last := 0 } ∧ 0 + 20 < (s 21 [0xA5]).tmb.ms
      ∧ (s 20 [0xA5]).tmb.ms ≤ 0 + 20 ∧ 2 ≤ (2#8).toNat + 256 * (0#8).toNat ∧ (0#8).toNat + 256 * (4#8).toNat ≤ 1024
      ∧ [9#8, 0x42#8].length ≤ (2#8).toNat + 256 * (0#8).toNat ∧ (2#8).toNat + 256 * (0#8).toNat = 2 + ([] : List Byte).length
      ∧ ((s 20 (0xA5 :: ([2, 0, 9, 0x44] ++ [7]))).link .desk).rx = some { bytes := 0xA5#8 :: ([2, 0, 9, 0x44] ++ [7]), last := 0 }
      ∧ (crc16 [2, 0, 9, 0x44]).toNat
          = (BitVec.ofNat 8 (crc16 [2, 0, 9, 0x44]).toNat : Byte).toNat
            + 256 * (BitVec.ofNat 8 ((crc16 [2, 0, 9, 0x44]).toNat / 256) : Byte).toNat
      ∧ (crc16 [2, 0, 9, 0x44]).toNat ≠ 0 + 256 * (0#8).toNat ∧ RequestKind.save.code = (BitVec.ofNat 8 RequestKind.save.code : Byte).toNat)
      := by decide +kernel
theorem witness_RequestChecks :
    4 ≤ (full.link .desk).tx.length ∧ (State.reset.link .desk).tx.length < 4 ∧ [0#8].length ≠ RequestKind.save.payloadLength [0]
      ∧ ((State.reset.link .desk).tx.length < 4 ∧ [0#8].length = RequestKind.laneStatus.payloadLength [0])
      ∧ [7#8].length = RequestKind.laneStatus.payloadLength [7] ∧ RequestKind.laneStatus.carriesLane = true
      ∧ byteAt [0] 0 < 1 ∧ 6 < byteAt [7] 0 ∧ (0xFF#8).toNat ∉ requestCodes ∧ (0x44#8).toNat ∉ requestCodes := by decide +kernel
/-- LANE_TRACKS tells the tracker of the last frame event: EXEMPT flags, trimmed histories, a lane reset and a dropped read show in the
tracker and not in the report, a valid or a faulty frame brings the report up to date, and ages run on (R43, Log 48). -/
theorem test_tracks_as_of_last_frame :
    (let seen : List Track := [{ track 1 4 5 with history := [120, 180, 360] }]
     let walking : State := st 20 fun l => ({ service l with ot := tracker seen } : LaneState).recordTracks
     let reports (o : Host.Outcome State Fault Refusal) (ts : List Track) (now : List Track) : Bool :=
       match o with
       | .next t => decide ((t.lane 0).reported.tracks = ts ∧ (t.lane 0).ot.tracks = now)
       | .fault _ => false
       | .refused _ => false
     let exempt := seen.map fun x => { x with exempt := true }
     let forced := walking.modLane 0 fun l => { l with ot := tracker exempt }
     let read (r : ChainRead) := forced.modLane 0 fun l => l.modBsu fun b => { b with read := r }
     reports (exec (.laneMode .desk 1 [1, 0, 1, 1, 1, 1]) walking) seen exempt = true
      ∧ ((walking.lane 0).applyTiming { Timing.reset with tf := 20 }).reported.tracks = seen
      ∧ reports (exec (.laneReset .desk 1 [1]) walking) seen [] = true
      ∧ reports (exec (.chainReadComplete 0 [] { crossings := [], completions := [] }) (read .discarding)) seen exempt = true
      ∧ reports (exec (.chainReadComplete 0 [] { crossings := [], completions := [] }) (read .reading)) exempt exempt = true
      ∧ (walking.lane 0).tracksReply 21 ≠ (walking.lane 0).tracksReply 20
      ∧ (forced.lane 0).tracksReply 20 = (walking.lane 0).tracksReply 20) := by decide +kernel
theorem witness_Queries :
    (let s : State := { State.reset with cst := { State.reset.cst with creds := [cred 5 none] } }
     (s.link .site).tx.length < 4 ∧ [1#8].length = RequestKind.laneStatus.payloadLength [1]
      ∧ [6#8].length = RequestKind.laneTracks.payloadLength [6] ∧ [6#8].length = RequestKind.lanePermits.payloadLength [6]
      ∧ byteAt [6] 0 = laneNumber 5 ∧ ([] : List Byte).length = RequestKind.deviceStatus.payloadLength []
      ∧ (le 8 5).length = RequestKind.credGet.payloadLength (le 8 5) ∧ findCred (natAt (le 8 5) 0 8) s.cst.creds = some (cred 5 none)
      ∧ findCred (natAt (le 8 6) 0 8) s.cst.creds = none
      ∧ (le 8 5 ++ [8]).length = RequestKind.credScan.payloadLength (le 8 5 ++ [8]) ∧ byteAt (le 8 5 ++ [8]) 8 ≤ 8
      ∧ [15#8].length = RequestKind.classGet.payloadLength [15] ∧ byteAt [15] 0 = (15 : ClassNo).val) := by decide +kernel

/-- Lane 1 under desk hold. -/
def held : State := st 0 fun l => (service l).modLsv fun v => { v with hold := some 600000 }

theorem witness_Held :
    (held.link .site).tx.length < 4 ∧ [1#8].length = RequestKind.laneReset.payloadLength [1] ∧ byteAt [1] 0 = laneNumber 0
      ∧ (held.lane 0).lsv.hold ≠ none
      ∧ RequestKind.laneReset ∈ ([.laneMode, .laneGeometry, .laneTiming, .laneReset, .pulse, .cancel, .restore, .alarmAck] :
          List RequestKind) := by decide +kernel
theorem witness_Busy :
    (let s := saveAt .erase 0
     s.saving = true ∧ (s.link .desk).tx.length < 4 ∧ (s.lane 0).lsv.mode ≠ .egress
      ∧ ([] : List Byte).length = RequestKind.credClear.payloadLength []
      ∧ [1, 4, 16, 0, 60, 8, (2 : Byte)].length = RequestKind.laneGeometry.payloadLength [1, 4, 16, 0, 60, 8, 2]
      ∧ (1 :: Timing.reset.bytes).length = RequestKind.laneTiming.payloadLength (1 :: Timing.reset.bytes)
      ∧ ([] : List Byte).length = RequestKind.save.payloadLength [] ∧ [1, 1, (1 : Byte)].length = RequestKind.route.payloadLength [1, 1, 1]
      ∧ byteAt [1, 1, 1] 0 ≠ 0 ∧ [1, (9 : Byte)].length = RequestKind.ident.payloadLength [1, 9] ∧ byteAt [1, 9] 0 % 2 = 1) := by
  decide +kernel

theorem witness_LaneOwnersRefuse :
    (let ok (k : RequestKind) (p : List Byte) : Prop := p.length = k.payloadLength p ∧ byteAt p 0 = laneNumber 0
     let lane (m : Mode) (b : Barrier) (ps : List Permit) := ((st 0 fun l => barrier b (queue ps (mode m .badged .badged l))).lane 0)
     (lane .egress .shut []).lsv.mode = .egress ∧ ok .laneMode [1, 2, 1, 0, 0, 0] ∧ ok .laneMode [1, 1, 0, 0, 0, 0]
      ∧ (saveAt .erase 0).saving = true ∧ ok .laneMode [1, 3, 0, 0, 0, 0] ∧ 2 < byteAt [1, 3, 0, 0, 0, 0] 1
      ∧ ok .laneReset [1] ∧ (lane .service .opening []).bc.state = .opening ∧ (lane .service .shutting []).bc.state = .shutting
      ∧ ok .laneGeometry [1, 1, 4, 0, 20, 2, 2] ∧ ¬((lane .service .shut []).lsv.mode = .dark ∨ (lane .service .shut []).lsv.mode = .closed)
      ∧ (lane .closed .shut []).lsv.mode = .closed ∧ (2 : Nat) < 2 + 1 ∧ ok .laneTiming (1 :: Timing.reset.bytes.set 26 2)
      ∧ 1 < byteAt (1 :: Timing.reset.bytes.set 26 2) 27 ∧ ok .pulse [1, 3, 1] ∧ 2 < byteAt [1, 3, 1] 1 ∧ ok .pulse [1, 2, 8]
      ∧ byteAt [1, 2, 8] 1 = dirCode .exit ∧ ¬((queued 1).lane 0).pq.claim = none ∧ ¬((queued 1).lane 0).pq.claim = some .exit
      ∧ ((queued 4).lane 0).pq.claim = some .entry ∧ 4 ≤ ((queued 4).lane 0).pq.permits.length ∧ ok .cancel [1, 0]
      ∧ ok .alarmAck [1, 1, 10] ∧ (∃ c ∈ ([1, 1, 10].drop 2 : List Byte).map BitVec.toNat, c < 1 ∨ 9 < c)
      ∧ ok .restore [1, 1, 0, 0] ∧ (lane .service .shut []).lsv.mode ≠ .egress) := by decide +kernel
theorem witness_TableOwnersRefuse :
    (let ok (k : RequestKind) (p : List Byte) : Prop := p.length = k.payloadLength p
     let both : List Byte := le 8 5 ++ [0, 0, 1, 3] ++ le 4 9 ++ le 4 8
     State.reset.saving = false ∧ (State.reset.link .desk).tx.length < 4 ∧ ok .credPut (put 0) ∧ natAt (put 0) 0 8 = 0
      ∧ ok .credPut both ∧ byteAt both 11 % 4 = 3 ∧ natAt both 16 4 < natAt both 12 4 ∧ ok .credPut (le 8 5 ++ [0, 0, 1, 4, 0])
      ∧ byteAt (le 8 5 ++ [0, 0, 1, 4, 0]) 12 = 0 ∧ ok .presenceSet (le 8 5 ++ [3]) ∧ 2 < byteAt (le 8 5 ++ [3]) 8
      ∧ ok .presenceSet (le 8 5 ++ [2]) ∧ findCred (natAt (le 8 5 ++ [2]) 0 8) State.reset.cst.creds = none
      ∧ ok .classSet (16 :: (ClassRec.reset .never).bytes) ∧ 15 < byteAt (16 :: (ClassRec.reset .never).bytes) 0
      ∧ ok .classGet [16] ∧ ok .credScan (le 8 0 ++ [9]) ∧ 8 < byteAt (le 8 0 ++ [9]) 8 ∧ ok .fetch [9] ∧ ok .clockSet [2, 0, 0, 0, 0]
      ∧ 1 < byteAt [2, 0, 0, 0, 0] 0 ∧ ok .ident [2] ∧ ¬(byteAt [2] 0 % 2 = 1 ∧ State.reset.saving = true)
      ∧ ok .ident [3, 9] ∧ ok .route [1, 12, 0] ∧ 0 < byteAt [1, 12, 0] 0 ∧ 11 < byteAt [1, 12, 0] (1 + 2 * 0)
      ∧ ok .route [2, 5, 1, 5, 1] ∧ byteAt [2, 5, 1, 5, 1] (1 + 2 * 0) = byteAt [2, 5, 1, 5, 1] (1 + 2 * 1)) := by decide +kernel

/-! ## Witnesses: lane requests -/

theorem witness_LaneMode :
    (let s := st 0 service
     let busy := st 0 fun l => queue [permit 1 .ready 9] (service l)
     (s.link .site).tx.length < 4 ∧ (s.lane 0).lsv.hold = none ∧ Mode.closed ≠ .egress ∧ s.saving = false
      ∧ (s.lane 0).lsv.mode ≠ .egress ∧ Mode.closed ≠ .dark ∧ Mode.closed ≠ .lockdown ∧ Mode.closed ≠ (s.lane 0).lsv.mode
      ∧ (s.lane 0).pq.permits = [] ∧ (s.lane 0).ot.tracks = [] ∧ ¬((busy.lane 0).pq.permits = [] ∧ (busy.lane 0).ot.tracks = [])
      ∧ Mode.service = (s.lane 0).lsv.mode ∧ Policy.mk .badged .badged = (s.lane 0).lsv.policy ∧ Mode.lockdown ≠ .dark)
      ∧ modeRequest [1, 0, 1, 0, 0, 1] =
          some { start := false, current := true, mode := .closed, policy := .barred, force := true } := by
  refine ⟨by decide +kernel, rfl⟩
theorem witness_LaneModeBoth :
    (let s := st 0 service
     s.saving = false ∧ (s.lane 0).lsv.mode ≠ .egress ∧ Mode.lockdown ≠ .dark ∧ Mode.lockdown ≠ .egress ∧ s.mayChange .desk 0
      ∧ (modeRequest [1, 2, 1, 0, 0, 0]).isSome = true ∧ (modeRequest [1, 2, 0, 0, 0, 0]).isSome = false) :=
  ⟨rfl, by decide +kernel, by decide, by decide, .inl rfl, rfl, rfl⟩
/-- A pending mode at the frame of an empty lane, and of one that still holds a permit (R112). -/
theorem witness_PendingModeAtFrame :
    (let slot : PendingMode := { mode := .closed, policy := { entry := .badged, exit := .badged }, link := .site }
     let pending (ps : List Permit) : Work := work fun l => (queue ps (service l)).modLsv fun v => { v with pending := some slot }
     (pending []).lane.lsv.pending = some slot ∧ (pending []).lane.pq.permits = [] ∧ (pending []).lane.ot.tracks = []
      ∧ (pendingFrame (pending [])).lane.lsv.mode = .closed ∧ (pendingFrame (pending [])).out.length = 1
      ∧ (pendingFrame (pending [permit 1 .ready 9])).lane.lsv.mode = .service ∧ (work id).lane.lsv.pending = none) := by decide +kernel
/-- The claim: of the queue, of a bound track, and cleared since the frame before (R48). -/
theorem witness_ClaimAtFrame :
    (let bound := { track 1 3 4 with bound := some (copy 5 .badge) }
     (work (queue [permit 1 .ready 9])).lane.claimNow = some .entry
      ∧ (work fun l => { l with ot := tracker [track 2 0 1, bound] }).lane.claimNow = some .entry
      ∧ (let w := work fun l => l.modPq fun q => { q with frameClaim := some .entry }
         w.lane.claimNow = none ∧ w.lane.pq.frameClaim ≠ none) ∧ (work id).lane.pq.frameClaim = none) := by decide +kernel
theorem witness_Geometry :
    (let s := State.reset
     let ok (bars nb p f sz : Nat) : Prop :=
       1 ≤ bars ∧ bars ≤ 8 ∧ 4 ≤ nb ∧ nb ≤ 32 ∧ 4 * bars ≤ nb + 3 ∧ nb ≤ 4 * bars ∧ 20 ≤ p ∧ p ≤ 150 ∧ 2 ≤ f ∧ f + 2 ≤ nb ∧ 1 ≤ sz ∧ sz ≤ 4
         ∧ sz + 1 ≤ f ∧ f + sz + 1 ≤ nb
     (s.link .site).tx.length < 4 ∧ (s.lane 0).lsv.hold = none ∧ s.saving = false ∧ (s.lane 0).lsv.mode = .dark
      ∧ ((st 0 (mode .closed .barred .barred)).lane 0).lsv.mode = .closed ∧ (s.lane 0).ot.tracks = []
      ∧ ok 1 4 20 2 1 ∧ ok 8 32 150 27 4 ∧ 2 = 4 / 2) := by decide +kernel
theorem witness_Timing :
    (let p : List Byte := 1 :: Timing.reset.bytes
     (State.reset.link .site).tx.length < 4 ∧ p.length = RequestKind.laneTiming.payloadLength p ∧ byteAt p 0 = laneNumber 0
      ∧ (State.reset.lane 0).lsv.hold = none ∧ (State.reset.lane 0).lsv.mode ≠ .egress ∧ State.reset.saving = false
      ∧ timingOfBytes (p.drop 1) = some Timing.reset ∧ Timing.reset.clamped = Timing.reset
      ∧ ({ Timing.reset with tf := 4 } : Timing).clamped ≠ { Timing.reset with tf := 4 }) := by decide +kernel
/-- A T_f comes into force when the frame timer restarts; until then it is neither the period of a speed nor the one that the next
LANE_TIMING is compared with (Table 1-3, R19, R34). -/
theorem test_period_waits_for_restart :
    (let walking : State := st 10 fun l => { l with ot := tracker [{ track 1 4 5 with history := [120, 180, 360] }] }
     let set (tf : Nat) (l : LaneState) : LaneState := l.applyTiming { Timing.reset with tf := tf }
     let once := set 20 (walking.lane 0)
     once.bsu.period = 10 ∧ once.frameTiming.tf = 10 ∧ (once.frameExpiry 10).bsu.period = 20
      ∧ (once.frameExpiry 10).frameTiming.tf = 20 ∧ (once.ot.tracks.map (·.history)) = [[360]]
      ∧ ((set 10 (set 10 (walking.lane 0))).ot.tracks.map (·.history)) = [[120, 180, 360]]
      ∧ ((set 20 ((set 20 (walking.lane 0)).frameExpiry 10)).ot.tracks.map (·.history)) = [[360]]
      ∧ ((set 10 ({ once with ot := (walking.lane 0).ot } : LaneState)).ot.tracks.map (·.history)) = [[120, 180, 360]]) := by
  decide +kernel
/-- Settings below, at and above the ends of their ranges, and the auto-clear setting (R98, R178). -/
theorem test_settings_clamped :
    (let tf (n : Nat) := ({ Timing.reset with tf := n } : Timing).clamped.tf
     let auto (n : Nat) := ({ Timing.reset with autoClear := n } : Timing).clamped.autoClear
     [tf 4, tf 5, tf 50, tf 51] = [5, 5, 50, 50] ∧ [auto 0, auto 1, auto 4, auto 5, auto 300, auto 301] = [0, 5, 5, 5, 300, 300]) := by
  decide
theorem witness_LaneReset :
    (let s := st 0 service
     (s.link .site).tx.length < 4 ∧ [1#8].length = RequestKind.laneReset.payloadLength [1] ∧ byteAt [1] 0 = laneNumber 0
      ∧ (s.lane 0).lsv.hold = none ∧ (s.lane 0).lsv.mode ≠ .egress ∧ (s.lane 0).bc.state ≠ .opening
      ∧ (s.lane 0).bc.state ≠ .shutting) := by decide +kernel
theorem witness_PulseAndCancel :
    (let s := queued 3
     (s.link .site).tx.length < 4 ∧ [1, 1, (8 : Byte)].length = RequestKind.pulse.payloadLength [1, 1, 8]
      ∧ byteAt [1, 1, 8] 0 = laneNumber 0 ∧ (s.lane 0).lsv.hold = none ∧ (s.lane 0).lsv.mode = .service
      ∧ byteAt [1, 1, 8] 1 = dirCode .entry ∧ 1 ≤ byteAt [1, 1, 8] 2 ∧ byteAt [1, 1, 8] 2 ≤ 8 ∧ (s.lane 0).pq.claim = some .entry
      ∧ (s.lane 0).pq.permits.length < 4 ∧ (s.lane 0).bc.state = .shut ∧ (s.lane 0).bsu.causes.any = false
      ∧ (s.lane 0).bc.openLimit = false ∧ [1, (0 : Byte)].length = RequestKind.cancel.payloadLength [1, 0]
      ∧ byteAt [1, 0] 1 = 0 ∧ permit 3 .ready 8000 ∈ (s.lane 0).pq.permits ∧ byteAt [1, 3] 1 = 3
      ∧ (∀ y ∈ (s.lane 0).pq.permits, y.number = 3 → y = permit 3 .ready 8000)
      ∧ (∀ y ∈ (s.lane 0).pq.permits, y.number ≠ byteAt [1, 255] 1)) := by decide +kernel
theorem witness_AlarmAck :
    (let s := st 0 fun l => l.modLsv fun v =>
       { v with alarms := { v.alarms with tailgate := { set := true, deadline := none, raises := 1 }
                                          sensor := { active := true, silenced := false } } }
     let p : List Byte := [1, 2, 1, 9]
     (s.link .site).tx.length < 4 ∧ p.length = RequestKind.alarmAck.payloadLength p ∧ byteAt p 0 = laneNumber 0
      ∧ (s.lane 0).lsv.hold = none ∧ (∀ c ∈ (p.drop 2).map BitVec.toNat, 1 ≤ c ∧ c ≤ 9)
      ∧ latchedCode .tailgate ∈ (p.drop 2).map BitVec.toNat ∧ latchedCode .tamper ∉ (p.drop 2).map BitVec.toNat
      ∧ ((s.lane 0).lsv.alarms.latched .tailgate).set = true ∧ ((s.lane 0).lsv.alarms.condition .sensor).active = true)
      ∧ [1, (0 : Byte)].length = RequestKind.alarmAck.payloadLength [1, 0]
      ∧ ∀ a, ((State.reset.lane 0).lsv.alarms.latched a).set = false := by
  refine ⟨by decide +kernel, by decide +kernel, fun a => by cases a <;> rfl⟩
/-- Acknowledgements that only clear, only silence, and do neither. -/
theorem test_alarm_ack_lists :
    (let silencing := (st 0 fun l => l.modLsv fun v => { v with alarms := { v.alarms with jam := { active := true, silenced := false } } }).lane 0
     (([.jam, .stall, .sensor] : List ConditionKind).filter fun c =>
        decide ((silencing.lsv.alarms.condition c).active = true ∧ (silencing.lsv.alarms.condition c).silenced = false)) = [.jam]
      ∧ ∀ a : LatchedKind, a ∈ ([.tailgate, .intrusion] : List LatchedKind) → (silencing.lsv.alarms.latched a).set = false) := by
  decide +kernel
theorem witness_RestoreHoldRelease :
    (let s := st 0 (mode .egress .badged .badged)
     let p : List Byte := [1, 3, 0, 2]
     (s.link .desk).tx.length < 4 ∧ p.length = RequestKind.restore.payloadLength p ∧ byteAt p 0 = laneNumber 0
      ∧ (s.lane 0).lsv.mode = .egress ∧ byteAt p 1 = Mode.lockdown.code ∧ byteAt p 2 = Setting.barred.code
      ∧ byteAt p 3 = Setting.free.code ∧ s.egressLine = false ∧ ({ s with egressLine := true } : State).egressLine = true
      ∧ [1, (61 : Byte)].length = RequestKind.hold.payloadLength [1, 61] ∧ [1, (0 : Byte)].length = RequestKind.hold.payloadLength [1, 0]
      ∧ [1#8].length = RequestKind.release.payloadLength [1] ∧ (held.lane 0).lsv.hold ≠ none ∧ (s.lane 0).lsv.hold = none) := by
  decide +kernel

/-! ## Witnesses: tables, device, save -/

theorem witness_CredentialTable :
    (let s (cs : List Cred) : State := { State.reset with cst := { State.reset.cst with creds := cs } }
     (s []).saving = false ∧ ((s []).link .site).tx.length < 4 ∧ (put 5).length = RequestKind.credPut.payloadLength (put 5)
      ∧ (putRequest (put 5)).isSome = true ∧ findCred 5 (s []).cst.creds = none ∧ (s []).cst.creds.length < 8192
      ∧ findCred 5 (s [cred 5 none]).cst.creds = some (cred 5 none) ∧ ascending [cred 5 none, cred 6 none] = true
      ∧ (le 8 5).length = RequestKind.credDrop.payloadLength (le 8 5) ∧ findCred (natAt (le 8 5) 0 8) (s [cred 5 none]).cst.creds ≠ none
      ∧ findCred (natAt (le 8 6) 0 8) (s [cred 5 none]).cst.creds = none
      ∧ ([] : List Byte).length = RequestKind.credClear.payloadLength []
      ∧ 8192 ≤ (List.replicate 8192 (cred 6 none)).length ∧ putRequest (put 0) = none) := by decide +kernel
/-- A CRED_PUT with every optional field, and one with none, between two records and over one (R143, Table 12-4). -/
theorem witness_PutRecordWritten :
    (let full := le 8 7 ++ [15, 2, 8, 7] ++ le 4 5 ++ le 4 5 ++ [255]
     let bare := le 8 7 ++ [0, 0, 1, 0]
     let s : State := { State.reset with cst := { State.reset.cst with creds := [cred 5 none, cred 9 none] } }
     s.saving = false ∧ s.reaches .site .credPut full ∧ s.reaches .site .credPut bare ∧ natAt full 0 8 = 7
      ∧ (byteAt full 8, byteAt full 9, byteAt full 10, byteAt full 11) = (15, 2, 8, 7) ∧ natAt full 12 4 = 5 ∧ natAt full 16 4 = 5
      ∧ byteAt full 20 = 255 ∧ s.cst.creds = [cred 5 none] ++ [cred 9 none] ∧ (cred 5 none).number < 7 ∧ 7 < (cred 9 none).number
      ∧ s.cst.creds.length < 8192 ∧ [cred 5 none, cred 7 none, cred 9 none] = [cred 5 none] ++ cred 7 none :: [cred 9 none]) := by
  unfold State.reaches
  decide +kernel
theorem witness_FullTable : findCred 5 (List.replicate 8192 (cred 6 none)) = none := by
  have h : ∀ n, findCred 5 (List.replicate n (cred 6 none)) = none := fun n => by
    simp [findCred, cred]
  exact h 8192
theorem witness_PresenceAndClass :
    (let s : State := { State.reset with cst := { State.reset.cst with creds := [cred 5 none] } }
     s.saving = false ∧ (s.link .site).tx.length < 4
      ∧ (le 8 5 ++ [2]).length = RequestKind.presenceSet.payloadLength (le 8 5 ++ [2])
      ∧ findCred (natAt (le 8 5 ++ [2]) 0 8) s.cst.creds = some (cred 5 none) ∧ ascending s.cst.creds = true
      ∧ byteAt (le 8 5 ++ [2]) 8 = Presence.outside.code ∧ ([] : List Byte).length = RequestKind.presenceReset.payloadLength []
      ∧ (15 :: (ClassRec.reset .never).bytes).length = RequestKind.classSet.payloadLength (15 :: (ClassRec.reset .never).bytes)
      ∧ classOfBytes (ClassRec.reset .never).bytes = some (ClassRec.reset .never)) := by decide +kernel
theorem witness_Decide :
    (let s : State := { st 0 service with rfu := { slots := [slot 255 1500 none], tagCounter := 1 } }
     let freed : State := { s with rfu := { slots := [], tagCounter := 1 } }
     let ok (p : List Byte) : Prop := p.length = RequestKind.decideReq.payloadLength p
     (s.link .desk).tx.length < 4 ∧ ok [255, 2, 0, 0] ∧ ok [255, 1, 8, 1, 15] ∧ byteAt [255, 2, 0, 0] 3 = 0
      ∧ byteAt [255, 1, 8, 1, 15] 3 = 1 ∧ byteAt [255, 1, 8, 1, 15] 4 ≤ 15 ∧ s.slot 254 = none ∧ s.slot 255 = some (slot 255 1500 none)
      ∧ byteAt [255, 2, 0, 0] 1 = 2 ∧ byteAt [255, 1, 8, 1, 15] 1 = 1 ∧ byteAt [255, 1, 8, 1, 15] 2 ≤ 8 ∧ (s.lane 0).lsv.mode = .service
      ∧ (s.lane 0).lsv.policy.setting (portDir 0) = .badged ∧ (s.lane 0).pq.claim = none ∧ freed.held 88001 = false
      ∧ (s.lane 0).pq.permits.length < 4) := by decide +kernel
/-- A DENY with a class above 15, for a slot in use (R154). -/
theorem witness_DenyAnyClass :
    (let s : State := { State.reset with rfu := { State.reset.rfu with slots := [slot 7 100 none] } }
     let p : List Byte := [7, 2, 99, 1, 16]
     s.reaches .desk .decideReq p ∧ byteAt p 3 ≤ 1 ∧ s.slot (byteAt p 0) = some (slot 7 100 none) ∧ byteAt p 1 = 2) := by
  unfold State.reaches
  decide +kernel
theorem witness_DecideRefused :
    (let ok (p : List Byte) : Prop := p.length = RequestKind.decideReq.payloadLength p
     ok [255, 1, 8, 3, 0] ∧ 1 < byteAt [255, 1, 8, 3, 0] 3 ∧ ok [255, 0, 1, 0] ∧ byteAt [255, 0, 1, 0] 1 < 1 ∧ ok [255, 1, 9, 0]
      ∧ 8 < byteAt [255, 1, 9, 0] 2 ∧ ok [255, 1, 1, 1, 16] ∧ 15 < byteAt [255, 1, 1, 1, 16] 4 ∧ ok [255, 1, 1, 0]
      ∧ State.reset.slot (byteAt [255, 1, 1, 0] 0) = none) := by decide +kernel
theorem witness_Device :
    (let ok (k : RequestKind) (p : List Byte) : Prop := p.length = k.payloadLength p
     (State.reset.link .site).tx.length < 4 ∧ ok .fetch [8] ∧ byteAt [8] 0 ≤ 8 ∧ ok .fetch [0] ∧ ok .clockSet [1, 255, 255, 255, 255]
      ∧ byteAt [1, 255, 255, 255, 255] 0 = 1 ∧ ok .clockSet [0, 0, 0, 0, 0] ∧ byteAt [0, 0, 0, 0, 0] 0 = 0 ∧ ok .save []
      ∧ State.reset.saving = false ∧ ok .ident [1, 9] ∧ byteAt [1, 9] 0 = 1 ∧ ok .ident [0] ∧ byteAt [0] 0 = 0
      ∧ NoticeKind.referral ≠ .violation ∧ Route.nowhere ≠ .site) := by decide +kernel
/-- Lists of entries: of distinct kinds, with a kind twice, and with REFERRAL away from the site (R182). -/
theorem witness_RouteLists :
    (let es : List (NoticeKind × Route) := [(.violation, .nowhere), (.read, .both), (.referral, .site)]
     es.length ≤ 11 ∧ ((es.map Prod.fst).Nodup ∧ ∀ x ∈ es, x.1 = .referral → x.2 = .site)
      ∧ ¬(((es ++ es).map Prod.fst).Nodup ∧ ∀ x ∈ es ++ es, x.1 = .referral → x.2 = .site)
      ∧ ¬(∀ x ∈ [(NoticeKind.referral, Route.desk)], x.1 = .referral → x.2 = .site) ∧ NoticeKind.all.length = 11
      ∧ NoticeKind.all.Nodup) := by decide
/-- An IDENT that is refused reports the part and the unit number as it stays (R197, Log 24). -/
theorem test_refused_ident_reports :
    (let s : State := { saveAt .crc 1 with ims := { (saveAt .crc 1).ims with unit := 5 } }
     (judgeIdent [1, 9] s).status = .busy ∧ (judgeIdent [1, 9] s).body = identBytes 5 ∧ (judgeIdent [1, 9] s).state = s
      ∧ (judgeIdent [2] s).status = .badValue ∧ (judgeIdent [2] s).body = identBytes 5 ∧ (identBytes 5).length = 19) := by
  decide +kernel
theorem witness_Save :
    (saveAt .erase 0).ims.saving = some { stage := .erase, written := 0, timerEnd := 6000 }
      ∧ (saveAt .header 0).ims.saving = some { stage := .header, written := 0, timerEnd := 6000 }
      ∧ (saveAt .records 0).ims.saving = some { stage := .records, written := 0, timerEnd := 6000 }
      ∧ (saveAt .crc 1).ims.saving = some { stage := .crc, written := 1, timerEnd := 6000 }
      ∧ (saveAt .records 0).cst.creds[0]? = some (cred 5 none) ∧ 6000 ≤ (saveAt .crc 1).tmb.ms := by decide +kernel

theorem witness_SaveCut :
    (saveAt .erase 0).ims.flash.wf = true ∧ (saveAt .header 0).ims.flash = [] ∧ (1 : Nat) < 2
      ∧ (Memory.writeBytes 0 [0x31, 0x4C] []).formatCode = 0x4C31 ∧ State.reset.ims.saving = none
      ∧ (∀ r, (saveAt .header 0).ims.saving = some r → r.stage ≠ .erase)
      ∧ ({ saveAt .crc 1 with tmb := { State.reset.tmb with ms := 5999 } } : State).tmb.ms < 6000 := by
  refine ⟨by decide +kernel, by decide +kernel, by decide, by decide +kernel, by decide +kernel, ?_, by decide +kernel⟩
  intro r hr
  cases Option.some.inj (show (some { stage := .header, written := 0, timerEnd := 6000 } : Option SaveRun) = some r from hr)
  decide
/-- A save cut short in its erase has erased the format code, and one cut short before the format code has written nothing (Log 30). -/
theorem test_cut_save_leaves_no_image :
    (let s := saveAt .erase 0
     let dirty : State := { s with ims := { s.ims with flash := Memory.writeBytes 0 [0x31, 0x4C, 7] [] } }
     dirty.stageWritten (some 0) { stage := .erase, written := 0, timerEnd := 6000 } = [(2, 7)]
      ∧ (cutBytes .header 1 State.reset.header) = [] ∧ (cutBytes .header 2 State.reset.header).length = 2) := by decide +kernel
/-- The last stage of a save finds a good image behind a whole header, and none where the format code was not written. -/
theorem witness_SaveJudged :
    (let header := Memory.writeBytes 0 State.reset.header []
     (header.writeBytes 416 (le 2 (crc16 (header.readBytes 0 416)).toNat)).judge.1 = .loaded)
      ∧ ∀ b c : Byte, (Memory.writeBytes 416 [b, c] []).judge.1 ≠ .loaded := by
  obtain ⟨i, hi⟩ := witness_GoodImage
  refine ⟨congrArg Prod.fst hi, fun b c => ?_⟩
  have code : (Memory.writeBytes 416 [b, c] []).formatCode = 0xFFFF := by
    unfold Memory.formatCode
    rw [Memory.readBytes_writeBytes_of_outside Memory.wf_nil 0 2 416 [b, c] (.inl (by decide)) (by simp [Config.flashSize])]
    decide
  unfold Memory.judge
  rw [if_pos code]
  decide

/-- Positions that read back altered make a good image a bad one: an erased format code (R191, R193, Log 7). -/
theorem witness_ReadBackAltered :
    (saveAt .crc 0).ims.saving = some { stage := .crc, written := 0, timerEnd := 6000 }
      ∧ (Memory.writeCells [(0, 0xFF), (1, 0xFF)] (Memory.writeBytes 0 [0x31, 0x4C] [])).judge.1 ≠ .loaded := by decide +kernel

/-! ## Witnesses: the laws of every step -/

/-- The premises of the laws hold together at the reset state, which steps on. -/
theorem witness_Laws :
    State.reset.drivesFollow ∧ State.reset.queuesBounded ∧ State.reset.listsBounded ∧ State.reset.lanesBounded
      ∧ State.reset.queuesOneWay ∧ State.reset.slotsTagged ∧ State.reset.tableOrdered ∧ State.reset.routesSound
      ∧ State.reset.flashCanonical ∧ step State.reset = .next (st 1 id) := by
  unfold State.drivesFollow State.queuesBounded State.listsBounded State.lanesBounded State.queuesOneWay State.slotsTagged
    State.tableOrdered State.routesSound State.flashCanonical
  refine ⟨?_, ?_, ?_, ?_, ?_, ?_, ?_, ?_, ?_, rfl⟩ <;> decide +kernel
theorem witness_OutputsDerived : ∀ k, State.reset.lane k = (State.reset.lane k).withOutputs State.reset.rfu.slots k := by
  decide +kernel

end Sys2Proof.Tests
end

/-! What direction finding, the lead history, the speed and the crossing test make of one track (R32 to R36), and the two
statements about them. -/

namespace Sys2Proof.Machine

/-! ## The speed of a history (R34) -/

theorem speedOf_of_length_le_one {history : List Nat} (h : history.length ≤ 1) (tf vNom : Nat) : speedOf tf vNom history = vNom := by
  match history, h with
  | [], _ => rfl
  | [_], _ => rfl

theorem speedOf_ends (tf vNom oldest newest : Nat) (mid : List Nat) :
    speedOf tf vNom (oldest :: (mid ++ [newest])) = min Config.vMax ((newest - oldest) * 1000 / ((mid.length + 1) * tf)) := by
  cases mid with
  | nil => simp [speedOf]
  | cons first rest =>
    have last : (first :: (rest ++ [newest])).getLast? = some newest := List.getLast?_concat (l := first :: rest)
    simp [speedOf, last]

theorem speedOf_le_vMax {vNom : Nat} (h : vNom ≤ Config.vMax) (tf : Nat) (history : List Nat) :
    speedOf tf vNom history ≤ Config.vMax := by
  match history with
  | [] => exact h
  | [_] => exact h
  | _ :: _ :: _ => exact Nat.min_le_left ..

/-- The model's speed, on natural numbers, is the clamped integer speed: a walker who lost ground has a negative quotient, which the
natural subtraction takes for 0. -/
theorem clampedSpeed_eq_int (oldest newest time : Nat) :
    ((min Config.vMax ((newest - oldest) * 1000 / time) : Nat) : Int)
      = max 0 (min 4000 (((newest : Int) - (oldest : Int)) * 1000 / (time : Int))) := by
  rcases Nat.le_total oldest newest with gained | lost
  · have quotient : ((newest : Int) - oldest) * 1000 / time = (((newest - oldest) * 1000 / time : Nat) : Int) := by
      push_cast [Nat.cast_sub gained]
      rfl
    rw [quotient, max_eq_right (le_min (by decide) (Int.natCast_nonneg _)), Nat.cast_min]
    rfl
  · have quotient : ((newest : Int) - oldest) * 1000 / time ≤ 0 := by
      rcases Nat.eq_zero_or_pos time with rfl | positive
      · simp
      · exact Int.ediv_nonpos_of_nonpos_of_neg (by omega) (by omega)
    rw [Nat.sub_eq_zero_of_le lost, Nat.zero_mul, Nat.zero_div]
    omega

/-! ## The lead history (R33 to R35) -/

@[simp] theorem Track.startHistory_history (x : Track) (vNom lead : Nat) (held : Bool) :
    (x.startHistory vNom lead held).history = [lead] := rfl
@[simp] theorem Track.startHistory_peak (x : Track) (vNom lead : Nat) (held : Bool) :
    (x.startHistory vNom lead held).peak = lead := rfl
@[simp] theorem Track.startHistory_speed (x : Track) (vNom lead : Nat) (held : Bool) :
    (x.startHistory vNom lead held).speed = vNom := rfl
@[simp] theorem Track.startHistory_retreating (x : Track) (vNom lead : Nat) (held : Bool) :
    (x.startHistory vNom lead held).retreating = false := rfl
@[simp] theorem Track.startHistory_dir (x : Track) (vNom lead : Nat) (held : Bool) :
    (x.startHistory vNom lead held).dir = x.dir := rfl
@[simp] theorem Track.startHistory_ext (x : Track) (vNom lead : Nat) (held : Bool) :
    (x.startHistory vNom lead held).ext = x.ext := rfl
@[simp] theorem Track.startHistory_crossed (x : Track) (vNom lead : Nat) (held : Bool) :
    (x.startHistory vNom lead held).crossed = x.crossed := rfl

theorem Track.appendLead_speed (x : Track) (p lead : Nat) (t : Timing) :
    (x.appendLead p t lead).speed = speedOf t.tf t.vNom (x.appendLead p t lead).history := rfl
@[simp] theorem Track.appendLead_retreating (x : Track) (p lead : Nat) (t : Timing) :
    (x.appendLead p t lead).retreating = retreatAfter p lead x.peak x.retreating := rfl

theorem retreatAfter_eq (p lead peak : Nat) (was : Bool) :
    retreatAfter p lead peak was = if peak ≤ lead then false else if lead + 2 * p ≤ peak then true else was := by
  unfold retreatAfter
  by_cases fallen : lead + 2 * p ≤ peak <;> simp [fallen]

theorem Track.follow_of_unset {x : Track} (h : x.dir = none) (g : Geometry) (t : Timing) (rear : Bool) : x.follow g t rear = x := by
  simp [Track.follow, h]

theorem Track.follow_of_coasting {x : Track} (h : x.coasting = true) (g : Geometry) (t : Timing) (rear : Bool) :
    x.follow g t rear = x := by
  cases known : x.dir with
  | none => exact follow_of_unset known g t rear
  | some d => simp [Track.follow, known, h]

theorem Track.follow_of_noHistory {x : Track} {d : Direction} (known : x.dir = some d) (seen : x.coasting = false)
    (fresh : x.history = []) (g : Geometry) (t : Timing) (rear : Bool) :
    x.follow g t rear = x.startHistory t.vNom (g.lead d x.ext) rear := by
  simp [Track.follow, known, seen, fresh]

theorem Track.follow_rear {x : Track} {d : Direction} (known : x.dir = some d) (seen : x.coasting = false)
    (started : x.history ≠ []) (g : Geometry) (t : Timing) : x.follow g t true = { x with held := true } := by
  simp [Track.follow, known, seen, started]

/-- A rear member of a merge keeps its stored speed: its history is held (R28, R34). -/
theorem Track.follow_rear_speed {x : Track} (started : x.history ≠ []) (g : Geometry) (t : Timing) :
    (x.follow g t true).speed = x.speed := by
  cases known : x.dir with
  | none => rw [follow_of_unset known]
  | some d =>
    cases seen : x.coasting with
    | true => rw [follow_of_coasting seen]
    | false => rw [follow_rear known seen started]

@[simp] theorem newTrack_speed (g : Geometry) (now n : Nat) (site : Site) : (newTrack g now n site).speed = 0 := rfl
@[simp] theorem newTrack_firstPos (g : Geometry) (now n : Nat) (site : Site) :
    (newTrack g now n site).firstPos = site.ext.lo + site.ext.hi := rfl

/-! ## Direction finding (R32) -/

theorem Track.findDirection_of_coasting {x : Track} (h : x.coasting = true) : x.findDirection = x := by
  simp [Track.findDirection, h]

theorem Track.findDirection_of_unset {x : Track} (unset : x.dir = none) (seen : x.coasting = false) :
    x.findDirection =
      if x.firstPos + 4 ≤ x.ext.lo + x.ext.hi then { x with dir := some .entry }
      else if x.ext.lo + x.ext.hi + 4 ≤ x.firstPos then { x with dir := some .exit }
      else x := by
  simp [Track.findDirection, unset, seen]

/-! ## Stages 6 and 7 on one track (R22, R36) -/

theorem Track.crosses_of_uncrossed {x : Track} {d : Direction} (known : x.dir = some d) (uncrossed : x.crossed = false)
    (g : Geometry) (rear : Bool) : x.crosses g rear = (!rear && decide (g.fd d ≤ g.uhi d x.ext)) := by
  simp [Track.crosses, known, uncrossed]

theorem advance_snd (g : Geometry) (t : Timing) (x : Track) (rear : Bool) :
    (advance g t x rear).2 = (x.follow g t rear).crosses g rear := rfl
@[simp] theorem advance_fst_history (g : Geometry) (t : Timing) (x : Track) (rear : Bool) :
    (advance g t x rear).1.history = (x.follow g t rear).history := rfl
@[simp] theorem advance_fst_crossed (g : Geometry) (t : Timing) (x : Track) (rear : Bool) :
    (advance g t x rear).1.crossed = ((x.follow g t rear).crossed || (advance g t x rear).2) := rfl

/-! ## The statements -/

/-- Settles O11: the three changes of a history by their equations, the quotient of R34 by `clampedSpeed_eq_int`. -/
theorem speedAndRetreat : Obligations.SpeedAndRetreat := by
  refine ⟨fun x vNom lead held => by simp, fun x p lead t => ⟨?single, ?quotient, ?bounded, ?retreat⟩,
    fun x g t rear => ⟨fun unset => Track.follow_of_unset unset g t rear, fun coasts => Track.follow_of_coasting coasts g t rear,
      fun started => Track.follow_rear_speed started g t⟩,
    newTrack_speed⟩
  case single =>
    intro short
    rw [Track.appendLead_speed, speedOf_of_length_le_one short]
  case quotient =>
    intro oldest newest mid ends
    have gaps : (oldest :: (mid ++ [newest])).length - 1 = mid.length + 1 := by simp
    rw [Track.appendLead_speed, ends, speedOf_ends, gaps]
    exact clampedSpeed_eq_int oldest newest _
  case bounded => exact fun nominal => speedOf_le_vMax nominal _ _
  case retreat => rw [Track.appendLead_retreating, retreatAfter_eq]

/-- Settles O12: an UNSET track by the two thresholds, and a track that has just got its direction by the start of its history, which
leaves alone all that the crossing test reads. -/
theorem directionAfterTwoPitches : Obligations.DirectionAfterTwoPitches := by
  refine ⟨fun x unset seen => ?thresholds, fun x coasts => Track.findDirection_of_coasting coasts,
    fun g t x d known seen fresh uncrossed rear => ?sameFrame, newTrack_firstPos⟩
  case thresholds =>
    rw [Track.findDirection_of_unset unset seen]
    refine ⟨fun forward => if_pos forward, fun back => ?_, fun belowEntry aboveExit => ?_⟩
    · rw [if_neg (by omega), if_pos back]
    · rw [if_neg (by omega), if_neg (by omega)]
  case sameFrame =>
    have started := Track.follow_of_noHistory known seen fresh g t rear
    refine ⟨?_, ?_, ?_⟩
    · rw [advance_fst_history, started, Track.startHistory_history]
    · rw [advance_snd, started, Track.crosses_of_uncrossed ((Track.startHistory_dir ..).trans known)
        ((Track.startHistory_crossed ..).trans uncrossed), Track.startHistory_ext]
    · rw [advance_fst_crossed, started, Track.startHistory_crossed, uncrossed, Bool.false_or]

end Sys2Proof.Machine

/-! How an unauthorized crossing is named and handed on (R90, R91, R95), and the statement about it. -/

namespace Sys2Proof.Machine

/-! ## The alarm set (R96) -/

@[simp] theorem AlarmSet.putLatched_latched (a : AlarmSet) (k : LatchedKind) (x : LatchedAlarm) : (a.putLatched k x).latched k = x := by
  cases k <;> rfl
@[simp] theorem LatchedAlarm.raised_set (now autoClear : Nat) (a : LatchedAlarm) : (a.raised now autoClear).set = true := rfl

@[simp] theorem LaneState.raise_latched (now : Nat) (k : LatchedKind) (l : LaneState) :
    (l.raise now k).lsv.alarms.latched k = (l.lsv.alarms.latched k).raised now l.timing.autoClear := by
  simp [LaneState.raise]
@[simp] theorem LaneState.raise_bc (now : Nat) (k : LatchedKind) (l : LaneState) : (l.raise now k).bc = l.bc := rfl
@[simp] theorem LaneState.raise_pq (now : Nat) (k : LatchedKind) (l : LaneState) : (l.raise now k).pq = l.pq := rfl

/-! ## The tallies (R95) -/

@[simp] theorem LaneState.tally_alarms (f : Tallies → Tallies) (l : LaneState) : (l.tally f).lsv.alarms = l.lsv.alarms := rfl
@[simp] theorem LaneState.tally_bc (f : Tallies → Tallies) (l : LaneState) : (l.tally f).bc = l.bc := rfl
@[simp] theorem LaneState.tally_pq (f : Tallies → Tallies) (l : LaneState) : (l.tally f).pq = l.pq := rfl

/-! ## The kind of an unauthorized crossing (Table 5-1) -/

theorem LaneState.crossingKind_eq (l : LaneState) (d : Direction) :
    l.crossingKind d =
      if l.lsv.mode = .service ∧ l.lsv.policy.setting d = .barred then .wrongWay
      else if l.bc.state = .opened ∨ l.bc.state = .opening then .tailgate else .intrusion := by
  unfold LaneState.crossingKind
  by_cases barred : l.lsv.mode = .service ∧ l.lsv.policy.setting d = .barred
  · rw [if_pos barred, if_pos barred]
  · rw [if_neg barred, if_neg barred]
    cases l.bc.state <;> rfl

/-! ## Handing the crossing on (R37, R91) -/

@[simp] theorem reportCrossing_out (e : Env) (d : Direction) (x : Track) (w : Work) :
    (reportCrossing e d x w).out =
      w.out ++ [.crossing (w.lane.crossingKind d) x.number d x.ext w.lane.bc.state w.lane.lsv.mode] := rfl

@[simp] theorem reportCrossing_lane (e : Env) (d : Direction) (x : Track) (w : Work) :
    (reportCrossing e d x w).lane =
      (w.lane.raise e.now (w.lane.crossingKind d).latched).tally (Tallies.crossing (w.lane.crossingKind d)) := rfl

/-! ## The statement -/

/-- Settles O22: the kind by the rows of Table 5-1, a direction barred in SERVICE before the barrier state (`crossingKind_eq`); with the
kind known, the notice, the alarm and what stays unchanged are read off `reportCrossing_out` and `reportCrossing_lane`. -/
theorem crossingKindChosen : Obligations.CrossingKindChosen := by
  intro e d x w kind
  have chosen : w.lane.crossingKind d = kind := by
    cases d with
    | entry => exact LaneState.crossingKind_eq w.lane .entry
    | exit => exact LaneState.crossingKind_eq w.lane .exit
  rw [← chosen]
  refine ⟨rfl, reportCrossing_out e d x w, ?alarm, ?barrier, ?queue⟩
  case alarm => simp
  case barrier => simp
  case queue => simp

end Sys2Proof.Machine

/-! What a bad frame makes of its port and of the notice queues (R163, R165, R170), and the statement about it. -/

namespace Sys2Proof.Machine

/-! ## Two changes of one port -/

theorem State.modPort_modPort (s : State) (p : Port) (f g : ReaderPort → ReaderPort) :
    (s.modPort p f).modPort p g = s.modPort p fun r => g (f r) := by
  rw [State.modPort, State.modPort_port]
  simp [State.modPort]

/-! ## A bad frame up to the retry limit and beyond it (R165) -/

theorem State.badFrame_of_le_retryLimit {s : State} {p : Port}
    (within : (s.port p).bad + 1 ≤ (s.lane (portLane p)).timing.retryLimit) :
    s.badFrame p = (s.modPort p fun r => { r.idle with bad := (s.port p).bad + 1 }).sendReader p .nak := if_pos within

theorem State.badFrame_of_retryLimit_lt {s : State} {p : Port}
    (beyond : (s.lane (portLane p)).timing.retryLimit < (s.port p).bad + 1) :
    s.badFrame p =
      (s.modPort p fun r => { r.idle with bad := 0 }).postReader p (.readError ((s.port p).bad + 1)) :=
  if_neg (Nat.not_le.mpr beyond)

/-- A READER notice posted along with a change of its port that keeps the port state reports that state (R171). -/
theorem State.postReader_modPort {s : State} {p : Port} {f : ReaderPort → ReaderPort}
    (keeps : (f (s.port p)).state = (s.port p).state) (e : ReaderEvent) :
    (s.modPort p f).postReader p e = (s.modPort p f).post (laneNumber (portLane p)) (.reader p e (s.port p).state) := by
  rw [State.postReader, State.modPort_port, keeps]

/-! ## The two commands that take a bad frame (R163, R165) -/

theorem exec_readerBadFrame (p : Port) (s : State) : exec (.readerBadFrame p) s = .next (s.badFrame p) := rfl
theorem exec_readerFrameGap (p : Port) (s : State) : exec (.readerFrameGap p) s = execReaderFrameGap p s := rfl

/-- From 10 ms after its last byte on, a partial frame is taken as a bad frame (Log 27). -/
theorem exec_readerFrameGap_of_due {p : Port} {s : State} {x : Partial} (gathering : (s.port p).rx = some x)
    (elapsed : x.last + 10 ≤ s.tmb.ms) : exec (.readerFrameGap p) s = .next (s.badFrame p) := by
  have isDue : due s.tmb.ms (readerGapEnd x) = true := decide_eq_true elapsed
  simp [exec_readerFrameGap, execReaderFrameGap, gathering, isDue]

/-! ## The statement -/

/-- Settles O31: the count against the retry limit decides between the NAK, whose place in the transmit list is one change of the port
together with the count (`modPort_modPort`), and READ_ERROR, which reports a port state that the count leaves alone; both commands go
on to the same `badFrame`. -/
theorem badFrameCounted : Obligations.BadFrameCounted := by
  intro p s
  refine ⟨fun within => ?nak, fun beyond => ?readError, fun x gathering elapsed => ?gap⟩
  case nak =>
    rw [exec_readerBadFrame, State.badFrame_of_le_retryLimit within, State.sendReader, State.modPort_modPort]
    rfl
  case readError =>
    rw [exec_readerBadFrame, State.badFrame_of_retryLimit_lt beyond, State.postReader_modPort (by rfl)]
    rfl
  case gap => exact ⟨s.badFrame p, exec_readerBadFrame p s, exec_readerFrameGap_of_due gathering elapsed⟩

end Sys2Proof.Machine

/-! What every event on a lane keeps: the drives at the barrier state (R68), the sizes of the track list and the permit queue (R20, R47),
the one direction of a permit queue (R48), and the numbers of the credential table (R126). -/

namespace Sys2Proof.Machine

/-! ## What is kept of a lane -/

/-- The drives of a lane follow its barrier state (R68). -/
def LaneState.driven (l : LaneState) : Prop :=
  l.bc.driveOpen = decide (l.bc.state = .opening) ∧ l.bc.driveShut = decide (l.bc.state = .shutting)

/-- The claim of a lane names the direction of every permit queued in it (R48). -/
def LaneState.oneWay (l : LaneState) : Prop := ∀ p ∈ l.pq.permits, l.pq.claim = some p.dir

/-- Each law of a lane that holds before a change holds after it. -/
structure LaneState.Keeps (a b : LaneState) : Prop where
  driven : a.driven → b.driven
  tracks : a.ot.tracks.length ≤ 8 → b.ot.tracks.length ≤ 8
  permits : a.pq.permits.length ≤ 4 → b.pq.permits.length ≤ 4
  oneWay : a.oneWay → b.oneWay

theorem LaneState.Keeps.refl (l : LaneState) : l.Keeps l := ⟨id, id, id, id⟩

theorem LaneState.Keeps.trans {a b c : LaneState} (h : a.Keeps b) (g : b.Keeps c) : a.Keeps c :=
  ⟨g.driven ∘ h.driven, g.tracks ∘ h.tracks, g.permits ∘ h.permits, g.oneWay ∘ h.oneWay⟩

/-- What the laws of a lane read: barrier state and drives, the length of the track list, the queue and the claim. -/
def LaneState.lawful (l : LaneState) : (Barrier × Bool × Bool) × Nat × List Permit × Option Direction :=
  ((l.bc.state, l.bc.driveOpen, l.bc.driveShut), l.ot.tracks.length, l.pq.permits, l.pq.claim)

@[simp] theorem LaneState.modLsv_lawful (f : Lsv → Lsv) (l : LaneState) : (l.modLsv f).lawful = l.lawful := rfl
@[simp] theorem LaneState.modBsu_lawful (f : Bsu → Bsu) (l : LaneState) : (l.modBsu f).lawful = l.lawful := rfl
@[simp] theorem LaneState.setJam_lawful (on : Bool) (l : LaneState) : (l.setJam on).lawful = l.lawful := rfl
@[simp] theorem LaneState.setStall_lawful (on : Bool) (l : LaneState) : (l.setStall on).lawful = l.lawful := rfl
@[simp] theorem LaneState.dropEvaluation_lawful (l : LaneState) : l.dropEvaluation.lawful = l.lawful := rfl

/-- A change that leaves alone all that the laws read keeps them. -/
theorem LaneState.Keeps.of_lawful {a b : LaneState} (h : b.lawful = a.lawful) : a.Keeps b := by
  obtain ⟨⟨hs, ho, hc⟩, ht, hp, hd⟩ : ((b.bc.state = a.bc.state ∧ b.bc.driveOpen = a.bc.driveOpen ∧ b.bc.driveShut = a.bc.driveShut)
      ∧ b.ot.tracks.length = a.ot.tracks.length ∧ b.pq.permits = a.pq.permits ∧ b.pq.claim = a.pq.claim) := by
    simpa [LaneState.lawful] using h
  refine ⟨fun d => ?_, fun d => ht ▸ d, fun d => hp ▸ d, fun d => ?_⟩
  · rw [LaneState.driven, hs, ho, hc]; exact d
  · rw [LaneState.oneWay, hp, hd]; exact d

/-- A change of the queue that leaves the other blocks alone keeps the laws when it keeps the queue's own. -/
theorem LaneState.Keeps.of_queue {a b : LaneState} (hbc : b.bc = a.bc) (hot : b.ot = a.ot)
    (hp : a.pq.permits.length ≤ 4 → b.pq.permits.length ≤ 4) (hw : a.oneWay → b.oneWay) : a.Keeps b :=
  ⟨fun d => by rw [LaneState.driven, hbc]; exact d, fun d => hot ▸ d, hp, hw⟩

/-! ## What is kept of the work of an event -/

/-- Each law of the lane at work is kept, and the credential table keeps its numbers. -/
structure Work.Keeps (w v : Work) : Prop where
  lane : w.lane.Keeps v.lane
  numbers : v.creds.map (·.number) = w.creds.map (·.number)

theorem Work.Keeps.refl (w : Work) : w.Keeps w := ⟨.refl _, rfl⟩

theorem Work.Keeps.trans {a b c : Work} (h : a.Keeps b) (g : b.Keeps c) : a.Keeps c :=
  ⟨h.lane.trans g.lane, g.numbers.trans h.numbers⟩

theorem Work.Keeps.mod {w v : Work} (h : w.Keeps v) {f : LaneState → LaneState} (g : v.lane.Keeps (f v.lane)) : w.Keeps (v.mod f) :=
  ⟨h.lane.trans g, h.numbers⟩

theorem Work.Keeps.emit {w v : Work} (h : w.Keeps v) (b : NoticeBody) : w.Keeps (v.emit b) := ⟨h.lane, h.numbers⟩

theorem Work.Keeps.emitLane {w v : Work} (h : w.Keeps v) (x : LaneEvent) : w.Keeps (v.emitLane x) := h.emit _

theorem Work.Keeps.emitBarrier {w v : Work} (h : w.Keeps v) (x : BarrierEvent) : w.Keeps (v.emitBarrier x) := h.emit _

/-- A change of the lane that its laws do not read. -/
theorem Work.Keeps.quiet {w v : Work} (h : w.Keeps v) {f : LaneState → LaneState} (g : (f v.lane).lawful = v.lane.lawful) :
    w.Keeps (v.mod f) := h.mod (.of_lawful g)

theorem Work.Keeps.foldl {α : Type} {f : Work → α → Work} (h : ∀ (w : Work) x, w.Keeps (f w x)) (xs : List α) (w : Work) :
    w.Keeps (xs.foldl f w) := by
  induction xs generalizing w with
  | nil => exact .refl w
  | cons x xs ih => exact (h w x).trans (ih _)

theorem Work.Keeps.ite {w a b : Work} {c : Prop} [Decidable c] (h : w.Keeps a) (g : w.Keeps b) : w.Keeps (if c then a else b) := by
  split
  · exact h
  · exact g

theorem Work.Keeps.withHealth {w : Work} {f : Work → Work} (h : w.Keeps (f w)) : w.Keeps (w.withHealth f) :=
  .ite h (h.emitLane _)

/-! ## The Beam Scan Unit -/

theorem judgeSensor_keeps (w : Work) : w.Keeps (judgeSensor w) := .withHealth ((Work.Keeps.refl w).quiet rfl)

theorem faultyFrame_keeps (chain : List (Option BarAnswer)) (w : Work) : w.Keeps (faultyFrame chain w) :=
  .ite ((Work.Keeps.refl w).quiet rfl) (((Work.Keeps.refl w).quiet rfl).emit _)

theorem validFrame_keeps (e : Env) (chain : List (Option BarAnswer)) (w : Work) : w.Keeps (validFrame e chain w) :=
  have marked : w.Keeps { validFrame e chain w with out := [] } := by
    unfold validFrame
    dsimp only
    split <;> exact ⟨.of_lawful rfl, rfl⟩
  ⟨marked.lane, marked.numbers⟩

theorem scanFrame_keeps (e : Env) (chain : List (Option BarAnswer)) (w : Work) : w.Keeps (scanFrame e chain w) :=
  (Work.Keeps.ite (faultyFrame_keeps chain w) (validFrame_keeps e chain w)).trans (judgeSensor_keeps _)

/-! ## The Barrier Controller -/

/-- A motion's beginning or end keeps the laws when it keeps the drives at the barrier state. -/
theorem Work.Keeps.of_barrierFrame {w v : Work} (h : w.barrierFrame v) (d : w.driven → v.driven) : w.Keeps v := by
  obtain ⟨-, -, -, ot, pq, -, -, -, -, -, -, creds⟩ := h
  exact ⟨⟨d, fun t => ot ▸ t, fun t => pq ▸ t, fun t => by rw [LaneState.oneWay, pq]; exact t⟩, by rw [creds]⟩

theorem clearJam_keeps (w : Work) : w.Keeps (clearJam w) := .of_barrierFrame (clearJam_frame w) clearJam_driven
theorem arriveShut_keeps (w : Work) : w.Keeps (arriveShut w) := .of_barrierFrame (arriveShut_frame w) fun _ => arriveShut_driven w
theorem evalShut_keeps (e : Env) (w : Work) : w.Keeps (evalShut e w) := .of_barrierFrame (evalShut_frame e w) (evalShut_driven e)
theorem arriveOpen_keeps (e : Env) (w : Work) : w.Keeps (arriveOpen e w) :=
  .of_barrierFrame (arriveOpen_frame e w) fun _ => arriveOpen_driven e w
theorem beginOpening_keeps (e : Env) (w : Work) : w.Keeps (beginOpening e w) :=
  .of_barrierFrame (beginOpening_frame e w) fun _ => beginOpening_driven e w
theorem evalOpen_keeps (e : Env) (w : Work) : w.Keeps (evalOpen e w) := .of_barrierFrame (evalOpen_frame e w) (evalOpen_driven e)

/-- Taking a barrier state keeps the laws: the drives follow it. -/
theorem LaneState.setBarrier_keeps (b : Barrier) (l : LaneState) : l.Keeps (l.setBarrier b) :=
  ⟨fun _ => ⟨by simp, by simp⟩, by simp, by simp, fun h => by simpa [LaneState.oneWay] using h⟩

/-- A motion that a limit input or its timer ends leaves the drives at the state taken. -/
theorem LaneState.endMotion_keeps (b : Barrier) (stall : Bool) (l : LaneState) :
    l.Keeps (((l.setBarrier b).setStall stall).modBc fun c => { c with positionUnknown := false, motionEnd := none }) :=
  (l.setBarrier_keeps b).trans (.of_lawful rfl)

theorem countedReversal_keeps (e : Env) (cause : ReversalCause) (w : Work) : w.Keeps (countedReversal e cause w) := by
  have counted (v : Work) (h : w.Keeps v) : w.Keeps ((beginOpening e v).emitBarrier (.reversed cause)) :=
    (h.trans (beginOpening_keeps e v)).emitBarrier _
  refine .ite (.emitBarrier (counted _ (.quiet (.refl w) ?_)) _) (counted _ (.quiet (.refl w) ?_)) <;>
    (dsimp only; split <;> rfl)

theorem recover_keeps (e : Env) (b : Barrier) (w : Work) : w.Keeps (recover e b w) := by
  have back : w.Keeps (((w.mod fun l => ((l.setBarrier b).setStall false).modBc fun c =>
      { c with positionUnknown := false, motionEnd := none }).emitBarrier .recovered)) :=
    .emitBarrier (.mod (.refl w) (LaneState.endMotion_keeps b false w.lane)) _
  have recovered := Work.Keeps.withHealth (w := w) (f := fun v =>
    let back := (v.mod fun l => ((l.setBarrier b).setStall false).modBc fun c =>
        { c with positionUnknown := false, motionEnd := none }).emitBarrier .recovered
    if b = .shut then clearJam back
    else if back.lane.bc.jam then back.mod (LaneState.startJamHold e.now) else back)
    (.ite (back.trans (clearJam_keeps _)) (.ite (back.quiet rfl) back))
  exact .ite (recovered.trans (evalOpen_keeps e _)) (recovered.trans (evalShut_keeps e _))

theorem onOpenLimit_keeps (e : Env) (active : Bool) (w : Work) : w.Keeps (onOpenLimit e active w) := by
  have levelled : w.Keeps (w.mod fun l => l.modBc fun c => { c with openLimit := active }) := .quiet (.refl w) rfl
  refine .ite (.refl w) (.ite ?_ levelled)
  split
  case h_1 => exact levelled.trans (arriveOpen_keeps e _)
  case h_2 => exact levelled.trans (recover_keeps e .opened _)
  all_goals exact levelled

theorem onShutLimit_keeps (e : Env) (active : Bool) (w : Work) : w.Keeps (onShutLimit e active w) := by
  have levelled : w.Keeps (w.mod fun l => l.modBc fun c => { c with shutLimit := active }) := .quiet (.refl w) rfl
  refine .ite (.refl w) (.ite ?_ levelled)
  split
  case h_1 => exact (levelled.trans (arriveShut_keeps _)).trans (evalOpen_keeps e _)
  case h_2 => exact levelled.trans (recover_keeps e .shut _)
  all_goals exact levelled

theorem onObstruct_keeps (e : Env) (active : Bool) (w : Work) : w.Keeps (onObstruct e active w) :=
  have levelled : w.Keeps (w.mod fun l => l.modBc fun c => { c with obstruct := active }) := .quiet (.refl w) rfl
  .ite (.refl w) (.ite (levelled.trans (countedReversal_keeps e .obstruct _)) levelled)

theorem stallMotion_keeps (e : Env) (w : Work) : w.Keeps (stallMotion e w) := by
  unfold stallMotion
  split
  · exact .ite (.withHealth (.emitBarrier (.mod (.refl w) (LaneState.endMotion_keeps .stalled true w.lane)) _)) (.refl w)
  · exact .refl w

theorem endJamHold_keeps (e : Env) (w : Work) : w.Keeps (endJamHold e w) := by
  unfold endJamHold
  split
  · exact .ite ((Work.Keeps.quiet (.refl w) rfl).trans (evalShut_keeps e _)) (.refl w)
  · exact .refl w

theorem enterEgress_keeps (e : Env) (w : Work) : w.Keeps (enterEgress e w) := by
  have entered : w.Keeps (w.mod LaneState.dropEvaluation) := .quiet (.refl w) rfl
  refine .withHealth ?_
  dsimp only
  split
  case h_4 => exact entered
  case h_5 => exact entered
  all_goals exact entered.trans (beginOpening_keeps e _)

theorem actOnFrame_keeps (e : Env) (w : Work) : w.Keeps (actOnFrame e w) := by
  unfold actOnFrame
  split
  · exact .ite (countedReversal_keeps e _ _) (.ite (beginOpening_keeps e _) (evalOpen_keeps e _))
  · exact evalOpen_keeps e _
  · exact evalShut_keeps e _
  · exact .refl _
  · exact .refl _

theorem barrierFrame_keeps (e : Env) (w : Work) : w.Keeps (barrierFrame e w) :=
  (Work.Keeps.quiet (f := LaneState.takePosture) (.refl w) rfl).trans (actOnFrame_keeps e _)

/-- Reading the position from the limit inputs keeps the laws. -/
theorem LaneState.readPosition_keeps (l : LaneState) : l.Keeps l.readPosition := (l.setBarrier_keeps _).trans (.of_lawful rfl)

theorem LaneState.resetBarrier_keeps (l : LaneState) : l.Keeps l.resetBarrier := by
  unfold LaneState.resetBarrier
  refine .trans (.of_lawful ?_) (LaneState.readPosition_keeps _)
  rw [dropEvaluation_lawful, setStall_lawful, setJam_lawful]
  rfl

end Sys2Proof.Machine

/-! What the Permit Queue, the tracker's frame event and the Lane Supervisor keep of a lane and of the credential numbers. -/

namespace Sys2Proof.Machine

/-! ## The Permit Queue -/

@[simp] theorem LaneState.setPermits_ot (ps : List Permit) (l : LaneState) : (l.setPermits ps).ot = l.ot := rfl
@[simp] theorem LaneState.setPermits_bc (ps : List Permit) (l : LaneState) : (l.setPermits ps).bc = l.bc := rfl

/-- A queue whose permits all have one direction is one-way once its claim has been worked out. -/
theorem LaneState.setPermits_oneWay {ps : List Permit} {d : Direction} (h : ∀ p ∈ ps, p.dir = d) (l : LaneState) :
    (l.setPermits ps).oneWay := by
  intro p hp
  rw [setPermits_permits] at hp
  cases ps with
  | nil => exact absurd hp List.not_mem_nil
  | cons q qs => exact congrArg some ((h q List.mem_cons_self).trans (h p hp).symm)

/-- The one direction of a one-way queue that is not empty. -/
theorem LaneState.oneWay.dir_eq {l : LaneState} (h : l.oneWay) {p q : Permit} (hp : p ∈ l.pq.permits) (hq : q ∈ l.pq.permits) :
    p.dir = q.dir := Option.some.inj ((h p hp).symm.trans (h q hq))

/-- Permits whose directions stand in a one-way queue make a one-way queue. -/
theorem LaneState.setPermits_oneWay_of_dirs {ps : List Permit} {l : LaneState} (h : l.oneWay)
    (hs : ∀ p ∈ ps, ∃ q ∈ l.pq.permits, q.dir = p.dir) : (l.setPermits ps).oneWay := by
  cases ps with
  | nil => exact fun p hp => absurd hp List.not_mem_nil
  | cons q qs =>
    refine LaneState.setPermits_oneWay (d := q.dir) (fun p hp => ?_) l
    obtain ⟨p', hp', ep⟩ := hs p hp
    obtain ⟨q', hq', eq⟩ := hs q List.mem_cons_self
    rw [← ep, ← eq, h.dir_eq hp' hq']

/-- Replacing the queue by permits of its own directions, no more than before, keeps the laws. -/
theorem LaneState.setPermits_keeps {ps : List Permit} {l : LaneState} (hl : ps.length ≤ l.pq.permits.length)
    (hs : ∀ p ∈ ps, ∃ q ∈ l.pq.permits, q.dir = p.dir) : l.Keeps (l.setPermits ps) :=
  .of_queue rfl rfl (fun h => hl.trans h) fun h => LaneState.setPermits_oneWay_of_dirs h hs

theorem LaneState.filterPermits_keeps (test : Permit → Bool) (l : LaneState) : l.Keeps (l.setPermits (l.pq.permits.filter test)) :=
  LaneState.setPermits_keeps (List.length_filter_le _ _) fun p hp => ⟨p, List.mem_of_mem_filter hp, rfl⟩

/-- Working the claim out again leaves a one-way queue one-way: its head names the direction. -/
theorem LaneState.reclaim_keeps (l : LaneState) : l.Keeps l.reclaim :=
  LaneState.setPermits_keeps (ps := l.pq.permits) (l := l) (Nat.le_refl _) fun p hp => ⟨p, hp, rfl⟩

/-- In a lane whose claim allows a direction, a one-way queue holds permits of that direction alone. -/
theorem LaneState.oneWay.dir_of_claim {l : LaneState} (h : l.oneWay) {d : Direction}
    (allows : l.pq.claim = none ∨ l.pq.claim = some d) {p : Permit} (hp : p ∈ l.pq.permits) : p.dir = d := by
  have claimed := h p hp
  rcases allows with free | held
  · rw [free] at claimed; exact absurd claimed (by simp)
  · rw [held] at claimed; exact (Option.some.inj claimed).symm

theorem releaseEscorted_dir {now : Nat} {t : Timing} {ps : List Permit} {p : Permit} (h : p ∈ releaseEscorted now t ps) :
    ∃ q ∈ ps, q.dir = p.dir := by
  obtain ⟨q, hq, rfl⟩ := List.mem_map.mp h
  refine ⟨q, hq, ?_⟩
  split <;> rfl

theorem placePermit_dir {now : Nat} {t : Timing} {escort : Bool} {p x : Permit} {ps : List Permit}
    (h : x ∈ placePermit now t escort p ps) : x = p ∨ ∃ q ∈ ps, q.dir = x.dir := by
  unfold placePermit at h
  split at h
  · rcases List.mem_append.mp h with ahead | behind
    · exact .inr ⟨x, (List.takeWhile_prefix _).subset ahead, rfl⟩
    · rcases List.mem_cons.mp behind with new | released
      · exact .inl new
      · obtain ⟨q, hq, e⟩ := releaseEscorted_dir released
        exact .inr ⟨q, (List.dropWhile_suffix _).subset hq, e⟩
  · rcases List.mem_append.mp h with old | new
    · exact .inr ⟨x, old, rfl⟩
    · exact .inl (List.mem_singleton.mp new)

theorem LaneState.queuePermit_claim (now : Nat) (r : AppendReq) (l : LaneState) :
    (l.queuePermit now r).pq.claim = (l.setPermits (placePermit now l.timing r.escort (newPermit now l r) l.pq.permits)).pq.claim := by
  unfold LaneState.queuePermit
  dsimp only [LaneState.modPq]
  split
  · cases r.dir <;> rfl
  · rfl

/-- A permit queued where the claim allows it keeps the laws while the queue has room. -/
theorem LaneState.queuePermit_keeps {now : Nat} {r : AppendReq} {l : LaneState}
    (allows : l.pq.claim = none ∨ l.pq.claim = some r.dir) (room : l.pq.permits.length < 4) : l.Keeps (l.queuePermit now r) := by
  refine .of_queue rfl rfl (fun _ => ?_) fun h p hp => ?_
  · rw [queuePermit_permits, placePermit_length]; exact room
  · rw [queuePermit_permits] at hp
    rw [queuePermit_claim]
    refine LaneState.setPermits_oneWay (d := r.dir) (fun x hx => ?_) l p hp
    rcases placePermit_dir hx with rfl | ⟨q, hq, e⟩
    · rfl
    · exact e.symm.trans (h.dir_of_claim allows hq)

/-- What an accepted append has found: the claim allows its direction, and the queue had room (R47). -/
theorem append_accepted_inv {e : Env} {r : AppendReq} {w w' : Work} {n : Nat} {st : PermitState}
    (h : append e r w = .accepted w' n st) :
    (w.lane.pq.claim = none ∨ w.lane.pq.claim = some r.dir) ∧ w.lane.pq.permits.length < 4
      ∧ w' = (if (newPermit e.now w.lane r).state = .ready then evalOpen e (w.mod (LaneState.queuePermit e.now r))
         else w.mod (LaneState.queuePermit e.now r))
      ∧ n = (newPermit e.now w.lane r).number ∧ st = (newPermit e.now w.lane r).state := by
  unfold append at h
  split at h
  · exact absurd h (by simp)
  · rename_i allowed
    split at h
    · exact absurd h (by simp)
    · rename_i room
      simp only [AppendResult.accepted.injEq] at h
      obtain ⟨rfl, rfl, rfl⟩ := h
      refine ⟨?_, by simpa [Config.maxPermits] using room, rfl, rfl, rfl⟩
      by_cases free : w.lane.pq.claim = none
      · exact .inl free
      · exact .inr (Classical.byContradiction fun other => allowed ⟨free, other⟩)

theorem append_keeps {e : Env} {r : AppendReq} {w w' : Work} {n : Nat} {st : PermitState} (h : append e r w = .accepted w' n st) :
    w.Keeps w' := by
  obtain ⟨allows, room, rfl, -, -⟩ := append_accepted_inv h
  have queued : w.Keeps (w.mod (LaneState.queuePermit e.now r)) := .mod (.refl w) (LaneState.queuePermit_keeps allows room)
  exact .ite (queued.trans (evalOpen_keeps e _)) queued

theorem serveFree_keeps (e : Env) (d : Direction) (n : Nat) (w : Work) : w.Keeps (serveFree e d n w) := by
  induction n generalizing w with
  | zero => exact .refl w
  | succ n ih =>
    unfold serveFree
    split
    · rename_i accepted
      exact (append_keeps accepted).trans (ih _)
    · exact .refl w
    · exact .refl w

theorem serveDirection_keeps (e : Env) (w : Work) (d : Direction) : w.Keeps (serveDirection e w d) :=
  .ite (serveFree_keeps e d _ w) (.refl w)

theorem freeService_keeps (e : Env) (w : Work) : w.Keeps (freeService e w) :=
  .ite (.foldl (serveDirection_keeps e) _ w) (.refl w)

theorem removePermit_keeps (p : Permit) (x : PermitEnd) (w : Work) : w.Keeps (removePermit p x w) :=
  .emit (.mod (.refl w) (w.lane.filterPermits_keeps _)) _

theorem settleUsed_keeps (e : Env) (p : Permit) (w : Work) : w.Keeps (settleUsed e p w) :=
  .ite ((removePermit_keeps p .used w).trans (freeService_keeps e _)) (.mod (.refl w) w.lane.reclaim_keeps)

theorem expirePermit_keeps (e : Env) (n : Nat) (st : PermitState) (x : PermitEnd) (w : Work) :
    w.Keeps (expirePermit e n st x w) := by
  unfold expirePermit
  split
  · exact (removePermit_keeps _ x w).trans (freeService_keeps e _)
  · exact .refl w

theorem cancelAll_keeps (w : Work) : w.Keeps (cancelAll w) := by
  have told : w.Keeps (w.lane.pq.permits.foldl (fun v p => v.emit (.permitEnd p .cancelled)) w) :=
    .foldl (fun v p => .emit (.refl v) _) _ w
  unfold cancelAll
  refine told.mod ?_
  refine .of_queue rfl rfl (fun _ => ?_) fun _ p hp => ?_
  · exact Nat.zero_le 4
  · exact absurd hp List.not_mem_nil

theorem tamperRemove_keeps (p : Port) (w : Work) : w.Keeps (tamperRemove p w) := by
  have told : w.Keeps ((w.lane.pq.permits.filter (tamperTakes p)).foldl (fun v x => v.emit (.permitEnd x .tamper)) w) :=
    .foldl (fun v p => .emit (.refl v) _) _ w
  exact told.mod (LaneState.filterPermits_keeps _ _)

theorem Permit.givenBack_dir (deadline : Nat) (p : Permit) : (p.givenBack deadline).dir = p.dir := by
  unfold Permit.givenBack
  split <;> rfl

theorem giveBack_keeps (e : Env) (d : Direction) (c : PermitCopy) (w : Work) : w.Keeps (giveBack e d c w) := by
  refine .ite (.mod (.refl w) (LaneState.setPermits_keeps (by simp) fun p hp => ?_)) ?_
  · obtain ⟨q, hq, rfl⟩ := List.mem_map.mp hp
    refine ⟨q, hq, ?_⟩
    split
    · exact (q.givenBack_dir _).symm
    · rfl
  · split
    · rename_i takes
      obtain ⟨⟨-, room⟩, allows⟩ : (_ ∧ w.lane.pq.permits.length < Config.maxPermits)
          ∧ (w.lane.pq.claim = none ∨ w.lane.pq.claim = some d) := by simpa [LaneState.takesReturned] using takes
      refine .trans (.mod (.refl w) ?_) (evalOpen_keeps e _)
      refine .of_queue rfl rfl (fun _ => room) fun h => ?_
      refine LaneState.setPermits_oneWay (d := d) (fun p hp => ?_) w.lane
      rcases List.mem_cons.mp hp with rfl | old
      · rfl
      · exact h.dir_of_claim allows old
    · exact .emit (.refl w) _

theorem bindFirst_dirs {deadline : Nat} {d : Direction} {ps qs : List Permit} {p : Permit}
    (h : bindFirst deadline d ps = some (p, qs)) : qs.map (·.dir) = ps.map (·.dir) := by
  induction ps generalizing qs with
  | nil => exact absurd h (by simp [bindFirst])
  | cons x xs ih =>
    unfold bindFirst at h
    split at h
    · simp only [Option.some.injEq, Prod.mk.injEq] at h
      obtain ⟨-, rfl⟩ := h
      rfl
    · obtain ⟨⟨p', rest⟩, found, e⟩ := Option.map_eq_some_iff.mp h
      simp only [Prod.mk.injEq] at e
      obtain ⟨rfl, rfl⟩ := e
      simp [ih found]

/-- The queue after a binding has the directions it had (R51). -/
theorem LaneState.bindQueue_keeps {deadline : Nat} {d : Direction} {l : LaneState} {p : Permit} {qs : List Permit}
    (h : bindFirst deadline d l.pq.permits = some (p, qs)) : l.Keeps (l.modPq fun q => { q with permits := qs }) := by
  have dirs := bindFirst_dirs h
  have len : qs.length = l.pq.permits.length := by simpa using congrArg List.length dirs
  refine .of_queue rfl rfl (fun k => len ▸ k) fun k x hx => ?_
  have mem : x.dir ∈ l.pq.permits.map (·.dir) := dirs ▸ List.mem_map_of_mem hx
  obtain ⟨y, hy, e⟩ := List.mem_map.mp mem
  exact e ▸ k y hy

/-! ## Outcomes of passages (Chapter 5) -/

theorem reportCrossing_keeps (e : Env) (d : Direction) (t : Track) (w : Work) : w.Keeps (reportCrossing e d t w) :=
  .emit (.quiet (.refl w) rfl) _

theorem reportPassage_keeps (e : Env) (x : PassageEnd) (d : Direction) (r : RecordOutcome) (t : Track) (w : Work) :
    w.Keeps (reportPassage e x d r t w) := .emit (.quiet (.refl w) rfl) _

theorem putCred_numbers (c : Cred) (cs : List Cred) : (putCred c cs).map (·.number) = cs.map (·.number) := by
  unfold putCred
  rw [List.map_map]
  refine List.map_congr_left fun x _ => ?_
  dsimp only [Function.comp]
  split
  · rename_i same
    exact same.symm
  · rfl

theorem recordPassage_numbers (e : Env) (m : Mode) (d : Direction) (copy : Option PermitCopy) (cs : List Cred) :
    (recordPassage e m d copy cs).1.map (·.number) = cs.map (·.number) := by
  unfold recordPassage
  split
  · rfl
  · split
    · rfl
    · split
      · rfl
      · exact putCred_numbers _ cs

theorem completeTrack_keeps (e : Env) (d : Direction) (t : Track) (w : Work) : w.Keeps (completeTrack e d t w) := by
  have updated : w.Keeps { w with creds := (recordPassage e w.lane.lsv.mode d t.bound w.creds).1 } :=
    ⟨.refl _, recordPassage_numbers ..⟩
  exact updated.trans (reportPassage_keeps ..)

theorem backOutTrack_keeps (e : Env) (d : Direction) (t : Track) (w : Work) : w.Keeps (backOutTrack e d t w) := by
  refine .trans ?_ (reportPassage_keeps ..)
  split
  · exact giveBack_keeps e d _ w
  · exact .refl w

theorem loseTrack_keeps (cause : LostCause) (t : Track) (w : Work) : w.Keeps (loseTrack cause t w) :=
  .emit (.quiet (.refl w) rfl) _

/-! ## The tracker's frame event (Chapter 2) -/

/-- Births stop at eight tracks (R20, R31). -/
theorem giveBirth_length_le {g : Geometry} {now : Nat} {b : Births} {s : Site} (h : b.tracks.length ≤ 8) :
    (giveBirth g now b s).tracks.length ≤ 8 := by
  unfold giveBirth
  split
  · rename_i room
    simpa [Config.maxTracks] using room
  · exact h

theorem births_length_le (g : Geometry) (now : Nat) (sites : List Site) {b : Births} (h : b.tracks.length ≤ 8) :
    (sites.foldl (giveBirth g now) b).tracks.length ≤ 8 := by
  induction sites generalizing b with
  | nil => exact h
  | cons s sites ih => exact ih (giveBirth_length_le h)

theorem insertBy_length {α : Type} (ahead : α → α → Bool) (x : α) (ys : List α) :
    (insertBy ahead x ys).length = ys.length + 1 := by
  induction ys with
  | nil => rfl
  | cons y ys ih =>
    unfold insertBy
    split
    · simp [ih]
    · rfl

@[simp] theorem sortBy_length {α : Type} (ahead : α → α → Bool) (xs : List α) : (sortBy ahead xs).length = xs.length := by
  induction xs with
  | nil => rfl
  | cons x xs ih => rw [sortBy, List.foldr_cons, insertBy_length]; exact congrArg (· + 1) ih

@[simp] theorem withRear_length (ts : List Track) : (withRear ts).length = ts.length := by simp [withRear]

theorem trackFrame_tracks_length_le {o : Ot} (h : o.tracks.length ≤ 8) (g : Geometry) (t : Timing) (now : Nat) (v : List Bool) :
    (trackFrame g t now v o).ot.tracks.length ≤ 8 := by
  unfold trackFrame
  dsimp only
  rw [List.length_map, List.length_map, withRear_length, List.length_map, sortBy_length]
  refine births_length_le g now _ (Nat.le_trans (List.length_filterMap_le _ _) ?_)
  rw [List.length_map, List.length_zipIdx, withRear_length]
  exact h

/-- A lane that takes over tracks of no greater number keeps the laws. -/
theorem LaneState.Keeps.of_ot {l : LaneState} {o : Ot} (h : l.ot.tracks.length ≤ 8 → o.tracks.length ≤ 8) :
    l.Keeps { l with ot := o } := ⟨id, h, id, id⟩

theorem handEnd_keeps (e : Env) (w : Work) (x : Ended) : w.Keeps (handEnd e w x) := by
  unfold handEnd
  split
  · exact backOutTrack_keeps ..
  · exact loseTrack_keeps ..
  · exact .refl w

theorem handBirths_keeps (e : Env) (n : Nat) (w : Work) : w.Keeps (handBirths e n w) := by
  induction n generalizing w with
  | zero => exact .refl w
  | succ n ih => exact (freeService_keeps e w).trans (ih _)

theorem Handing.modTrack_keeps (c : Crosser) (f : Track → Track) (h : Handing) : h.work.Keeps (h.modTrack c f).work := by
  unfold Handing.modTrack
  split
  · exact .refl _
  · exact .mod (.refl _) (.of_ot fun k => by simpa using k)

/-- Changing a track leaves the permit queue alone. -/
theorem Handing.modTrack_pq (c : Crosser) (f : Track → Track) (h : Handing) : (h.modTrack c f).work.lane.pq = h.work.lane.pq := by
  unfold Handing.modTrack
  split <;> rfl

theorem handCrossing_keeps (e : Env) (d : Direction) (h : Handing) (c : Crosser) : h.work.Keeps (handCrossing e d h c).work := by
  unfold handCrossing
  split
  · exact .refl _
  · split
    · rename_i p queue bound
      refine (h.modTrack_keeps c _).trans (.trans (.mod (.refl _) ?_) (settleUsed_keeps e p _))
      exact LaneState.bindQueue_keeps (by rw [Handing.modTrack_pq]; exact bound)
    · split
      · exact .refl _
      · exact (h.modTrack_keeps c _).trans (reportCrossing_keeps ..)

theorem handCrossings_keeps (e : Env) (order : List Bool) (f : TrackFrame) (h : Handing) :
    h.work.Keeps (handCrossings e order f h).work := by
  unfold handCrossings
  dsimp only
  generalize interleave order _ _ = cs
  induction cs generalizing h with
  | nil => exact .refl _
  | cons c cs ih => exact (handCrossing_keeps e c.1 h c.2).trans (ih _)

theorem handCompletions_keeps (e : Env) (order : List Bool) (h : Handing) : h.work.Keeps (handCompletions e order h) :=
  .foldl (f := fun v (c : Direction × Track) => completeTrack e c.1 c.2 v) (fun w c => completeTrack_keeps e c.1 c.2 w) _ _

theorem handLoiters_keeps (e : Env) (w : Work) : w.Keeps (handLoiters e w) := by
  refine .ite (.refl w) (.trans (.mod (.refl w) (.of_ot fun k => by simpa using k)) (.foldl (fun v t => ?_) _ _))
  exact .emit (.quiet (.refl v) rfl) _

theorem handOverflow_keeps (e : Env) (before : Bool) (us : List Extent) (w : Work) : w.Keeps (handOverflow e before us w) := by
  have raised : w.Keeps (w.mod fun l => (l.raise e.now .overflow).tally Tallies.overflowOne) := .quiet (.refl w) rfl
  exact .ite (.refl w) (.ite raised (raised.emit _))

theorem handEvents_keeps (e : Env) (order : FrameOrder) (before : Bool) (f : TrackFrame) (w : Work)
    (h : w.lane.ot.tracks.length ≤ 8 → f.ot.tracks.length ≤ 8) : w.Keeps (handEvents e order before f w) := by
  have taken : w.Keeps (w.mod fun l => { l with ot := f.ot }) := .mod (.refl w) (.of_ot h)
  have left := (taken.trans (.foldl (handEnd_keeps e) f.ended _)).trans (handBirths_keeps e f.startEnd _)
  have crossed := left.trans (handCrossings_keeps e order.crossings f { work := _, ended := f.ended })
  exact ((crossed.trans (handCompletions_keeps e order.completions _)).trans (handLoiters_keeps e _)).trans
    (handOverflow_keeps e before f.untracked _)

theorem trackerFrame_keeps (e : Env) (order : FrameOrder) (w : Work) : w.Keeps (trackerFrame e order w) :=
  .ite (handEvents_keeps _ _ _ _ _ fun h => trackFrame_tracks_length_le h ..) (.refl w)

theorem claimFrame_keeps (e : Env) (w : Work) : w.Keeps (claimFrame e w) := by
  have noted : w.Keeps (w.mod fun l => l.modPq fun q => { q with claim := w.lane.claimNow, frameClaim := w.lane.claimNow }) :=
    .mod (.refl w) (w.lane.reclaim_keeps.trans (.of_lawful rfl))
  exact .ite (noted.trans (freeService_keeps e _)) noted

/-! ## The Lane Supervisor (Chapters 5 and 6) -/

theorem applyMode_keeps (m : Mode) (p : Policy) (cause : ModeCause) (link : Option Link) (w : Work) :
    w.Keeps (applyMode m p cause link w) := .emitLane (.quiet (.refl w) rfl) _

theorem discardPending_keeps (cause : ModeCause) (w : Work) : w.Keeps (discardPending cause w) := by
  unfold discardPending
  split
  · exact .refl w
  · exact .emitLane (.quiet (.refl w) rfl) _

theorem pendingFrame_keeps (w : Work) : w.Keeps (pendingFrame w) := by
  unfold pendingFrame
  split
  · exact .refl w
  · exact .ite (applyMode_keeps ..) (.refl w)

theorem frameEvent_keeps (e : Env) (chain : List (Option BarAnswer)) (order : FrameOrder) (w : Work) :
    w.Keeps (frameEvent e chain order w) := by
  unfold frameEvent
  split
  · exact .refl w
  · exact .quiet (.refl w) rfl
  · have scanned := (scanFrame_keeps e chain w).trans (trackerFrame_keeps e order _)
    have claimed := (scanned.trans (claimFrame_keeps e _)).trans (pendingFrame_keeps _)
    exact (claimed.trans (barrierFrame_keeps e _)).quiet rfl

theorem holdPending_keeps (link : Link) (m : Mode) (p : Policy) (w : Work) : w.Keeps (holdPending link m p w) :=
  .emitLane (.quiet (.refl w) rfl) _

theorem takeEgress_keeps (e : Env) (w : Work) : w.Keeps (takeEgress e w) :=
  ((discardPending_keeps .egressLine w).trans (applyMode_keeps ..)).trans (enterEgress_keeps e _)

theorem setHold_keeps (e : Env) (minutes : Nat) (w : Work) : w.Keeps (setHold e minutes w) :=
  .emitLane (.quiet (.refl w) rfl) _

theorem dropHold_keeps (x : LaneEvent) (w : Work) : w.Keeps (dropHold x w) := .emitLane (.quiet (.refl w) rfl) _

theorem expireHold_keeps (e : Env) (w : Work) : w.Keeps (expireHold e w) := by
  unfold expireHold
  split
  · exact .ite (dropHold_keeps ..) (.refl w)
  · exact .refl w

theorem autoClear_keeps (e : Env) (k : LatchedKind) (w : Work) : w.Keeps (autoClear e k w) := by
  unfold autoClear
  split
  · exact .ite (.emitLane (.quiet (.refl w) rfl) _) (.refl w)
  · exact .refl w

theorem LaneState.foldl_keeps {α : Type} {f : LaneState → α → LaneState} (h : ∀ (l : LaneState) x, l.Keeps (f l x)) (xs : List α)
    (l : LaneState) : l.Keeps (xs.foldl f l) := by
  induction xs generalizing l with
  | nil => exact .refl l
  | cons x xs ih => exact (h l x).trans (ih _)

theorem ackAlarms_keeps (link : Link) (codes : List Nat) (w : Work) : w.Keeps (ackAlarms link codes w) := by
  refine .ite ?acked (.emitLane ?acked _)
  exact .mod (.refl w) ((LaneState.foldl_keeps (f := fun m k => m.clearLatched k) (fun l k => .of_lawful rfl) _ _).trans
    (LaneState.foldl_keeps (f := fun m k => m.silence k) (fun l k => .of_lawful rfl) _ _))

theorem LaneState.exemptAll_keeps (l : LaneState) : l.Keeps l.exemptAll := .of_ot fun k => by simpa using k

theorem takeLockdown_keeps (link : Link) (r : ModeRequest) (w : Work) : w.Keeps (takeLockdown link r w) := by
  have marked : w.Keeps (if r.force then w.mod LaneState.exemptAll else w) := .ite (.mod (.refl w) w.lane.exemptAll_keeps) (.refl w)
  have applied := marked.quiet (f := fun l => l.modLsv fun v => { v with mode := .lockdown, policy := r.policy }) rfl
  exact (applied.trans (discardPending_keeps ..)).emitLane _

theorem takeRestore_keeps (link : Link) (m : Mode) (p : Policy) (w : Work) : w.Keeps (takeRestore link m p w) := by
  have marked : w.Keeps (w.mod LaneState.exemptAll) := .mod (.refl w) w.lane.exemptAll_keeps
  exact (Work.Keeps.ite (marked.trans (cancelAll_keeps _)) marked).trans (applyMode_keeps ..)

theorem resetQueue_keeps (w : Work) : w.Keeps (resetQueue w) := (cancelAll_keeps w).quiet rfl

theorem LaneState.resetLane_keeps (l : LaneState) : l.Keeps l.resetLane := by
  have cleared : l.Keeps ({ l with ot := Ot.reset } : LaneState).reclaim :=
    .trans (.of_ot fun _ => by decide) (LaneState.reclaim_keeps _)
  have scanned : l.Keeps ({ l with ot := Ot.reset } : LaneState).reclaim.resetScan := cleared.trans (.of_lawful rfl)
  exact (scanned.trans (LaneState.resetBarrier_keeps _)).trans (.of_lawful rfl)

theorem applyStart_keeps (w : Work) : w.Keeps (applyStart w) :=
  .ite (.refl w) ((Work.Keeps.ite (cancelAll_keeps w) (.refl w)).trans (applyMode_keeps ..))

theorem reportPosition_keeps (w : Work) : w.Keeps (reportPosition w) :=
  have read : w.Keeps (w.mod LaneState.readPosition) := .mod (.refl w) w.lane.readPosition_keeps
  .ite (read.emitBarrier _) read

end Sys2Proof.Machine

/-! The search for the next free number in 1 to 255 (R20, R46, R151), and the statement about it. -/

namespace Sys2Proof.Machine

/-- The numbers that the search tries, one after another, go round 1 to 255. -/
theorem next255_iterate {n : Nat} (low : 1 ≤ n) (high : n ≤ 255) (i : Nat) : next255^[i] n = (n - 1 + i) % 255 + 1 := by
  induction i with
  | zero => rw [Function.iterate_zero, id]; omega
  | succ i ih =>
    rw [Function.iterate_succ', Function.comp, ih, next255]
    split <;> omega

/-- A search that ends at a taken number has found every number that it tried taken. -/
theorem firstFree_taken {taken : List Nat} {fuel n : Nat} (h : firstFree taken fuel n ∈ taken) :
    ∀ i < fuel, next255^[i] n ∈ taken := by
  induction fuel generalizing n with
  | zero => exact fun i hi => absurd hi (Nat.not_lt_zero i)
  | succ fuel ih =>
    by_cases tried : n ∈ taken
    · have goesOn : firstFree taken (fuel + 1) n = firstFree taken fuel (next255 n) := by simp [firstFree, tried]
      intro i hi
      cases i with
      | zero => exact tried
      | succ i => exact ih (goesOn ▸ h) i (by omega)
    · exact absurd (firstFree_of_free tried ▸ h) tried

/-- Fewer than 255 numbers taken leave one of the 255 numbers free, and the search finds it. -/
theorem firstFree_not_mem {taken : List Nat} (few : taken.length < 255) {n : Nat} (low : 1 ≤ n) (high : n ≤ 255) :
    firstFree taken 255 n ∉ taken := by
  intro found
  have tried := firstFree_taken found
  have all : (Finset.range 255).card ≤ taken.toFinset.card := by
    refine Finset.card_le_card_of_injOn (fun i => next255^[i] n) (fun i hi => ?_) fun i hi j hj same => ?_
    · exact List.mem_toFinset.mpr (tried i (Finset.mem_range.mp hi))
    · have hi' : i < 255 := Finset.mem_range.mp hi
      have hj' : j < 255 := Finset.mem_range.mp hj
      simp only [next255_iterate low high] at same
      omega
  rw [Finset.card_range] at all
  have := List.toFinset_card_le taken
  omega

/-- Settles O14: the search stays in 1 to 255, and it would have to find 255 different numbers taken to end at a taken one. -/
theorem nextNumberIsFree : Obligations.NextNumberIsFree := fun _ _ few low high =>
  ⟨(firstFree_range low high).1, (firstFree_range low high).2, firstFree_not_mem few low high, firstFree_of_free⟩

end Sys2Proof.Machine

/-! What every change of the part keeps, operation by operation: the waiting commands, the laws of the lanes, the sizes of the queues and
transmit lists, the tags of the referral slots, the order of the credential table, the sound routes and the canonical flash. -/

namespace Sys2Proof.Machine

/-- What a change keeps: each law that holds before it holds after it, the commands wait on, and no reply joins a transmit list. -/
structure State.Keeps (s t : State) : Prop where
  pending : t.pending = s.pending
  lanes : ∀ k, (s.lane k).Keeps (t.lane k)
  queues : s.queuesBounded → t.queuesBounded
  links : ∀ l, (t.link l).tx.length ≤ (s.link l).tx.length
  ports : ∀ p, (s.port p).tx.length ≤ 4 → (t.port p).tx.length ≤ 4
  slots : s.slotsTagged → t.slotsTagged
  table : s.tableOrdered → t.tableOrdered
  routes : s.routesSound → t.routesSound
  flash : s.flashCanonical → t.flashCanonical

theorem State.Keeps.refl (s : State) : s.Keeps s := ⟨rfl, fun _ => .refl _, id, fun _ => le_rfl, fun _ => id, id, id, id, id⟩

theorem State.Keeps.trans {a b c : State} (h : a.Keeps b) (g : b.Keeps c) : a.Keeps c :=
  ⟨g.pending.trans h.pending, fun k => (h.lanes k).trans (g.lanes k), g.queues ∘ h.queues, fun l => (g.links l).trans (h.links l),
    fun p => g.ports p ∘ h.ports p, g.slots ∘ h.slots, g.table ∘ h.table, g.routes ∘ h.routes, g.flash ∘ h.flash⟩

theorem State.Keeps.ite {s a b : State} {c : Prop} [Decidable c] (h : s.Keeps a) (g : s.Keeps b) : s.Keeps (if c then a else b) := by
  split
  · exact h
  · exact g

theorem State.Keeps.foldl {α : Type} {f : State → α → State} (h : ∀ (s : State) x, s.Keeps (f s x)) (xs : List α) (s : State) :
    s.Keeps (xs.foldl f s) := by
  induction xs generalizing s with
  | nil => exact .refl s
  | cons x xs ih => exact (h s x).trans (ih _)

/-! ## Lanes, ports and links -/

theorem State.modLane_keeps {k : Lane} {f : LaneState → LaneState} {s : State} (h : (s.lane k).Keeps (f (s.lane k))) :
    s.Keeps (s.modLane k f) := by
  refine ⟨rfl, fun j => ?_, id, fun l => ?_, fun _ => id, id, id, id, id⟩
  · by_cases same : j = k
    · subst same; rw [modLane_lane]; exact h
    · rw [State.modLane_lane_of_ne s f same]; exact .refl _
  · cases l <;> exact le_rfl

theorem State.modPort_keeps {p : Port} {f : ReaderPort → ReaderPort} {s : State}
    (h : (s.port p).tx.length ≤ 4 → (f (s.port p)).tx.length ≤ 4) : s.Keeps (s.modPort p f) := by
  refine ⟨rfl, fun _ => .refl _, id, fun l => ?_, fun q => ?_, id, id, id, id⟩
  · cases l <;> exact le_rfl
  · by_cases same : q = p
    · subst same; rw [modPort_port]; exact h
    · rw [State.modPort_port_of_ne s f same]; exact id

/-- A change of a link that lets no queue or transmit list grow. -/
theorem State.modLink_keeps {l : Link} {f : LinkPort → LinkPort} {s : State}
    (hq : ∀ q : LinkPort, (f q).queue.length ≤ q.queue.length) (ht : ∀ q : LinkPort, (f q).tx.length ≤ q.tx.length) :
    s.Keeps (s.modLink l f) := by
  refine ⟨by simp, fun k => ?_, fun ⟨site, desk⟩ => ?_, fun m => ?_, fun p => ?_, ?_, ?_, ?_, ?_⟩
  · rw [State.lane, State.lane, modLink_lanes]; exact .refl _
  · cases l
    · exact ⟨(hq _).trans site, desk⟩
    · exact ⟨site, (hq _).trans desk⟩
  · by_cases same : m = l
    · subst same; rw [modLink_link]; exact ht _
    · rw [State.modLink_link_of_ne s f same]
  · rw [State.port, State.port, modLink_ports]; exact id
  · cases l <;> exact id
  · cases l <;> exact id
  · cases l <;> exact id
  · cases l <;> exact id

/-! ## Posting, frames to readers, the work of an event -/

theorem State.post_link_tx (s : State) (n : Nat) (b : NoticeBody) (l : Link) : ((s.post n b).link l).tx = (s.link l).tx := by
  cases l
  · exact (State.post_site_sameButQueue s n b).2.1
  · exact (State.post_desk_sameButQueue s n b).2.1

theorem State.post_keeps (s : State) (n : Nat) (b : NoticeBody) : s.Keeps (s.post n b) := by
  refine ⟨by simp, fun k => ?_, fun h => State.post_queuesBounded h n b, fun l => ?_, fun p => ?_, ?_, ?_, ?_, ?_⟩
  · rw [post_lane]; exact .refl _
  · rw [State.post_link_tx]
  · rw [post_port]; exact id
  · simp [State.slotsTagged]
  · simp [State.tableOrdered]
  · simp [State.routesSound]
  · simp [State.flashCanonical]

theorem State.postAll_keeps (s : State) (n : Nat) (bs : List NoticeBody) : s.Keeps (s.postAll n bs) :=
  .foldl (fun t b => t.post_keeps n b) bs s

theorem State.sendReader_keeps (s : State) (p : Port) (f : ReaderFrame) : s.Keeps (s.sendReader p f) := by
  refine State.modPort_keeps fun h => ?_
  have sent := State.sendReader_tx_length_le (f := f) h
  rw [State.sendReader, modPort_port] at sent
  exact sent

/-- Numbers kept in their places keep the table ordered. -/
theorem State.setCreds_keeps {cs : List Cred} {s : State} (h : s.tableOrdered → (s.setCreds cs).tableOrdered) :
    s.Keeps (s.setCreds cs) :=
  ⟨rfl, fun _ => .refl _, id, fun l => by cases l <;> exact le_rfl, fun _ => id, id, h, id, id⟩

/-- The order of a table is a fact about its numbers. -/
theorem State.tableOrdered_iff (s : State) :
    s.tableOrdered ↔ (s.cst.creds.map (·.number)).Pairwise (· < ·) ∧ (∀ n ∈ s.cst.creds.map (·.number), 1 ≤ n)
      ∧ (s.cst.creds.map (·.number)).length ≤ 8192 := by
  rw [State.tableOrdered, ascending_iff, List.pairwise_map, List.length_map]
  simp

theorem State.setCreds_keeps_of_numbers {cs : List Cred} {s : State} (h : cs.map (·.number) = s.cst.creds.map (·.number)) :
    s.Keeps (s.setCreds cs) :=
  State.setCreds_keeps fun ordered => by
    rw [State.tableOrdered_iff] at ordered ⊢
    rw [show (s.setCreds cs).cst.creds = cs from rfl, h]
    exact ordered

theorem State.runLane_keeps {k : Lane} {f : Env → Work → Work} {s : State} (h : ∀ e (w : Work), w.Keeps (f e w)) : s.Keeps (s.runLane k f) := by
  have kept := h (s.env k) (s.work k)
  have credited : s.Keeps (s.setCreds (f (s.env k) (s.work k)).creds) := State.setCreds_keeps_of_numbers kept.numbers
  have taken : s.Keeps ((s.setCreds (f (s.env k) (s.work k)).creds).modLane k fun _ => (f (s.env k) (s.work k)).lane) :=
    credited.trans (State.modLane_keeps kept.lane)
  exact taken.trans (State.postAll_keeps _ (laneNumber k) (f (s.env k) (s.work k)).out)

theorem State.refresh_keeps (s : State) (k : Lane) : s.Keeps (s.refresh k) := State.modLane_keeps (.of_lawful rfl)

theorem State.refreshAll_keeps (s : State) : s.Keeps s.refreshAll := .foldl (fun t k => t.refresh_keeps k) _ s

/-! ## Referral slots (Chapter 8) -/

theorem State.withSlots_keeps {r : Rfu} {s : State} (h : s.slotsTagged → ({ s with rfu := r } : State).slotsTagged) :
    s.Keeps { s with rfu := r } :=
  ⟨rfl, fun _ => .refl _, id, fun l => by cases l <;> exact le_rfl, fun _ => id, h, id, id, id⟩

/-- Fewer slots under the tags they had are tagged as well. -/
theorem State.filterSlots_keeps (test : Slot → Bool) (s : State) :
    s.Keeps { s with rfu := { s.rfu with slots := s.rfu.slots.filter test } } :=
  State.withSlots_keeps fun ⟨few, distinct, inRange, counter⟩ =>
    ⟨(List.length_filter_le _ _).trans few, distinct.sublist ((List.filter_sublist (p := test)).map _),
      fun x hx => inRange x (List.mem_of_mem_filter hx), counter⟩

theorem State.freeSlot_keeps (tag : Nat) (s : State) : s.Keeps (s.freeSlot tag) := s.filterSlots_keeps _

theorem State.closeSlots_keeps (test : Slot → Bool) (cause : ClosureCause) (s : State) : s.Keeps (s.closeSlots test cause) :=
  (s.filterSlots_keeps fun x => !test x).trans (.foldl (fun t _ => t.post_keeps _ _) _ _)

theorem State.closeLane_keeps (k : Lane) (cause : ClosureCause) (s : State) : s.Keeps (s.closeLane k cause) := s.closeSlots_keeps _ cause

/-- A slot opened while one is free gets a tag that no other holds (R151). -/
theorem State.openSlot_keeps {s : State} (room : s.rfu.slots.length < 8) (p : Port) (n : Nat) (cls : Option ClassNo)
    (r : ReferralReason) : s.Keeps (s.openSlot (newSlot s p n cls r)) := by
  refine .trans (State.withSlots_keeps fun ⟨few, distinct, inRange, low, high⟩ => ?_) (State.post_keeps _ _ _)
  have fresh : (newSlot s p n cls r).tag ∉ s.rfu.slots.map (·.tag) := firstFree_not_mem (by simp; omega) low high
  have range : 1 ≤ (newSlot s p n cls r).tag ∧ (newSlot s p n cls r).tag ≤ 255 := firstFree_range low high
  refine ⟨?_, ?_, fun x hx => ?_, next255_range range.1⟩
  · simpa using room
  · simpa [List.nodup_append, distinct] using fresh
  · rcases List.mem_append.mp hx with old | new
    · exact inRange x old
    · rw [List.mem_singleton.mp new]; exact range

/-! ## Reads and the conclusions of referrals -/

theorem State.absorb_append_keeps {s : State} {q : AppendReq} {k : Lane} {w : Work} {n : Nat} {st : PermitState}
    (h : append (s.env k) q (s.work k) = .accepted w n st) : s.Keeps (s.absorb k w) := by
  have kept := append_keeps h
  have credited : s.Keeps (s.setCreds w.creds) := State.setCreds_keeps_of_numbers kept.numbers
  have taken : s.Keeps ((s.setCreds w.creds).modLane k fun _ => w.lane) := credited.trans (State.modLane_keeps kept.lane)
  exact taken.trans (State.postAll_keeps _ (laneNumber k) w.out)

theorem appendStep_keeps (r : Reason) (q : AppendReq) (p : Port) (s : State) : s.Keeps (appendStep r q p s).1 := by
  unfold appendStep
  split
  · exact .refl s
  · exact .refl s
  · rename_i accepted
    exact State.absorb_append_keeps accepted

theorem readFallback_keeps (p : Port) (n : Nat) (record : Option Cred) (cause : FallbackCause) (s : State) :
    s.Keeps (readFallback p n record cause s).state := by
  unfold readFallback
  split
  · exact .refl s
  · exact appendStep_keeps _ _ p s

theorem State.noReferral_eq_none {s : State} (h : s.noReferral = none) : s.rfu.slots.length < 8 ∧ s.site.queue.length < 64 := by
  unfold State.noReferral at h
  split at h
  · exact absurd h (by simp)
  · rename_i room
    split at h
    · exact absurd h (by simp)
    · rename_i queued
      exact ⟨not_le.mp room, not_le.mp queued⟩

theorem referRead_keeps (p : Port) (n : Nat) (record : Option Cred) (r : ReferralReason) (s : State) :
    s.Keeps (referRead p n record r s).state := by
  unfold referRead
  split
  · exact readFallback_keeps p n record _ s
  · rename_i free
    exact State.openSlot_keeps (State.noReferral_eq_none free).1 ..

theorem grantRead_keeps (p : Port) (n : Nat) (c : Cred) (s : State) : s.Keeps (grantRead p n c s).state := by
  unfold grantRead
  dsimp only
  split
  · exact .refl s
  · exact appendStep_keeps _ _ p s

theorem lateSteps_keeps (p : Port) (n : Nat) (record : Option Cred) (s : State) : s.Keeps (lateSteps p n record s).state := by
  unfold lateSteps
  split
  · exact .refl s
  · split
    · exact .refl s
    · exact referRead_keeps ..
  · split
    · exact .refl s
    · exact grantRead_keeps ..

theorem finishRead_keeps {s : State} (p : Port) (n : Nat) (cls : Option ClassNo) {r : ReadResult} (h : s.Keeps r.state) :
    s.Keeps (finishRead p n cls r) := (h.trans (State.sendReader_keeps ..)).trans (State.post_keeps ..)

theorem State.read_keeps (p : Port) (n : Nat) (s : State) : s.Keeps (s.read p n) := by
  unfold State.read
  split
  · exact finishRead_keeps p n none (.refl s)
  · exact finishRead_keeps p n _ (lateSteps_keeps p n _ s)

theorem concludeGrant_keeps (r : Reason) (x : Slot) (cls : Option ClassNo) (allowance : Nat) (s : State) :
    s.Keeps (concludeGrant r x cls allowance s).1 := by
  unfold concludeGrant
  split
  · exact .refl s
  · exact appendStep_keeps ..

theorem finishConclusion_keeps {s : State} (x : Slot) (cls : Option ClassNo) (by_ : Option Link) {r : State × Ending × Option AppendInfo}
    (h : s.Keeps r.1) : s.Keeps (finishConclusion x cls by_ r) := (h.trans (State.sendReader_keeps ..)).trans (State.post_keeps ..)

theorem settleByDeadline_keeps (x : Slot) (s : State) : s.Keeps (settleByDeadline x s) := by
  have freed := s.freeSlot_keeps x.tag
  unfold settleByDeadline
  dsimp only
  split
  · exact finishConclusion_keeps x _ _ freed
  · exact finishConclusion_keeps x _ _ (freed.trans (concludeGrant_keeps ..))

theorem State.referralDue_keeps (tag : Nat) (s : State) : s.Keeps (s.referralDue tag) := by
  unfold State.referralDue
  split
  · exact .refl s
  · exact .ite ((settleByDeadline_keeps _ s).trans (State.refresh_keeps ..)) (.refl s)

/-! ## Reader ports (Chapter 9) -/

/-- A change of a port that leaves its transmit list alone. -/
theorem State.modPort_keeps_of_tx {p : Port} {f : ReaderPort → ReaderPort} (h : ∀ r : ReaderPort, (f r).tx = r.tx) (s : State) :
    s.Keeps (s.modPort p f) := State.modPort_keeps fun k => (h _).symm ▸ k

theorem State.postReader_keeps (p : Port) (e : ReaderEvent) (s : State) : s.Keeps (s.postReader p e) := s.post_keeps _ _

theorem State.badFrame_keeps (p : Port) (s : State) : s.Keeps (s.badFrame p) :=
  .ite ((s.modPort_keeps_of_tx fun _ => by rfl).trans (State.sendReader_keeps ..))
    ((s.modPort_keeps_of_tx fun _ => by rfl).trans (State.postReader_keeps ..))

theorem State.goodFrame_keeps (p : Port) (s : State) : s.Keeps (s.goodFrame p) := s.modPort_keeps_of_tx fun _ => by rfl

theorem State.setPort_keeps (p : Port) (x : PortState) (s : State) : s.Keeps (s.setPort p x) := s.modPort_keeps_of_tx fun _ => by rfl

theorem State.portPresent_keeps (p : Port) (s : State) : s.Keeps (s.portPresent p) :=
  (s.setPort_keeps p .present).trans (State.postReader_keeps ..)

theorem LaneState.raise_keeps (now : Nat) (k : LatchedKind) (l : LaneState) : l.Keeps (l.raise now k) :=
  .of_lawful (l.modLsv_lawful _)

theorem State.tamperEntry_keeps (p : Port) (s : State) : s.Keeps (s.tamperEntry p) := by
  unfold State.tamperEntry
  refine .trans (.trans (.trans (.trans (s.setPort_keeps p .tampered) (State.runLane_keeps fun _ w => tamperRemove_keeps p w))
    (State.closeSlots_keeps _ .tamper _)) (State.modLane_keeps ?raised)) (State.postReader_keeps ..)
  exact LaneState.raise_keeps ..

theorem State.cardState_keeps (p : Port) (s : State) : s.Keeps (s.cardState p) := by
  unfold State.cardState
  split
  · exact s.portPresent_keeps p
  · exact .refl s
  · exact .refl s

theorem State.statusState_keeps (p : Port) (tamper : Bool) (s : State) : s.Keeps (s.statusState p tamper) := by
  unfold State.statusState
  split
  · exact s.portPresent_keeps p
  · exact .refl s
  · exact (s.setPort_keeps p .present).trans (State.postReader_keeps ..)
  · exact s.tamperEntry_keeps p
  · exact s.tamperEntry_keeps p
  · exact .refl s

theorem State.cardFrame_keeps (p : Port) (n : Nat) (s : State) : s.Keeps (s.cardFrame p n) :=
  .ite (((s.goodFrame_keeps p).trans (State.cardState_keeps p _)).trans (State.read_keeps p n _)) (s.badFrame_keeps p)

theorem State.cardEvent_keeps (p : Port) (n : Nat) (s : State) : s.Keeps (s.cardEvent p n) :=
  (s.cardFrame_keeps p n).trans (State.refresh_keeps ..)

theorem State.statusFrame_keeps (p : Port) (tamper : Bool) (s : State) : s.Keeps (s.statusFrame p tamper) :=
  ((s.goodFrame_keeps p).trans (State.statusState_keeps p tamper _)).trans (State.modPort_keeps_of_tx (fun _ => by rfl) _)

theorem State.statusEvent_keeps (p : Port) (tamper : Bool) (s : State) : s.Keeps (s.statusEvent p tamper) :=
  (s.statusFrame_keeps p tamper).trans (State.refresh_keeps ..)

theorem State.silenceTest_keeps (p : Port) (s : State) : s.Keeps (s.silenceTest p) := by
  unfold State.silenceTest
  split
  · exact .refl s
  · exact .ite ((s.setPort_keeps p .absent).trans (State.postReader_keeps ..)) (.refl s)

theorem State.gatherReader_keeps (p : Port) (bytes : List Byte) (s : State) : s.Keeps (s.gatherReader p bytes) :=
  s.modPort_keeps_of_tx fun _ => by rfl

theorem State.takeReader_keeps (p : Port) (bytes : List Byte) (s : State) : s.Keeps (s.takeReader p bytes) := by
  unfold State.takeReader
  split
  · exact s.gatherReader_keeps p bytes
  · exact s.badFrame_keeps p
  · exact s.cardEvent_keeps p _
  · exact s.statusEvent_keeps p _

theorem State.huntReader_keeps (p : Port) (b : Byte) (s : State) : s.Keeps (s.huntReader p b) :=
  .ite (s.gatherReader_keeps p [b]) (.refl s)

theorem State.readerByte_keeps (p : Port) (b : Byte) (s : State) : s.Keeps (s.readerByte p b) := by
  unfold State.readerByte
  split
  · exact s.huntReader_keeps p b
  · exact .ite ((s.badFrame_keeps p).trans (State.huntReader_keeps p b _)) (s.takeReader_keeps p _)

/-! ## The Image Store (Chapter 11) -/

theorem State.withIms_keeps {i : Ims} {s : State} (h : s.flashCanonical → i.flash.wf = true) : s.Keeps { s with ims := i } :=
  ⟨rfl, fun _ => .refl _, id, fun l => by cases l <;> exact le_rfl, fun _ => id, id, id, id, h⟩

theorem State.setFlash_keeps {m : Memory} {s : State} (h : s.flashCanonical → m.wf = true) : s.Keeps (s.setFlash m) :=
  State.withIms_keeps h

theorem State.endSave_keeps (last : LastSave) (s : State) : s.Keeps (s.endSave last) := State.withIms_keeps id

theorem State.setRun_keeps (r : SaveRun) (s : State) : s.Keeps (s.setRun r) := State.withIms_keeps id

theorem State.failSave_keeps (cause : SaveCause) (r : SaveRun) (s : State) : s.Keeps (s.failSave cause r) :=
  (s.endSave_keeps _).trans (State.post_keeps ..)

theorem State.finishSave_keeps (r : SaveRun) (s : State) : s.Keeps (s.finishSave r) :=
  (s.endSave_keeps _).trans (State.post_keeps ..)

theorem State.stageDone_keeps (f : FlashOutcome) (r : SaveRun) (s : State) : s.Keeps (s.stageDone f r) := by
  unfold State.stageDone
  split
  · exact (State.setFlash_keeps fun h => State.stageWritten_wf _ r h).trans (State.failSave_keeps ..)
  · exact (State.setFlash_keeps fun h => State.stageWritten_wf _ r h).trans (State.setRun_keeps ..)

theorem State.readBack_keeps (f : FlashOutcome) (altered : List Host.Cell) (r : SaveRun) (s : State) :
    s.Keeps (s.readBack f altered r) := by
  unfold State.readBack
  split
  · exact (State.setFlash_keeps fun h => State.stageWritten_wf _ r h).trans (State.failSave_keeps ..)
  · have written : s.Keeps (s.setFlash (Memory.writeCells altered (s.stageWritten none r))) :=
      State.setFlash_keeps fun h => Memory.writeCells_wf altered (State.stageWritten_wf _ r h)
    exact .ite (written.trans (State.finishSave_keeps ..)) (written.trans (State.failSave_keeps ..))

theorem State.onStage_keeps {stage : SaveStage} {act : SaveRun → State → State} (s : State) (h : ∀ r, s.Keeps (act r s)) :
    s.Keeps (s.onStage stage act) := by
  unfold State.onStage
  split
  · exact .refl s
  · exact .ite (h _) (.refl s)

theorem State.saveTimeout_keeps (taken : Nat) (s : State) : s.Keeps (s.saveTimeout taken) := by
  unfold State.saveTimeout
  split
  · exact .refl s
  · exact .ite ((State.setFlash_keeps fun h => State.stageWritten_wf _ _ h).trans (State.failSave_keeps ..)) (.refl s)

end Sys2Proof.Machine

/-! What a full reset and the requests keep; what every command keeps; and the statements that follow: the part never stops, and every step
keeps the drives, the bounds, the referral slots and the stored data. -/

namespace Sys2Proof.Machine

/-! ## The image (R190, R191, R203) -/

/-- A list of lookups that all succeed: one result for each, in order. -/
theorem map_eq_of_mapM {α β : Type} {f : α → Option β} {xs : List α} {ys : List β} (h : xs.mapM f = some ys) :
    xs.map f = ys.map some := by
  induction xs generalizing ys with
  | nil =>
    obtain rfl : ys = [] := by simpa using h.symm
    rfl
  | cons x xs ih =>
    obtain ⟨y, hy, rest, hrest, e⟩ : ∃ y, f x = some y ∧ ∃ zs, xs.mapM f = some zs ∧ y :: zs = ys := by
      simpa [List.mapM_cons, Option.bind_eq_some_iff] using h
    rw [← e, List.map_cons, List.map_cons, hy, ih hrest]

theorem length_of_mapM {α β : Type} {f : α → Option β} {xs : List α} {ys : List β} (h : xs.mapM f = some ys) :
    ys.length = xs.length := by simpa using (congrArg List.length (map_eq_of_mapM h)).symm

theorem exists_of_mem_mapM {α β : Type} {f : α → Option β} {xs : List α} {ys : List β} (h : xs.mapM f = some ys) {y : β}
    (hy : y ∈ ys) : ∃ x ∈ xs, f x = some y := List.mem_map.mp (map_eq_of_mapM h ▸ List.mem_map_of_mem hy)

theorem unpackCred_ok {b : List Byte} {c : Cred} (h : unpackCred b = some c) : c.ok = true := by
  unfold unpackCred at h
  split at h
  · dsimp only at h
    split at h
    · split at h
      · rename_i ok
        exact Option.some.inj h ▸ ok
      · exact absurd h (by simp)
    · exact absurd h (by simp)
  · exact absurd h (by simp)

theorem Cred.ok_number {c : Cred} (h : c.ok = true) : 1 ≤ c.number := by
  unfold Cred.ok at h
  simp only [Bool.and_eq_true, decide_eq_true_eq] at h
  exact h.1.1.1

/-- The tables of an image that R191 takes for good: the records ascend, hold no number 0, and are as many as the header says. -/
theorem imageContents_table {b : List Byte} {i : Image} (h : imageContents b = some i) :
    ascending i.creds = true ∧ (∀ c ∈ i.creds, 1 ≤ c.number) ∧ i.creds.length = imageCount b := by
  unfold imageContents at h
  split at h
  · rename_i lanes routing classes creds hl hr hc hcreds
    split at h
    · rename_i ordered
      obtain rfl := Option.some.inj h
      refine ⟨ordered, fun c hc => ?_, by simpa using length_of_mapM hcreds⟩
      obtain ⟨_, -, unpacked⟩ := exists_of_mem_mapM hcreds hc
      exact Cred.ok_number (unpackCred_ok unpacked)
    · exact absurd h (by simp)
  · exact absurd h (by simp)

/-- A field that lies in the first part of a payload. -/
theorem natAt_append_left {xs ys : List Byte} {i w : Nat} (h : i + w ≤ xs.length) : natAt (xs ++ ys) i w = natAt xs i w := by
  unfold natAt
  rw [List.drop_append_of_le_length (by omega), List.take_append_of_le_length (by rw [List.length_drop]; omega)]

theorem Memory.imageCount_imageBytes (m : Memory) : imageCount m.imageBytes = imageCount (m.readBytes 0 headerSize) :=
  natAt_append_left (by rw [Memory.readBytes_length]; decide)

/-- A good image in the flash has at most 8,192 records, in order. -/
theorem Memory.judge_table {m : Memory} {x : StartResult} {i : Image} (h : m.judge = (x, some i)) :
    ascending i.creds = true ∧ (∀ c ∈ i.creds, 1 ≤ c.number) ∧ i.creds.length ≤ 8192 := by
  unfold Memory.judge at h
  split at h
  · exact absurd h (by simp)
  split at h
  · exact absurd h (by simp)
  split at h
  · exact absurd h (by simp)
  rename_i few
  dsimp only at h
  split at h
  · exact absurd h (by simp)
  split at h
  · exact absurd h (by simp)
  rename_i found
  simp only [Prod.mk.injEq, Option.some.injEq] at h
  obtain ⟨ordered, numbered, counted⟩ := imageContents_table found
  rw [Memory.imageCount_imageBytes] at counted
  rw [← h.2]
  exact ⟨ordered, numbered, counted ▸ Nat.le_of_not_lt few⟩

theorem startImage_table {r : ResetInputs} {m : Memory} {i : Image} (h : (startImage r m).2 = some i) :
    ascending i.creds = true ∧ (∀ c ∈ i.creds, 1 ≤ c.number) ∧ i.creds.length ≤ 8192 := by
  unfold startImage at h
  split at h
  · exact absurd h (by simp)
  split at h
  · exact absurd h (by simp)
  exact Memory.judge_table (x := m.judge.1) (Prod.ext rfl h)

/-! ## Routes (R182, R187) -/

/-- REFERRAL is routed SITE, and no alarm-bearing kind is routed NONE (R182). -/
def Routing.sound (r : Routing) : Prop := ∀ kind, r.get kind = correctedRoute kind (r.get kind)

theorem correctedRoute_correctedRoute (kind : NoticeKind) (x : Route) :
    correctedRoute kind (correctedRoute kind x) = correctedRoute kind x := by cases kind <;> cases x <;> rfl

theorem State.routesSound_iff (s : State) : s.routesSound ↔ s.routing.sound := by
  unfold State.routesSound Routing.sound
  constructor
  · rintro ⟨hr, hv, hb, hd, hl⟩ kind
    cases kind <;> simp_all [Routing.get, correctedRoute, NoticeKind.alarmBearing]
  · intro h
    refine ⟨h .referral, fun e => ?_, fun e => ?_, fun e => ?_, fun e => ?_⟩
    · have := h .violation; simp [Routing.get, e, correctedRoute, NoticeKind.alarmBearing] at this
    · have := h .barrier; simp [Routing.get, e, correctedRoute, NoticeKind.alarmBearing] at this
    · have := h .reader; simp [Routing.get, e, correctedRoute, NoticeKind.alarmBearing] at this
    · have := h .lane; simp [Routing.get, e, correctedRoute, NoticeKind.alarmBearing] at this

theorem Routing.get_put (r : Routing) (a b : NoticeKind) (x : Route) : (r.put a x).get b = if b = a then x else r.get b := by
  cases a <;> cases b <;> rfl

theorem Routing.apply_sound {r : Routing} (h : r.sound) (e : NoticeKind × Route) : (r.apply e).sound := by
  intro kind
  rw [Routing.apply, Routing.get_put]
  split
  · rename_i same
    rw [same, correctedRoute_correctedRoute]
  · exact h kind

theorem Routing.foldl_apply_sound (es : List (NoticeKind × Route)) {r : Routing} (h : r.sound) : (es.foldl Routing.apply r).sound := by
  induction es generalizing r with
  | nil => exact h
  | cons e es ih => exact ih (Routing.apply_sound h e)

theorem Routing.corrected_get (r : Routing) (kind : NoticeKind) : r.corrected.get kind = correctedRoute kind (r.get kind) := by
  cases kind <;> rfl

theorem Routing.corrected_sound (r : Routing) : r.corrected.sound := fun kind => by
  rw [Routing.corrected_get, correctedRoute_correctedRoute]

/-! ## Full reset (R194) -/

theorem State.cleared_lane (r : ResetInputs) (s : State) (k : Lane) : (s.cleared r).lane k = (s.lane k).resetKeeping := by
  match k with
  | 0 | 1 | 2 | 3 | 4 | 5 => rfl

@[simp] theorem State.cleared_port (r : ResetInputs) (s : State) (p : Port) : (s.cleared r).port p = .reset := by
  simp [State.port, State.cleared, State.reset, Vector.get_eq_getElem]

theorem flashAtReset_wf (r : ResetInputs) {s : State} (h : s.flashCanonical) : (flashAtReset r s).wf = true := by
  unfold flashAtReset
  split
  · exact Memory.writeCells_wf _ h
  · exact State.stageWritten_wf _ _ h

theorem LaneState.resetKeeping_keeps (l : LaneState) : l.Keeps l.resetKeeping :=
  ⟨fun _ => ⟨rfl, rfl⟩, fun _ => Nat.zero_le 8, fun _ => Nat.zero_le 4, fun _ _ hp => absurd hp List.not_mem_nil⟩

theorem State.cleared_keeps (r : ResetInputs) (s : State) : s.Keeps (s.cleared r) where
  pending := rfl
  lanes k := by rw [State.cleared_lane]; exact LaneState.resetKeeping_keeps _
  queues _ := ⟨Nat.zero_le 64, Nat.zero_le 32⟩
  links l := by cases l <;> exact Nat.zero_le _
  ports p _ := by rw [cleared_port]; exact Nat.zero_le 4
  slots _ := ⟨Nat.zero_le 8, List.nodup_nil, fun _ hx => absurd hx List.not_mem_nil, le_rfl, (by decide : 1 ≤ 255)⟩
  table _ := ⟨rfl, fun _ hc => absurd hc List.not_mem_nil, Nat.zero_le 8192⟩
  routes _ := (State.routesSound_iff _).mpr fun kind => by cases kind <;> rfl
  flash := flashAtReset_wf r

theorem LaneState.load_keeps (x : LaneSettings) (l : LaneState) : l.Keeps (l.load x) := .of_lawful rfl

theorem State.loadLane_keeps (i : Image) (s : State) (k : Lane) : s.Keeps (s.loadLane i k) := by
  unfold State.loadLane
  split
  · exact .refl s
  · exact State.modLane_keeps (LaneState.load_keeps ..)

theorem State.load_keeps {i : Image} (h : ascending i.creds = true ∧ (∀ c ∈ i.creds, 1 ≤ c.number) ∧ i.creds.length ≤ 8192)
    (s : State) : s.Keeps (s.load i) := by
  refine .trans (.foldl (State.loadLane_keeps i) allLanes s) ?_
  refine ⟨rfl, fun _ => .refl _, id, fun l => ?_, fun _ => id, id, fun _ => h, fun _ => ?_, id⟩
  · cases l <;> exact le_rfl
  · exact (State.routesSound_iff _).mpr (Routing.corrected_sound _)

theorem State.loadStart_keeps {o : Option Image}
    (h : ∀ i, o = some i → ascending i.creds = true ∧ (∀ c ∈ i.creds, 1 ≤ c.number) ∧ i.creds.length ≤ 8192) (s : State) :
    s.Keeps (s.loadStart o) := by
  unfold State.loadStart
  split
  · exact .refl s
  · exact State.load_keeps (h _ rfl) s

theorem State.egressLane_keeps (s : State) (k : Lane) : s.Keeps (s.egressLane k) := by
  refine .ite (.refl s) ?_
  have cancelled : s.Keeps (s.runLane k fun _ w => cancelAll w) := State.runLane_keeps fun _ w => cancelAll_keeps w
  exact (cancelled.trans (State.closeLane_keeps ..)).trans (State.runLane_keeps takeEgress_keeps)

theorem State.startLane_keeps (s : State) (k : Lane) : s.Keeps (s.startLane k) := by
  have started : s.Keeps (s.runLane k fun _ w => applyStart (reportPosition w)) :=
    State.runLane_keeps fun _ w => (reportPosition_keeps w).trans (applyStart_keeps _)
  have sampled := State.Keeps.ite (c := (s.runLane k fun _ w => applyStart (reportPosition w)).egressLine = true)
    (started.trans (State.egressLane_keeps _ k)) started
  exact sampled.trans (State.modLane_keeps (.of_lawful rfl))

theorem State.fullReset_keeps (r : ResetInputs) (s : State) : s.Keeps (s.fullReset r) := by
  have loaded := (s.cleared_keeps r).trans (State.loadStart_keeps
    (fun i (found : (startImage r (s.cleared r).ims.flash).2 = some i) => startImage_table found) _)
  exact ((loaded.trans (State.post_keeps ..)).trans (.foldl State.startLane_keeps _ _)).trans (State.refreshAll_keeps _)

/-! ## Requests of a lane (Chapters 1 to 6) -/

/-- A request that is judged keeps what its state keeps, whichever branch judges it. -/
theorem State.Keeps.judged {s : State} {a b : Judged} {c : Prop} [Decidable c] (h : s.Keeps a.state) (g : s.Keeps b.state) :
    s.Keeps (if c then a else b).state := by
  split
  · exact h
  · exact g

theorem refused_keeps (s : State) (st : Status) : s.Keeps (refused s st).state := .refl s

theorem done_keeps {s t : State} (h : s.Keeps t) (k : Lane) (st : Status) (body : List Byte) : s.Keeps (done k st t body).state :=
  h.trans (t.refresh_keeps k)

theorem State.lockdown_keeps (k : Lane) (link : Link) (r : ModeRequest) (s : State) : s.Keeps (s.lockdown k link r) := by
  have cancelled : s.Keeps (s.runLane k fun _ w => cancelAll w) := State.runLane_keeps fun _ w => cancelAll_keeps w
  exact (cancelled.trans (State.closeLane_keeps ..)).trans (State.runLane_keeps fun _ w => takeLockdown_keeps link r w)

theorem State.forceMode_keeps (k : Lane) (link : Link) (r : ModeRequest) (s : State) : s.Keeps (s.forceMode k link r) := by
  have cancelled : s.Keeps (s.runLane k fun _ w => cancelAll w) := State.runLane_keeps fun _ w => cancelAll_keeps w
  refine (cancelled.trans (State.closeLane_keeps ..)).trans (State.runLane_keeps fun _ w => ?_)
  exact (Work.Keeps.mod (.refl w) w.lane.exemptAll_keeps).trans (applyMode_keeps ..)

theorem State.changeMode_keeps (k : Lane) (link : Link) (r : ModeRequest) (s : State) : s.Keeps (s.changeMode k link r).1 := by
  unfold State.changeMode
  dsimp only
  split
  · exact s.lockdown_keeps k link r
  split
  · exact State.runLane_keeps fun _ w => (discardPending_keeps ..).trans (applyMode_keeps ..)
  split
  · exact s.forceMode_keeps k link r
  split
  · exact State.runLane_keeps fun _ w => applyMode_keeps ..
  · exact State.runLane_keeps fun _ w => holdPending_keeps ..

theorem judgeLaneMode_keeps (l : Link) (k : Lane) (p : List Byte) (s : State) : s.Keeps (judgeLaneMode l k p s).state := by
  refine .judged (refused_keeps s _) (.judged (refused_keeps s _) (.judged (refused_keeps s _) ?_))
  split
  · exact refused_keeps s _
  · rename_i r _
    have started : s.Keeps (if r.start then s.modLane k (LaneState.setStart r.mode r.policy) else s) :=
      .ite (State.modLane_keeps (.of_lawful rfl)) (.refl s)
    refine done_keeps ?_ k _ _
    split
    · exact started.trans (State.changeMode_keeps k l r _)
    · exact started

theorem judgeLaneGeometry_keeps (l : Link) (k : Lane) (p : List Byte) (s : State) : s.Keeps (judgeLaneGeometry l k p s).state := by
  refine .judged (refused_keeps s _) (.judged (refused_keeps s _) (.judged (refused_keeps s _) (.judged (refused_keeps s _) ?_)))
  split
  · exact refused_keeps s _
  · refine .judged (done_keeps ?_ k _ _) (refused_keeps s _)
    exact State.runLane_keeps fun _ w => (Work.Keeps.quiet (.refl w) rfl).trans (judgeSensor_keeps _)

theorem LaneState.applyTiming_keeps (t : Timing) (l : LaneState) : l.Keeps (l.applyTiming t) :=
  ⟨id, fun h => by simpa [LaneState.applyTiming] using h, id, id⟩

theorem judgeLaneTiming_keeps (l : Link) (k : Lane) (p : List Byte) (s : State) : s.Keeps (judgeLaneTiming l k p s).state := by
  refine .judged (refused_keeps s _) (.judged (refused_keeps s _) (.judged (refused_keeps s _) ?_))
  split
  · exact refused_keeps s _
  · exact done_keeps (State.modLane_keeps (LaneState.applyTiming_keeps ..)) k _ _

theorem State.resetLane_keeps (k : Lane) (s : State) : s.Keeps (s.resetLane k) := by
  have queued : s.Keeps (s.runLane k fun _ w => resetQueue w) := State.runLane_keeps fun _ w => resetQueue_keeps w
  refine (queued.trans (State.closeLane_keeps ..)).trans (State.runLane_keeps fun _ w => ?_)
  exact (Work.Keeps.mod (.refl w) w.lane.resetLane_keeps).emitLane _

theorem judgeLaneReset_keeps (l : Link) (k : Lane) (p : List Byte) (s : State) : s.Keeps (judgeLaneReset l k p s).state :=
  .judged (refused_keeps s _) (.judged (refused_keeps s _) (.judged (refused_keeps s _) (done_keeps (s.resetLane_keeps k) k _ _)))

theorem judgePulse_keeps (l : Link) (k : Lane) (p : List Byte) (s : State) : s.Keeps (judgePulse l k p s).state := by
  refine .judged (refused_keeps s _) (.judged (refused_keeps s _) ?_)
  split
  · exact refused_keeps s _
  · split
    · exact refused_keeps s _
    · exact refused_keeps s _
    · rename_i accepted
      exact done_keeps (State.absorb_append_keeps accepted) k _ _

theorem judgeCancel_keeps (l : Link) (k : Lane) (p : List Byte) (s : State) : s.Keeps (judgeCancel l k p s).state := by
  refine .judged (refused_keeps s _) (.judged (refused_keeps s _) (.judged (done_keeps ?_ k _ _) ?_))
  · exact State.runLane_keeps fun _ w => cancelAll_keeps w
  · split
    · exact done_keeps (State.runLane_keeps fun _ w => removePermit_keeps _ _ w) k _ _
    · exact refused_keeps s _

theorem judgeAlarmAck_keeps (l : Link) (k : Lane) (p : List Byte) (s : State) : s.Keeps (judgeAlarmAck l k p s).state :=
  .judged (refused_keeps s _)
    (.judged (done_keeps (State.runLane_keeps fun _ w => ackAlarms_keeps l (ackCodes p) w) k _ _) (refused_keeps s _))

theorem judgeRestore_keeps (l : Link) (k : Lane) (p : List Byte) (s : State) : s.Keeps (judgeRestore l k p s).state := by
  refine .judged (refused_keeps s _) ?_
  split
  · exact refused_keeps s _
  · exact .judged (refused_keeps s _) (done_keeps (State.runLane_keeps fun _ w => takeRestore_keeps l _ _ w) k _ _)

theorem judgeHold_keeps (l : Link) (k : Lane) (p : List Byte) (s : State) : s.Keeps (judgeHold l k p s).state := by
  cases l with
  | site => exact refused_keeps s _
  | desk => exact done_keeps (State.runLane_keeps fun e w => setHold_keeps e _ w) k _ _

theorem judgeRelease_keeps (l : Link) (k : Lane) (p : List Byte) (s : State) : s.Keeps (judgeRelease l k p s).state := by
  cases l with
  | site => exact refused_keeps s _
  | desk => exact .judged (done_keeps (State.runLane_keeps fun _ w => dropHold_keeps _ w) k _ _) (refused_keeps s _)

/-! ## Requests of the tables (Chapters 7 and 8) -/

theorem tableRefused_keeps (s : State) (st : Status) : s.Keeps (tableRefused s st).state := .refl s

theorem insertCred_length_of_found {c old : Cred} {cs : List Cred} (ordered : ascending cs = true)
    (found : findCred c.number cs = some old) : (insertCred c cs).length = cs.length := by
  induction cs with
  | nil => exact absurd found (by simp [findCred])
  | cons x xs ih =>
    rw [ascending_iff, List.pairwise_cons, ← ascending_iff] at ordered
    unfold insertCred
    split
    · rename_i lower
      have later : findCred c.number xs = some old := by
        rw [← found, findCred, findCred, List.find?_cons_of_neg (by simpa using Nat.ne_of_lt lower)]
      simp [ih ordered.2 later]
    · rename_i notLower
      split
      · rfl
      · rename_i notSame
        have atTail : old ∈ xs := by
          rw [findCred, List.find?_cons_of_neg (by simpa using notSame)] at found
          exact List.mem_of_find?_eq_some found
        have above := ordered.1 old atTail
        have same : old.number = c.number := by simpa using List.find?_some found
        omega

/-- A record with a number, put over the one that has it, keeps the table ordered. -/
theorem State.replaceCred_keeps {c old : Cred} {s : State} (found : findCred c.number s.cst.creds = some old) :
    s.Keeps (s.setCreds (insertCred c s.cst.creds)) :=
  State.setCreds_keeps fun ⟨ordered, numbered, few⟩ => by
    refine ⟨insertCred_ascending c ordered, fun x hx => ?_, (insertCred_length_of_found ordered found).trans_le few⟩
    rcases mem_insertCred hx with rfl | hx
    · have same : old.number = x.number := by simpa using List.find?_some found
      exact same ▸ numbered old (List.mem_of_find?_eq_some found)
    · exact numbered x hx

theorem putRequest_ok {p : List Byte} {c : Cred} (h : putRequest p = some c) : c.ok = true := by
  unfold putRequest at h
  dsimp only at h
  split at h
  · split at h
    · rename_i accepted
      exact Option.some.inj h ▸ accepted.2
    · exact absurd h (by simp)
  · exact absurd h (by simp)

/-- A new record with a number of its own keeps the table ordered while it has room. -/
theorem State.insertCred_keeps {c : Cred} {s : State} (number : 1 ≤ c.number) (room : s.cst.creds.length < 8192) :
    s.Keeps (s.setCreds (insertCred c s.cst.creds)) :=
  State.setCreds_keeps fun ⟨ordered, numbered, _⟩ => by
    refine ⟨insertCred_ascending c ordered, fun x hx => ?_, (insertCred_length_le c _).trans room⟩
    rcases mem_insertCred hx with rfl | hx
    · exact number
    · exact numbered x hx

theorem judgeCredPut_keeps (p : List Byte) (s : State) : s.Keeps (judgeCredPut p s).state := by
  refine .judged (tableRefused_keeps s _) ?_
  split
  · exact tableRefused_keeps s _
  · rename_i c request
    split
    · rename_i old found
      exact State.replaceCred_keeps (c := old.putOver c) found
    · split
      · exact tableRefused_keeps s _
      · rename_i room
        exact State.insertCred_keeps (Cred.ok_number (putRequest_ok request)) (not_le.mp room)

theorem judgeCredDrop_keeps (p : List Byte) (s : State) : s.Keeps (judgeCredDrop p s).state := by
  refine .judged (tableRefused_keeps s _) ?_
  split
  · exact tableRefused_keeps s _
  · exact State.setCreds_keeps fun ⟨ordered, numbered, few⟩ =>
      ⟨dropCred_ascending _ ordered, fun c hc => numbered c (List.mem_of_mem_filter hc), (dropCred_length_le ..).trans few⟩

theorem judgeCredClear_keeps (p : List Byte) (s : State) : s.Keeps (judgeCredClear p s).state :=
  .judged (tableRefused_keeps s _)
    (State.setCreds_keeps fun _ => ⟨rfl, fun _ hc => absurd hc List.not_mem_nil, Nat.zero_le 8192⟩)

theorem judgeCredGet_keeps (p : List Byte) (s : State) : s.Keeps (judgeCredGet p s).state := by
  unfold judgeCredGet
  split <;> exact .refl s

theorem judgeCredScan_keeps (p : List Byte) (s : State) : s.Keeps (judgeCredScan p s).state :=
  .judged (tableRefused_keeps s _) (.refl s)

theorem judgePresenceSet_keeps (p : List Byte) (s : State) : s.Keeps (judgePresenceSet p s).state := by
  refine .judged (tableRefused_keeps s _) ?_
  split
  · exact tableRefused_keeps s _
  · rename_i x _
    split
    · exact tableRefused_keeps s _
    · rename_i c found
      have number : c.number = natAt p 0 8 := by simpa using List.find?_some found
      exact State.replaceCred_keeps (c := { c with presence := x }) (number.symm ▸ found)

theorem judgePresenceReset_keeps (p : List Byte) (s : State) : s.Keeps (judgePresenceReset p s).state :=
  .judged (tableRefused_keeps s _) (State.setCreds_keeps_of_numbers (by simp))

theorem judgeClassSet_keeps (p : List Byte) (s : State) : s.Keeps (judgeClassSet p s).state := by
  refine .judged (tableRefused_keeps s _) ?_
  split
  · exact ⟨rfl, fun _ => .refl _, id, fun l => by cases l <;> exact le_rfl, fun _ => id, id, id, id, id⟩
  · exact tableRefused_keeps s _

theorem judgeClassGet_keeps (p : List Byte) (s : State) : s.Keeps (judgeClassGet p s).state := by
  unfold judgeClassGet
  split <;> exact .refl s

theorem settleByDecide_keeps (l : Link) (x : Slot) (d : Decision) (s : State) : s.Keeps (settleByDecide l x d s).state := by
  have freed := s.freeSlot_keeps x.tag
  cases d with
  | deny => exact done_keeps (finishConclusion_keeps x _ _ freed) _ _ _
  | grant allowance cls => exact done_keeps (finishConclusion_keeps x _ _ (freed.trans (concludeGrant_keeps ..))) _ _ _

theorem judgeDecide_keeps (l : Link) (p : List Byte) (s : State) : s.Keeps (judgeDecide l p s).state := by
  unfold judgeDecide
  split
  · exact .refl s
  · split
    · exact .refl s
    · exact settleByDecide_keeps l _ _ s

/-! ## Requests of the device (Chapters 10 and 11) -/

theorem judgeFetch_keeps (l : Link) (p : List Byte) (s : State) : s.Keeps (judgeFetch l p s).state :=
  .judged (refused_keeps s _) (State.modLink_keeps (fun q => by simp [LinkPort.fetched]) fun _ => le_rfl)

theorem judgeRoute_keeps (p : List Byte) (s : State) : s.Keeps (judgeRoute p s).state := by
  refine .judged (refused_keeps s _) ?_
  split
  · exact refused_keeps s _
  · rename_i es _
    refine ⟨rfl, fun _ => .refl _, id, fun l => ?_, fun _ => id, id, id, fun sound => ?_, id⟩
    · cases l <;> exact le_rfl
    · rw [State.routesSound_iff] at sound ⊢
      exact Routing.foldl_apply_sound es sound

theorem State.withTmb_keeps (x : Tmb) (s : State) : s.Keeps { s with tmb := x } :=
  ⟨rfl, fun _ => .refl _, id, fun l => by cases l <;> exact le_rfl, fun _ => id, id, id, id, id⟩

theorem judgeClockSet_keeps (p : List Byte) (s : State) : s.Keeps (judgeClockSet p s).state :=
  .judged (s.withTmb_keeps _) (.judged (s.withTmb_keeps _) (refused_keeps s _))

theorem judgeSave_keeps (p : List Byte) (s : State) : s.Keeps (judgeSave p s).state :=
  .judged (refused_keeps s _) (State.withIms_keeps id)

theorem judgeIdent_keeps (p : List Byte) (s : State) : s.Keeps (judgeIdent p s).state :=
  .judged (.refl s) (.judged (.refl s) (.judged (State.withIms_keeps id) (.refl s)))

/-! ## Taking a request (R174 to R177) -/

theorem onLane_keeps {judge : Lane → List Byte → State → Judged} (h : ∀ k p (s : State), s.Keeps (judge k p s).state) (p : List Byte)
    (s : State) : s.Keeps (onLane judge p s).state := by
  unfold onLane
  split
  · exact refused_keeps s _
  · exact h _ p s

theorem judgeOf_keeps (l : Link) (kind : RequestKind) (p : List Byte) (s : State) : s.Keeps (judgeOf l kind p s).state := by
  cases kind with
  | laneMode => exact onLane_keeps (judgeLaneMode_keeps l) p s
  | laneGeometry => exact onLane_keeps (judgeLaneGeometry_keeps l) p s
  | laneTiming => exact onLane_keeps (judgeLaneTiming_keeps l) p s
  | laneStatus => exact onLane_keeps (fun _ _ t => .refl t) p s
  | laneTracks => exact onLane_keeps (fun _ _ t => .refl t) p s
  | lanePermits => exact onLane_keeps (fun _ _ t => .refl t) p s
  | laneReset => exact onLane_keeps (judgeLaneReset_keeps l) p s
  | pulse => exact onLane_keeps (judgePulse_keeps l) p s
  | cancel => exact onLane_keeps (judgeCancel_keeps l) p s
  | alarmAck => exact onLane_keeps (judgeAlarmAck_keeps l) p s
  | restore => exact onLane_keeps (judgeRestore_keeps l) p s
  | hold => exact onLane_keeps (judgeHold_keeps l) p s
  | release => exact onLane_keeps (judgeRelease_keeps l) p s
  | credPut => exact judgeCredPut_keeps p s
  | credGet => exact judgeCredGet_keeps p s
  | credDrop => exact judgeCredDrop_keeps p s
  | credScan => exact judgeCredScan_keeps p s
  | credClear => exact judgeCredClear_keeps p s
  | presenceSet => exact judgePresenceSet_keeps p s
  | presenceReset => exact judgePresenceReset_keeps p s
  | classSet => exact judgeClassSet_keeps p s
  | classGet => exact judgeClassGet_keeps p s
  | decideReq => exact judgeDecide_keeps l p s
  | fetch => exact judgeFetch_keeps l p s
  | route => exact judgeRoute_keeps p s
  | clockSet => exact judgeClockSet_keeps p s
  | deviceStatus => exact .refl s
  | save => exact judgeSave_keeps p s
  | ident => exact judgeIdent_keeps p s

/-- What a command does: a change that keeps the laws, and behind it at most one reply on a transmit list with room (R176). -/
def State.Answers (s t : State) : Prop := ∃ u, s.Keeps u ∧ (t = u ∨ ∃ l r, (u.link l).tx.length < 4 ∧ t = u.reply l r)

theorem State.Keeps.answers {s t : State} (h : s.Keeps t) : s.Answers t := ⟨t, h, .inl rfl⟩

theorem State.hunt_keeps (l : Link) (s : State) : s.Keeps (s.hunt l) := State.modLink_keeps (fun _ => le_rfl) fun _ => le_rfl

theorem State.countGap_keeps (l : Link) (s : State) : s.Keeps (s.countGap l) := State.modLink_keeps (fun _ => le_rfl) fun _ => le_rfl

theorem State.abandon_keeps (l : Link) (s : State) : s.Keeps (s.abandon l) := (s.hunt_keeps l).trans (State.countGap_keeps l _)

theorem State.take_answers {judge : State → Judged} (h : ∀ s : State, s.Keeps (judge s).state) (l : Link) (tag : Byte) (kind : Nat)
    (s : State) : s.Answers (s.take l tag kind judge) := by
  by_cases room : (s.link l).tx.length < 4
  · have judged := (s.hunt_keeps l).trans (h (s.hunt l))
    rw [State.take_of_room room]
    exact ⟨_, judged, .inr ⟨l, _, (judged.links l).trans_lt room, rfl⟩⟩
  · rw [State.take_of_full (not_lt.mp room)]
    exact (s.abandon_keeps l).answers

theorem State.request_answers (kind : RequestKind) (l : Link) (tag : Byte) (p : List Byte) (s : State) :
    s.Answers (s.request kind l tag p) :=
  State.take_answers (fun t => .judged (judgeOf_keeps l kind p t) (refused_keeps t _)) l tag kind.code s

theorem State.unknown_answers (l : Link) (tag kind : Byte) (s : State) : s.Answers (s.unknown l tag kind) :=
  State.take_answers (fun t => refused_keeps t _) l tag kind.toNat s

theorem State.takeLink_answers (l : Link) (bytes : List Byte) (s : State) : s.Answers (s.takeLink l bytes) := by
  unfold State.takeLink
  split
  · exact (State.modLink_keeps (fun _ => by rfl) fun _ => by rfl).answers
  · exact ((s.hunt_keeps l).trans (State.modLink_keeps (fun _ => by rfl) fun _ => by rfl)).answers
  · exact ((s.hunt_keeps l).trans (State.modLink_keeps (fun _ => by rfl) fun _ => by rfl)).answers
  · unfold State.received
    split
    · exact s.request_answers ..
    · exact s.unknown_answers ..

theorem State.huntLink_keeps (l : Link) (b : Byte) (s : State) : s.Keeps (s.huntLink l b) :=
  .ite (State.modLink_keeps (fun _ => by rfl) fun _ => by rfl) (.refl s)

theorem State.linkByte_answers (l : Link) (b : Byte) (s : State) : s.Answers (s.linkByte l b) := by
  unfold State.linkByte
  split
  · exact (s.huntLink_keeps l b).answers
  · split
    · exact ((s.abandon_keeps l).trans (State.huntLink_keeps l b _)).answers
    · exact s.takeLink_answers l _

/-! ## Every command (R194 and the rules of each row) -/

/-- An event of a lane, its outputs worked out behind it. -/
theorem State.laneEvent_answers {f : Env → Work → Work} (h : ∀ e (w : Work), w.Keeps (f e w)) (k : Lane) (s : State) :
    s.Answers ((s.runLane k f).refresh k) := ((State.runLane_keeps h).trans (State.refresh_keeps ..)).answers

theorem execEgressAssert_answers (order : List Lane) (s : State) : ∃ t, execEgressAssert order s = .next t ∧ s.Answers t := by
  unfold execEgressAssert
  split
  · exact ⟨s, rfl, (State.Keeps.refl s).answers⟩
  · have asserted : s.Keeps { s with egressLine := true } :=
      ⟨rfl, fun _ => .refl _, id, fun l => by cases l <;> exact le_rfl, fun _ => id, id, id, id, id⟩
    exact ⟨_, rfl, ((asserted.trans (.foldl State.egressLane_keeps _ _)).trans (State.refreshAll_keeps _)).answers⟩

theorem LaneState.frameExpiry_keeps (now : Nat) (l : LaneState) : l.Keeps (l.frameExpiry now) := by
  unfold LaneState.frameExpiry
  split
  · exact .of_lawful rfl
  · exact .refl l

theorem LaneState.endWindow_keeps (now : Nat) (d : Direction) (l : LaneState) : l.Keeps (l.endWindow now d) := by
  unfold LaneState.endWindow
  split
  · split
    · cases d <;> exact .of_lawful rfl
    · exact .refl l
  · exact .refl l

/-- Every command answers a next state, and changes the part in no other way than `State.Answers` tells. -/
theorem exec_answers (c : Instr) (s : State) : ∃ t, exec c s = .next t ∧ s.Answers t := by
  have quiet (u : State) (same : s.Keeps u) : ∃ t, Host.Outcome.next (φ := Fault) (ρ := Refusal) u = .next t ∧ s.Answers t :=
    ⟨u, rfl, same.answers⟩
  cases c with
  | fullReset r => exact ⟨_, rfl, (s.fullReset_keeps r).answers⟩
  | frameTimerExpiry k => exact ⟨_, rfl, (State.modLane_keeps (LaneState.frameExpiry_keeps ..)).answers⟩
  | chainReadComplete k chain order => exact ⟨_, rfl, State.laneEvent_answers (fun e w => frameEvent_keeps e chain order w) k s⟩
  | openLimitChange k active => exact ⟨_, rfl, State.laneEvent_answers (fun e w => onOpenLimit_keeps e active w) k s⟩
  | shutLimitChange k active => exact ⟨_, rfl, State.laneEvent_answers (fun e w => onShutLimit_keeps e active w) k s⟩
  | obstructChange k active => exact ⟨_, rfl, State.laneEvent_answers (fun e w => onObstruct_keeps e active w) k s⟩
  | motionTimeout k => exact ⟨_, rfl, State.laneEvent_answers stallMotion_keeps k s⟩
  | jamHoldEnd k => exact ⟨_, rfl, State.laneEvent_answers endJamHold_keeps k s⟩
  | egressAssert order => exact execEgressAssert_answers order s
  | egressDeassert =>
    exact quiet _ ⟨rfl, fun _ => .refl _, id, fun l => by cases l <;> exact le_rfl, fun _ => id, id, id, id, id⟩
  | permitExpiry k n => exact ⟨_, rfl, State.laneEvent_answers (fun e w => expirePermit_keeps e n .ready .expired w) k s⟩
  | escortTimeout k n =>
    exact ⟨_, rfl, State.laneEvent_answers (fun e w => expirePermit_keeps e n .awaitingEscort .escortTimeout w) k s⟩
  | escortWindowEnd k d => exact ⟨_, rfl, (State.modLane_keeps (LaneState.endWindow_keeps ..)).answers⟩
  | alarmAutoClear k kind => exact ⟨_, rfl, State.laneEvent_answers (fun e w => autoClear_keeps e kind w) k s⟩
  | holdExpiry k => exact ⟨_, rfl, (State.runLane_keeps expireHold_keeps).answers⟩
  | referralDeadline tag => exact ⟨_, rfl, (s.referralDue_keeps tag).answers⟩
  | readerCardFrame p n => exact ⟨_, rfl, (s.cardEvent_keeps p n).answers⟩
  | readerStatusFrame p tamper => exact ⟨_, rfl, (s.statusEvent_keeps p tamper).answers⟩
  | readerBadFrame p => exact ⟨_, rfl, (s.badFrame_keeps p).answers⟩
  | readerFrameGap p =>
    rw [exec_readerFrameGap, execReaderFrameGap]
    split
    · exact quiet s (.refl s)
    · split
      · exact quiet _ (s.badFrame_keeps p)
      · exact quiet s (.refl s)
  | silenceTest p => exact ⟨_, rfl, (s.silenceTest_keeps p).answers⟩
  | readerFrameSent p => exact ⟨_, rfl, (State.modPort_keeps fun h => (by simp; omega)).answers⟩
  | linkFrameBadLength l =>
    exact quiet _ ((s.hunt_keeps l).trans (State.modLink_keeps (fun _ => by rfl) fun _ => by rfl))
  | linkFrameBadCrc l =>
    exact quiet _ ((s.hunt_keeps l).trans (State.modLink_keeps (fun _ => by rfl) fun _ => by rfl))
  | linkFrameGap l =>
    show ∃ t, execLinkFrameGap l s = .next t ∧ s.Answers t
    unfold execLinkFrameGap
    split
    · exact quiet s (.refl s)
    · split
      · exact quiet _ (s.abandon_keeps l)
      · exact quiet s (.refl s)
  | linkFrameTxFull l =>
    show ∃ t, execLinkFrameTxFull l s = .next t ∧ s.Answers t
    unfold execLinkFrameTxFull
    split
    · exact quiet _ (s.abandon_keeps l)
    · exact quiet s (.refl s)
  | linkReplySent l => exact quiet _ (State.modLink_keeps (fun _ => by rfl) fun _ => by simp)
  | unknownKind l tag kind =>
    show ∃ t, execUnknownKind l tag kind s = .next t ∧ s.Answers t
    unfold execUnknownKind
    split
    · exact quiet s (.refl s)
    · exact ⟨_, rfl, s.unknown_answers l tag kind⟩
  | saveEraseDone f => exact ⟨_, rfl, (s.onStage_keeps fun r => s.stageDone_keeps f r).answers⟩
  | saveHeaderDone f => exact ⟨_, rfl, (s.onStage_keeps fun r => s.stageDone_keeps f r).answers⟩
  | saveRecordWritten f => exact ⟨_, rfl, (s.onStage_keeps fun r => s.stageDone_keeps f r).answers⟩
  | saveReadbackDone f altered => exact ⟨_, rfl, (s.onStage_keeps fun r => s.readBack_keeps f altered r).answers⟩
  | saveTimeout taken => exact ⟨_, rfl, (s.saveTimeout_keeps taken).answers⟩
  | linkFrameByte l b => exact ⟨_, rfl, s.linkByte_answers l b⟩
  | readerFrameByte p b => exact ⟨_, rfl, (s.readerByte_keeps p b).answers⟩
  | deskKeyChange asserted =>
    exact quiet _ ⟨rfl, fun _ => .refl _, id, fun l => by cases l <;> exact le_rfl, fun _ => id, id, id, id, id⟩
  | _ l tag p => exact ⟨_, rfl, s.request_answers _ l tag p⟩

end Sys2Proof.Machine

/-! The laws that every step keeps, each from what every command does (`exec_answers`): the statements about the drives, the bounds, the
slots and the stored data, and that the part never stops. -/

namespace Sys2Proof.Machine

/-- Settles O3: no command's meaning ends in a fault, and each keeps the commands that wait. -/
theorem everyCommandAnswersNext : Obligations.EveryCommandAnswersNext := by
  intro c s
  obtain ⟨t, ran, u, kept, same | ⟨l, r, -, replied⟩⟩ := exec_answers c s
  · exact ⟨t, ran, same ▸ kept.pending⟩
  · exact ⟨t, ran, by rw [replied, State.reply_pending, kept.pending]⟩

/-- A law that reads neither the waiting commands nor the time holds after every step when every kept change and every reply on a list with
room keep it. -/
theorem step_keeps_law {P : State → Prop} (tick : ∀ s : State, P s → P s.tick)
    (wait : ∀ (s : State) (cs : List Instr), P s → P { s with pending := cs })
    (kept : ∀ s t : State, s.Keeps t → P s → P t)
    (replied : ∀ (s : State) (l : Link) (r : Reply), (s.link l).tx.length < 4 → P s → P (s.reply l r)) {s t : State} (h : P s)
    (ran : step s = .next t) : P t := by
  unfold step at ran
  split at ran
  · exact Host.Outcome.next.inj ran ▸ tick s h
  · rename_i c rest _
    obtain ⟨t', ran', u, keeps, same⟩ := exec_answers c { s with pending := rest }
    obtain rfl : t' = t := Host.Outcome.next.inj (ran'.symm.trans ran)
    have law := kept _ _ keeps (wait s rest h)
    rcases same with rfl | ⟨l, r, room, rfl⟩
    · exact law
    · exact replied u l r room law

/-- A law that no reply concerns. -/
theorem reply_quiet {P : State → Prop} (site : ∀ (s : State) (q : LinkPort), q.queue = s.site.queue → P s → P { s with site := q })
    (desk : ∀ (s : State) (q : LinkPort), q.queue = s.desk.queue → P s → P { s with desk := q }) (s : State) (l : Link) (r : Reply)
    (_room : (s.link l).tx.length < 4) (h : P s) : P (s.reply l r) := by
  cases l with
  | site => exact site s _ rfl h
  | desk => exact desk s _ rfl h

/-! ## The drives (R68) -/

theorem State.drivesFollow_iff (s : State) : s.drivesFollow ↔ ∀ k, (s.lane k).driven := Iff.rfl

/-- Settles O55: a change that keeps the laws keeps the drives at the barrier state, and one state is not both OPENING and SHUTTING. -/
theorem drivesFollowState : Obligations.DrivesFollowState := by
  intro s t follows ran
  have after : t.drivesFollow :=
    step_keeps_law (fun _ h => h) (fun _ _ h => h) (fun _ _ kept h k => (kept.lanes k).driven (h k))
      (reply_quiet (fun _ _ _ h => h) fun _ _ _ h => h) follows ran
  refine ⟨after, fun k both => ?_⟩
  obtain ⟨opens, shuts⟩ := after k
  rw [opens, shuts, decide_eq_true_eq, decide_eq_true_eq] at both
  exact absurd (both.1.symm.trans both.2) (by decide)

/-! ## The notice queues and the transmit lists (R170, R176, R183) -/

theorem noticeQueuesStayBounded : Claims.NoticeQueuesStayBounded := fun _ _ bounded ran =>
  step_keeps_law (fun _ h => h) (fun _ _ h => h) (fun _ _ kept => kept.queues)
    (reply_quiet (fun _ _ same ⟨site, desk⟩ => ⟨same ▸ site, desk⟩) fun _ _ same ⟨site, desk⟩ => ⟨site, same ▸ desk⟩) bounded ran

theorem State.Keeps.listsBounded {s t : State} (kept : s.Keeps t) (h : s.listsBounded) : t.listsBounded := by
  obtain ⟨site, desk, ports⟩ := h
  exact ⟨(kept.links .site).trans site, (kept.links .desk).trans desk, fun p => kept.ports p (ports p)⟩

theorem State.reply_listsBounded (s : State) (l : Link) (r : Reply) (room : (s.link l).tx.length < 4) (h : s.listsBounded) :
    (s.reply l r).listsBounded := by
  obtain ⟨site, desk, ports⟩ := h
  cases l with
  | site => exact ⟨List.length_append.trans_le room, desk, ports⟩
  | desk => exact ⟨site, List.length_append.trans_le room, ports⟩

theorem transmitListsStayBounded : Claims.TransmitListsStayBounded := fun _ _ bounded ran =>
  step_keeps_law (fun _ h => h) (fun _ _ h => h) (fun _ _ kept => kept.listsBounded) State.reply_listsBounded bounded ran

/-- Settles O56: kept changes lengthen no transmit list and post with the queues' limits; a reply joins only a list with room. -/
theorem queuesAndListsStayBounded : Obligations.QueuesAndListsStayBounded := ⟨noticeQueuesStayBounded, transmitListsStayBounded⟩

/-! ## The lanes (R20, R47, R48) -/

theorem lanesStayBounded : Claims.LanesStayBounded := fun _ _ bounded ran =>
  step_keeps_law (fun _ h => h) (fun _ _ h => h)
    (fun _ _ kept h k => ⟨(kept.lanes k).tracks (h k).1, (kept.lanes k).permits (h k).2⟩)
    (reply_quiet (fun _ _ _ h => h) fun _ _ _ h => h) bounded ran

theorem queuesStayOneWay : Claims.QueuesStayOneWay := fun _ _ oneWay ran =>
  step_keeps_law (fun _ h => h) (fun _ _ h => h) (fun _ _ kept h k => (kept.lanes k).oneWay (h k))
    (reply_quiet (fun _ _ _ h => h) fun _ _ _ h => h) oneWay ran

/-- Settles O57: births stop at eight tracks, appends at four permits, and none joins a queue that the claim gives the other direction. -/
theorem lanesStayBoundedAndOneWay : Obligations.LanesStayBoundedAndOneWay := ⟨lanesStayBounded, queuesStayOneWay⟩

/-! ## The referral slots (R149, R151) -/

/-- Settles O58: a slot is opened only while one of eight is free, under the tag that the search finds free. -/
theorem slotsStayTagged : Obligations.SlotsStayTagged := fun _ _ tagged ran =>
  step_keeps_law (fun _ h => h) (fun _ _ h => h) (fun _ _ kept => kept.slots) (reply_quiet (fun _ _ _ h => h) fun _ _ _ h => h)
    tagged ran

/-! ## The stored data (R126, R182, R187, R190) -/

theorem tableStaysOrdered : Claims.TableStaysOrdered := fun _ _ ordered ran =>
  step_keeps_law (fun _ h => h) (fun _ _ h => h) (fun _ _ kept => kept.table) (reply_quiet (fun _ _ _ h => h) fun _ _ _ h => h)
    ordered ran

theorem routesStaySound : Claims.RoutesStaySound := fun _ _ sound ran =>
  step_keeps_law (fun _ h => h) (fun _ _ h => h) (fun _ _ kept => kept.routes) (reply_quiet (fun _ _ _ h => h) fun _ _ _ h => h)
    sound ran

theorem flashStaysCanonical : Claims.FlashStaysCanonical := fun _ _ canonical ran =>
  step_keeps_law (fun _ h => h) (fun _ _ h => h) (fun _ _ kept => kept.flash) (reply_quiet (fun _ _ _ h => h) fun _ _ _ h => h)
    canonical ran

/-- Settles O59: a table is changed by insertion, removal, or with its numbers in place; routes are corrected; the flash is written cell
by cell. -/
theorem storedDataStaysSound : Obligations.StoredDataStaysSound := ⟨tableStaysOrdered, routesStaySound, flashStaysCanonical⟩

end Sys2Proof.Machine

/-! The buzzer and the indicators of every lane stay as R100 and R102 derive them: an event works out the outputs of its own lane and leaves
alone what the outputs of the other lanes are derived from. -/

namespace Sys2Proof.Machine

/-! ## What the outputs of a lane are derived from -/

/-- Whether a referral is open at a port (R104). -/
def State.referralAt (s : State) (p : Port) : Bool := s.rfu.slots.any fun x => x.reader == p

/-- The outputs of a lane are those of R100 and R102. -/
def State.derivedAt (s : State) (k : Lane) : Prop := s.lane k = (s.lane k).withOutputs s.rfu.slots k

@[simp] theorem portLane_sidePort (k : Lane) (d : Direction) : portLane (sidePort k d) = k := by
  refine Fin.ext ?_
  have bound := k.isLt
  cases d with
  | entry => simp [portLane, sidePort]
  | exit =>
    simp only [portLane, sidePort]
    omega

/-- The outputs read the referral slots of the lane's own two ports alone. -/
theorem LaneState.withOutputs_congr {xs ys : List Slot} {k : Lane} {l : LaneState}
    (h : ∀ p, portLane p = k → (xs.any fun x => x.reader == p) = ys.any fun x => x.reader == p) :
    l.withOutputs xs k = l.withOutputs ys k := by
  have side (d : Direction) : sideWork xs l (sidePort k d) = sideWork ys l (sidePort k d) := by
    rw [sideWork, sideWork, h _ (portLane_sidePort k d)]
  rw [LaneState.withOutputs, LaneState.withOutputs, side, side]

/-- Nothing that the outputs of a lane other than k are derived from differs, nor do the outputs. -/
structure State.awayFrom (k : Lane) (s t : State) : Prop where
  lane : ∀ j, j ≠ k → t.lane j = s.lane j
  referral : ∀ p, portLane p ≠ k → t.referralAt p = s.referralAt p

theorem State.awayFrom.refl {k : Lane} (s : State) : s.awayFrom k s := ⟨fun _ _ => rfl, fun _ _ => rfl⟩

theorem State.awayFrom.trans {k : Lane} {a b c : State} (h : a.awayFrom k b) (g : b.awayFrom k c) : a.awayFrom k c :=
  ⟨fun j other => (g.lane j other).trans (h.lane j other), fun p other => (g.referral p other).trans (h.referral p other)⟩

theorem State.awayFrom.ite {k : Lane} {s a b : State} {c : Prop} [Decidable c] (h : s.awayFrom k a) (g : s.awayFrom k b) :
    s.awayFrom k (if c then a else b) := by
  split
  · exact h
  · exact g

/-- A change of neither lanes nor slots. -/
theorem State.awayFrom.of_same {k : Lane} {s t : State} (lanes : t.lanes = s.lanes) (slots : t.rfu = s.rfu) : s.awayFrom k t :=
  ⟨fun j _ => by rw [State.lane, State.lane, lanes], fun p _ => by rw [State.referralAt, State.referralAt, slots]⟩

/-- A change of lane k alone. -/
theorem State.modLane_away (k : Lane) (f : LaneState → LaneState) (s : State) : s.awayFrom k (s.modLane k f) :=
  ⟨fun _ other => s.modLane_lane_of_ne f other, fun _ _ => rfl⟩

theorem State.post_away {k : Lane} (s : State) (n : Nat) (b : NoticeBody) : s.awayFrom k (s.post n b) :=
  .of_same (by simp) (by simp)

theorem State.absorb_away (k : Lane) (w : Work) (s : State) : s.awayFrom k (s.absorb k w) := by
  rw [State.absorb_eq]
  exact ⟨fun j other => State.laneEvent_lane_of_ne _ _ _ other, fun p _ => by simp [State.laneEvent, State.referralAt]⟩

theorem State.runLane_away (k : Lane) (f : Env → Work → Work) (s : State) : s.awayFrom k (s.runLane k f) := s.absorb_away k _

/-- A change of a port concerns no lane. -/
theorem State.modPort_away {k : Lane} (p : Port) (f : ReaderPort → ReaderPort) (s : State) : s.awayFrom k (s.modPort p f) :=
  .of_same rfl rfl

theorem State.foldl_post_same {α : Type} (lane : α → Nat) (body : α → NoticeBody) (xs : List α) (s : State) :
    (xs.foldl (fun t x => t.post (lane x) (body x)) s).lanes = s.lanes
      ∧ (xs.foldl (fun t x => t.post (lane x) (body x)) s).rfu = s.rfu := by
  induction xs generalizing s with
  | nil => exact ⟨rfl, rfl⟩
  | cons x xs ih =>
    obtain ⟨lanes, slots⟩ := ih (s.post (lane x) (body x))
    exact ⟨lanes.trans (by simp), slots.trans (by simp)⟩

/-- Slots that leave from one lane alone leave no other lane's side without its referral. -/
theorem State.filterSlots_away {k : Lane} {s : State} {test : Slot → Bool}
    (h : ∀ x ∈ s.rfu.slots, test x = false → portLane x.reader = k) :
    s.awayFrom k { s with rfu := { s.rfu with slots := s.rfu.slots.filter test } } := by
  refine ⟨fun _ _ => rfl, fun p other => ?_⟩
  rw [State.referralAt, State.referralAt, Bool.eq_iff_iff, List.any_eq_true, List.any_eq_true]
  constructor
  · rintro ⟨x, hx, atPort⟩
    exact ⟨x, List.mem_of_mem_filter hx, atPort⟩
  · rintro ⟨x, hx, atPort⟩
    refine ⟨x, List.mem_filter.mpr ⟨hx, ?_⟩, atPort⟩
    by_contra leaves
    have atLane := h x hx (by simpa using leaves)
    rw [beq_iff_eq.mp atPort] at atLane
    exact other atLane

theorem State.closeSlots_away {k : Lane} {test : Slot → Bool} (h : ∀ x, test x = true → portLane x.reader = k) (cause : ClosureCause)
    (s : State) : s.awayFrom k (s.closeSlots test cause) := by
  refine .trans (State.filterSlots_away (test := fun x => !test x) fun x _ leaves => h x (by simpa using leaves)) ?_
  obtain ⟨lanes, slots⟩ := State.foldl_post_same (fun x : Slot => laneNumber (portLane x.reader))
    (fun x => .referralClosed x.tag x.reader x.number cause) (s.rfu.slots.filter test)
    { s with rfu := { s.rfu with slots := s.rfu.slots.filter fun x => !test x } }
  exact .of_same lanes slots

theorem State.closeLane_away (k : Lane) (cause : ClosureCause) (s : State) : s.awayFrom k (s.closeLane k cause) :=
  State.closeSlots_away (fun _ h => beq_iff_eq.mp h) cause s

/-- Under distinct tags, the slot freed is the one of its tag, and of its lane (R149). -/
theorem State.freeSlot_away {s : State} (tagged : s.slotsTagged) {x : Slot} (hx : x ∈ s.rfu.slots) :
    s.awayFrom (portLane x.reader) (s.freeSlot x.tag) := by
  refine State.filterSlots_away fun y hy same => ?_
  have tag : y.tag = x.tag := by simpa using same
  rw [List.inj_on_of_nodup_map tagged.2.1 hy hx tag]

/-- A slot opened for a port concerns the port's lane alone (R152). -/
theorem State.openSlot_away (x : Slot) (s : State) : s.awayFrom (portLane x.reader) (s.openSlot x) := by
  have opened : s.awayFrom (portLane x.reader) { s with rfu := { slots := s.rfu.slots ++ [x], tagCounter := next255 x.tag } } := by
    refine ⟨fun _ _ => rfl, fun p other => ?_⟩
    have elsewhere : (x.reader == p) = false := beq_eq_false_iff_ne.mpr fun same => other (by rw [same])
    simp [State.referralAt, elsewhere]
  exact opened.trans (State.post_away ..)

/-! ## Outputs that stay derived -/

/-- A change after which the outputs of every lane are derived when they were before. -/
structure State.Derives (s t : State) : Prop where
  derived : s.outputsDerived → t.outputsDerived

theorem State.Derives.refl (s : State) : s.Derives s := ⟨id⟩

theorem State.Derives.trans {a b c : State} (h : a.Derives b) (g : b.Derives c) : a.Derives c := ⟨g.derived ∘ h.derived⟩

theorem State.Derives.ite {s a b : State} {c : Prop} [Decidable c] (h : s.Derives a) (g : s.Derives b) :
    s.Derives (if c then a else b) := by
  split
  · exact h
  · exact g

theorem State.Derives.of_same {s t : State} (lanes : t.lanes = s.lanes) (slots : t.rfu = s.rfu) : s.Derives t := by
  refine ⟨fun h k => ?_⟩
  have derived := h k
  rwa [State.lane, lanes, slots]

theorem State.awayFrom.derivedAt {k j : Lane} {s t : State} (h : s.awayFrom k t) (other : j ≠ k) (derived : s.derivedAt j) :
    t.derivedAt j := by
  rw [State.derivedAt, h.lane j other, LaneState.withOutputs_congr fun p here => h.referral p (here ▸ other)]
  exact derived

/-- A change about lane k alone that leaves the outputs of lane k derived. -/
theorem State.awayFrom.derives {k : Lane} {s t : State} (h : s.awayFrom k t) (here : s.derivedAt k → t.derivedAt k) : s.Derives t := by
  refine ⟨fun derived j => ?_⟩
  by_cases same : j = k
  · exact same ▸ here (derived k)
  · exact h.derivedAt same (derived j)

/-- A change about lane k alone, the outputs of lane k worked out behind it. -/
theorem State.awayFrom.refreshed {k : Lane} {s t : State} (h : s.awayFrom k t) : s.Derives (t.refresh k) :=
  (h.trans (t.modLane_away k _)).derives fun _ => by
    show (t.refresh k).lane k = ((t.refresh k).lane k).withOutputs (t.refresh k).rfu.slots k
    rw [refresh_lane, refresh_rfu, LaneState.withOutputs_withOutputs]

/-- A change of lane k that leaves alone what its outputs are derived from, and them. -/
theorem State.modLane_derives {k : Lane} {f : LaneState → LaneState} {s : State}
    (h : ∀ slots, (f (s.lane k)).withOutputs slots k = f ((s.lane k).withOutputs slots k)) : s.Derives (s.modLane k f) :=
  (s.modLane_away k f).derives fun derived => by
    rw [State.derivedAt] at derived
    rw [State.derivedAt, modLane_lane, State.modLane_rfu, h, ← derived]

@[simp] theorem State.laneEvent_rfu (s : State) (k : Lane) (l : LaneState) (bs : List NoticeBody) : (s.laneEvent k l bs).rfu = s.rfu := by
  simp [State.laneEvent]

/-- Once the outputs of every lane are worked out, all are derived, whatever they were. -/
theorem State.refreshAll_derived (s : State) : s.refreshAll.outputsDerived := by
  have settles (ks : List Lane) (t : State) (k : Lane) (h : k ∈ ks ∨ t.derivedAt k) :
      (ks.foldl (fun u j => u.refresh j) t).derivedAt k := by
    induction ks generalizing t with
    | nil => exact h.resolve_left List.not_mem_nil
    | cons j ks ih =>
      refine ih _ ?_
      by_cases same : k = j
      · subst same
        exact .inr (by rw [State.derivedAt, refresh_lane, refresh_rfu, LaneState.withOutputs_withOutputs])
      · refine (h.imp_left fun mem => (List.mem_cons.mp mem).resolve_left same).imp_right fun derived => ?_
        exact (t.modLane_away j _).derivedAt same derived
  exact fun k => settles allLanes s k (.inl (by revert k; decide))

/-! ## Reads and conclusions -/

theorem appendStep_away (r : Reason) (q : AppendReq) (p : Port) (s : State) : s.awayFrom (portLane p) (appendStep r q p s).1 := by
  unfold appendStep
  split
  · exact .refl s
  · exact .refl s
  · exact s.absorb_away _ _

theorem referRead_away (p : Port) (n : Nat) (record : Option Cred) (r : ReferralReason) (s : State) :
    s.awayFrom (portLane p) (referRead p n record r s).state := by
  unfold referRead
  split
  · unfold readFallback
    split
    · exact .refl s
    · exact appendStep_away _ _ p s
  · exact s.openSlot_away (newSlot s p n (record.map (·.cls)) r)

theorem grantRead_away (p : Port) (n : Nat) (c : Cred) (s : State) : s.awayFrom (portLane p) (grantRead p n c s).state := by
  unfold grantRead
  dsimp only
  split
  · exact .refl s
  · exact appendStep_away _ _ p s

theorem lateSteps_away (p : Port) (n : Nat) (record : Option Cred) (s : State) :
    s.awayFrom (portLane p) (lateSteps p n record s).state := by
  unfold lateSteps
  split
  · exact .refl s
  · split
    · exact .refl s
    · exact referRead_away ..
  · split
    · exact .refl s
    · exact grantRead_away ..

theorem finishRead_away {k : Lane} {s : State} (p : Port) (n : Nat) (cls : Option ClassNo) {r : ReadResult}
    (h : s.awayFrom k r.state) : s.awayFrom k (finishRead p n cls r) :=
  (h.trans (State.modPort_away ..)).trans (State.post_away ..)

theorem State.read_away (p : Port) (n : Nat) (s : State) : s.awayFrom (portLane p) (s.read p n) := by
  unfold State.read
  split
  · exact finishRead_away p n none (.refl s)
  · exact finishRead_away p n _ (lateSteps_away p n _ s)

theorem concludeGrant_away (r : Reason) (x : Slot) (cls : Option ClassNo) (allowance : Nat) (s : State) :
    s.awayFrom (portLane x.reader) (concludeGrant r x cls allowance s).1 := by
  unfold concludeGrant
  split
  · exact .refl s
  · exact appendStep_away ..

theorem finishConclusion_away {k : Lane} {s : State} (x : Slot) (cls : Option ClassNo) (by_ : Option Link)
    {r : State × Ending × Option AppendInfo} (h : s.awayFrom k r.1) : s.awayFrom k (finishConclusion x cls by_ r) :=
  (h.trans (State.modPort_away ..)).trans (State.post_away ..)

theorem State.mem_of_slot {s : State} {tag : Nat} {x : Slot} (h : s.slot tag = some x) : x ∈ s.rfu.slots ∧ x.tag = tag :=
  ⟨List.mem_of_find?_eq_some h, by simpa using List.find?_some h⟩

theorem State.referralDue_derives {s : State} (tagged : s.slotsTagged) (tag : Nat) : s.Derives (s.referralDue tag) := by
  unfold State.referralDue
  split
  · exact .refl s
  · rename_i x found
    refine .ite (State.awayFrom.refreshed ?_) (.refl s)
    have freed := State.freeSlot_away tagged (State.mem_of_slot found).1
    unfold settleByDeadline
    dsimp only
    split
    · exact finishConclusion_away x _ _ freed
    · exact finishConclusion_away x _ _ (freed.trans (concludeGrant_away ..))

/-! ## Reader ports (Chapter 9) -/

theorem State.postReader_away {k : Lane} (p : Port) (e : ReaderEvent) (s : State) : s.awayFrom k (s.postReader p e) := s.post_away _ _

theorem State.portPresent_away {k : Lane} (p : Port) (s : State) : s.awayFrom k (s.portPresent p) :=
  (s.modPort_away p _).trans (State.postReader_away ..)

theorem State.badFrame_derives (p : Port) (s : State) : s.Derives (s.badFrame p) :=
  .ite (.of_same rfl rfl) (.of_same (by simp [State.postReader]) (by simp [State.postReader]))

theorem State.cardState_away {k : Lane} (p : Port) (s : State) : s.awayFrom k (s.cardState p) := by
  unfold State.cardState
  split
  · exact s.portPresent_away p
  · exact .refl s
  · exact .refl s

theorem State.badFrame_away {k : Lane} (p : Port) (s : State) : s.awayFrom k (s.badFrame p) :=
  .ite (.of_same rfl rfl) (.of_same (by simp [State.postReader]) (by simp [State.postReader]))

theorem State.cardEvent_derives (p : Port) (n : Nat) (s : State) : s.Derives (s.cardEvent p n) := by
  refine State.awayFrom.refreshed (.ite ?_ (s.badFrame_away p))
  exact ((s.modPort_away p _).trans (State.cardState_away p _)).trans (State.read_away p n _)

theorem State.tamperEntry_away (p : Port) (s : State) : s.awayFrom (portLane p) (s.tamperEntry p) := by
  have marked : s.awayFrom (portLane p) (s.setPort p .tampered) := s.modPort_away p _
  have removed := marked.trans (State.runLane_away (portLane p) (fun _ w => tamperRemove p w) _)
  have closed := removed.trans (State.closeSlots_away (test := fun x => x.reader == p)
    (fun x atPort => congrArg portLane (beq_iff_eq.mp atPort)) .tamper _)
  exact (closed.trans (State.modLane_away ..)).trans (State.postReader_away ..)

theorem State.statusState_away (p : Port) (tamper : Bool) (s : State) : s.awayFrom (portLane p) (s.statusState p tamper) := by
  unfold State.statusState
  split
  · exact s.portPresent_away p
  · exact .refl s
  · exact (s.modPort_away p _).trans (State.postReader_away ..)
  · exact s.tamperEntry_away p
  · exact s.tamperEntry_away p
  · exact .refl s

theorem State.statusEvent_derives (p : Port) (tamper : Bool) (s : State) : s.Derives (s.statusEvent p tamper) :=
  State.awayFrom.refreshed (((s.modPort_away p _).trans (State.statusState_away p tamper _)).trans (State.modPort_away ..))

theorem State.silenceTest_derives (p : Port) (s : State) : s.Derives (s.silenceTest p) := by
  unfold State.silenceTest
  split
  · exact .refl s
  · exact .ite (.of_same (by simp [State.setPort, State.postReader]) (by simp [State.setPort, State.postReader])) (.refl s)

theorem State.huntReader_derives (p : Port) (b : Byte) (s : State) : s.Derives (s.huntReader p b) :=
  .ite (.of_same rfl rfl) (.refl s)

theorem State.readerByte_derives (p : Port) (b : Byte) (s : State) : s.Derives (s.readerByte p b) := by
  unfold State.readerByte
  split
  · exact s.huntReader_derives p b
  · refine .ite ((s.badFrame_derives p).trans (State.huntReader_derives p b _)) ?_
    unfold State.takeReader
    split
    · exact .of_same rfl rfl
    · exact s.badFrame_derives p
    · exact s.cardEvent_derives p _
    · exact s.statusEvent_derives p _

/-! ## The Image Store (Chapter 11) -/

theorem State.failSave_derives (cause : SaveCause) (r : SaveRun) (s : State) : s.Derives (s.failSave cause r) :=
  .of_same (by simp [State.failSave, State.endSave]) (by simp [State.failSave, State.endSave])

theorem State.setFlash_derives (m : Memory) (s : State) : s.Derives (s.setFlash m) := .of_same rfl rfl

theorem State.stageDone_derives (f : FlashOutcome) (r : SaveRun) (s : State) : s.Derives (s.stageDone f r) := by
  unfold State.stageDone
  split
  · exact (s.setFlash_derives _).trans (State.failSave_derives ..)
  · exact .of_same rfl rfl

theorem State.readBack_derives (f : FlashOutcome) (altered : List Host.Cell) (r : SaveRun) (s : State) :
    s.Derives (s.readBack f altered r) := by
  unfold State.readBack
  split
  · exact (s.setFlash_derives _).trans (State.failSave_derives ..)
  · refine .ite ?_ ((s.setFlash_derives _).trans (State.failSave_derives ..))
    exact .of_same (by simp [State.finishSave, State.endSave, State.setFlash]) (by simp [State.finishSave, State.endSave, State.setFlash])

theorem State.onStage_derives {stage : SaveStage} {act : SaveRun → State → State} (s : State) (h : ∀ r, s.Derives (act r s)) :
    s.Derives (s.onStage stage act) := by
  unfold State.onStage
  split
  · exact .refl s
  · exact .ite (h _) (.refl s)

theorem State.saveTimeout_derives (taken : Nat) (s : State) : s.Derives (s.saveTimeout taken) := by
  unfold State.saveTimeout
  split
  · exact .refl s
  · exact .ite ((s.setFlash_derives _).trans (State.failSave_derives ..)) (.refl s)

/-! ## Requests -/

theorem State.Derives.judged {s : State} {a b : Judged} {c : Prop} [Decidable c] (h : s.Derives a.state) (g : s.Derives b.state) :
    s.Derives (if c then a else b).state := by
  split
  · exact h
  · exact g

/-- A request carried out on lane k alone. -/
theorem done_derives {k : Lane} {s t : State} (h : s.awayFrom k t) (st : Status) (body : List Byte) :
    s.Derives (done k st t body).state := h.refreshed

theorem State.cancelled_away (k : Lane) (cause : ClosureCause) (f : Env → Work → Work) (s : State) :
    s.awayFrom k (((s.runLane k fun _ w => cancelAll w).closeLane k cause).runLane k f) :=
  ((s.runLane_away k _).trans (State.closeLane_away ..)).trans (State.runLane_away ..)

theorem State.changeMode_away (k : Lane) (link : Link) (r : ModeRequest) (s : State) : s.awayFrom k (s.changeMode k link r).1 := by
  unfold State.changeMode
  dsimp only
  split
  · exact s.cancelled_away k .lockdown fun _ w => takeLockdown link r w
  split
  · dsimp only
    exact s.runLane_away k _
  split
  · exact s.cancelled_away k .forced fun _ w => applyMode r.mode r.policy .forced (some link) (w.mod LaneState.exemptAll)
  split
  · dsimp only
    exact s.runLane_away k _
  · dsimp only
    exact s.runLane_away k _

theorem judgeLaneMode_derives (l : Link) (k : Lane) (p : List Byte) (s : State) : s.Derives (judgeLaneMode l k p s).state := by
  refine .judged (.refl s) (.judged (.refl s) (.judged (.refl s) ?_))
  split
  · exact .refl s
  · rename_i r _
    have started : s.awayFrom k (if r.start then s.modLane k (LaneState.setStart r.mode r.policy) else s) :=
      .ite (s.modLane_away k _) (.refl s)
    refine done_derives ?_ _ _
    split
    · exact started.trans (State.changeMode_away k l r _)
    · exact started

theorem judgeLaneGeometry_derives (l : Link) (k : Lane) (p : List Byte) (s : State) : s.Derives (judgeLaneGeometry l k p s).state := by
  refine .judged (.refl s) (.judged (.refl s) (.judged (.refl s) (.judged (.refl s) ?_)))
  split
  · exact .refl s
  · exact .judged (done_derives (s.runLane_away k _) _ _) (.refl s)

theorem judgeLaneTiming_derives (l : Link) (k : Lane) (p : List Byte) (s : State) : s.Derives (judgeLaneTiming l k p s).state := by
  refine .judged (.refl s) (.judged (.refl s) (.judged (.refl s) ?_))
  split
  · exact .refl s
  · exact done_derives (s.modLane_away k _) _ _

theorem judgeLaneReset_derives (l : Link) (k : Lane) (p : List Byte) (s : State) : s.Derives (judgeLaneReset l k p s).state := by
  refine .judged (.refl s) (.judged (.refl s) (.judged (.refl s) (done_derives ?_ _ _)))
  exact ((s.runLane_away k _).trans (State.closeLane_away ..)).trans (State.runLane_away ..)

theorem judgePulse_derives (l : Link) (k : Lane) (p : List Byte) (s : State) : s.Derives (judgePulse l k p s).state := by
  refine .judged (.refl s) (.judged (.refl s) ?_)
  split
  · exact .refl s
  · split
    · exact .refl s
    · exact .refl s
    · exact done_derives (s.absorb_away k _) _ _

theorem judgeCancel_derives (l : Link) (k : Lane) (p : List Byte) (s : State) : s.Derives (judgeCancel l k p s).state := by
  refine .judged (.refl s) (.judged (.refl s) (.judged (done_derives (s.runLane_away k _) _ _) ?_))
  split
  · exact done_derives (s.runLane_away k _) _ _
  · exact .refl s

theorem judgeAlarmAck_derives (l : Link) (k : Lane) (p : List Byte) (s : State) : s.Derives (judgeAlarmAck l k p s).state :=
  .judged (.refl s) (.judged (done_derives (s.runLane_away k _) _ _) (.refl s))

theorem judgeRestore_derives (l : Link) (k : Lane) (p : List Byte) (s : State) : s.Derives (judgeRestore l k p s).state := by
  refine .judged (.refl s) ?_
  split
  · exact .refl s
  · exact .judged (.refl s) (done_derives (s.runLane_away k _) _ _)

theorem judgeHold_derives (l : Link) (k : Lane) (p : List Byte) (s : State) : s.Derives (judgeHold l k p s).state := by
  cases l with
  | site => exact .refl s
  | desk => exact done_derives (s.runLane_away k _) _ _

theorem judgeRelease_derives (l : Link) (k : Lane) (p : List Byte) (s : State) : s.Derives (judgeRelease l k p s).state := by
  cases l with
  | site => exact .refl s
  | desk => exact .judged (done_derives (s.runLane_away k _) _ _) (.refl s)

theorem settleByDecide_derives {s : State} (tagged : s.slotsTagged) {x : Slot} (hx : x ∈ s.rfu.slots) (l : Link) (d : Decision) :
    s.Derives (settleByDecide l x d s).state := by
  have freed := State.freeSlot_away tagged hx
  cases d with
  | deny => exact done_derives (finishConclusion_away x _ _ freed) _ _
  | grant allowance cls => exact done_derives (finishConclusion_away x _ _ (freed.trans (concludeGrant_away ..))) _ _

theorem judgeDecide_derives {s : State} (tagged : s.slotsTagged) (l : Link) (p : List Byte) : s.Derives (judgeDecide l p s).state := by
  unfold judgeDecide
  split
  · exact .refl s
  · split
    · exact .refl s
    · rename_i found
      exact settleByDecide_derives tagged (State.mem_of_slot found).1 l _

theorem onLane_derives {judge : Lane → List Byte → State → Judged} (h : ∀ k p (s : State), s.Derives (judge k p s).state)
    (p : List Byte) (s : State) : s.Derives (onLane judge p s).state := by
  unfold onLane
  split
  · exact .refl s
  · exact h _ p s

theorem judgeCredPut_derives (p : List Byte) (s : State) : s.Derives (judgeCredPut p s).state := by
  refine .judged (.refl s) ?_
  split
  · exact .refl s
  · split
    · exact .of_same rfl rfl
    · exact .judged (.refl s) (.of_same rfl rfl)

theorem judgeCredDrop_derives (p : List Byte) (s : State) : s.Derives (judgeCredDrop p s).state := by
  refine .judged (.refl s) ?_
  split
  · exact .refl s
  · exact .of_same rfl rfl

theorem judgeCredGet_derives (p : List Byte) (s : State) : s.Derives (judgeCredGet p s).state := by
  unfold judgeCredGet
  split <;> exact .refl s

theorem judgePresenceSet_derives (p : List Byte) (s : State) : s.Derives (judgePresenceSet p s).state := by
  refine .judged (.refl s) ?_
  split
  · exact .refl s
  · split
    · exact .refl s
    · exact .of_same rfl rfl

theorem judgeClassSet_derives (p : List Byte) (s : State) : s.Derives (judgeClassSet p s).state := by
  refine .judged (.refl s) ?_
  split
  · exact .of_same rfl rfl
  · exact .refl s

theorem judgeClassGet_derives (p : List Byte) (s : State) : s.Derives (judgeClassGet p s).state := by
  unfold judgeClassGet
  split <;> exact .refl s

theorem State.modLink_derives (l : Link) (f : LinkPort → LinkPort) (s : State) : s.Derives (s.modLink l f) := by
  cases l <;> exact .of_same rfl rfl

theorem judgeRoute_derives (p : List Byte) (s : State) : s.Derives (judgeRoute p s).state := by
  refine .judged (.refl s) ?_
  split
  · exact .refl s
  · exact .of_same rfl rfl

theorem judgeClockSet_derives (p : List Byte) (s : State) : s.Derives (judgeClockSet p s).state :=
  .judged (.of_same rfl rfl) (.judged (.of_same rfl rfl) (.refl s))

theorem judgeOf_derives {s : State} (tagged : s.slotsTagged) (l : Link) (kind : RequestKind) (p : List Byte) :
    s.Derives (judgeOf l kind p s).state := by
  cases kind with
  | laneMode => exact onLane_derives (judgeLaneMode_derives l) p s
  | laneGeometry => exact onLane_derives (judgeLaneGeometry_derives l) p s
  | laneTiming => exact onLane_derives (judgeLaneTiming_derives l) p s
  | laneStatus => exact onLane_derives (fun _ _ t => .refl t) p s
  | laneTracks => exact onLane_derives (fun _ _ t => .refl t) p s
  | lanePermits => exact onLane_derives (fun _ _ t => .refl t) p s
  | laneReset => exact onLane_derives (judgeLaneReset_derives l) p s
  | pulse => exact onLane_derives (judgePulse_derives l) p s
  | cancel => exact onLane_derives (judgeCancel_derives l) p s
  | alarmAck => exact onLane_derives (judgeAlarmAck_derives l) p s
  | restore => exact onLane_derives (judgeRestore_derives l) p s
  | hold => exact onLane_derives (judgeHold_derives l) p s
  | release => exact onLane_derives (judgeRelease_derives l) p s
  | credPut => exact judgeCredPut_derives p s
  | credGet => exact judgeCredGet_derives p s
  | credDrop => exact judgeCredDrop_derives p s
  | credScan => exact .judged (.refl s) (.refl s)
  | credClear => exact .judged (.refl s) (.of_same rfl rfl)
  | presenceSet => exact judgePresenceSet_derives p s
  | presenceReset => exact .judged (.refl s) (.of_same rfl rfl)
  | classSet => exact judgeClassSet_derives p s
  | classGet => exact judgeClassGet_derives p s
  | decideReq => exact judgeDecide_derives tagged l p
  | fetch => exact .judged (.refl s) (s.modLink_derives l _)
  | route => exact judgeRoute_derives p s
  | clockSet => exact judgeClockSet_derives p s
  | deviceStatus => exact .refl s
  | save => exact .judged (.refl s) (.of_same rfl rfl)
  | ident => exact .judged (.refl s) (.judged (.refl s) (.judged (.of_same rfl rfl) (.refl s)))

/-! ## Frames on the links (R174 to R177) -/

theorem State.modLink_slotsTagged {l : Link} {f : LinkPort → LinkPort} {s : State} (tagged : s.slotsTagged) : (s.modLink l f).slotsTagged := by
  cases l <;> exact tagged

theorem State.hunt_derives (l : Link) (s : State) : s.Derives (s.hunt l) := s.modLink_derives l _

theorem State.countGap_derives (l : Link) (s : State) : s.Derives (s.countGap l) := s.modLink_derives l _

theorem State.reply_derives (l : Link) (r : Reply) (s : State) : s.Derives (s.reply l r) := s.modLink_derives l _

theorem State.abandon_derives (l : Link) (s : State) : s.Derives (s.abandon l) :=
  (s.hunt_derives l).trans (State.countGap_derives l _)

theorem State.take_derives {l : Link} {judge : State → Judged} {s : State} (h : (s.hunt l).Derives (judge (s.hunt l)).state) (tag : Byte)
    (kind : Nat) : s.Derives (s.take l tag kind judge) := by
  by_cases room : (s.link l).tx.length < 4
  · rw [State.take_of_room room]
    exact ((s.hunt_derives l).trans h).trans (State.reply_derives ..)
  · rw [State.take_of_full (not_lt.mp room)]
    exact s.abandon_derives l

theorem State.request_derives {s : State} (tagged : s.slotsTagged) (kind : RequestKind) (l : Link) (tag : Byte) (p : List Byte) :
    s.Derives (s.request kind l tag p) :=
  State.take_derives (s := s) (judge := judgeFrame kind (judgeOf l kind) p)
    (.judged (judgeOf_derives (State.modLink_slotsTagged tagged) l kind p) (.refl _)) tag kind.code

theorem State.unknown_derives (l : Link) (tag kind : Byte) (s : State) : s.Derives (s.unknown l tag kind) :=
  State.take_derives (.refl _) tag kind.toNat

theorem State.takeLink_derives {s : State} (tagged : s.slotsTagged) (l : Link) (bytes : List Byte) : s.Derives (s.takeLink l bytes) := by
  unfold State.takeLink
  split
  · exact s.modLink_derives l _
  · exact (s.modLink_derives l _).trans (State.modLink_derives l _ _)
  · exact (s.modLink_derives l _).trans (State.modLink_derives l _ _)
  · unfold State.received
    split
    · exact State.request_derives tagged ..
    · exact s.unknown_derives ..

theorem State.huntLink_derives (l : Link) (b : Byte) (s : State) : s.Derives (s.huntLink l b) := .ite (s.modLink_derives l _) (.refl s)

theorem State.linkByte_derives {s : State} (tagged : s.slotsTagged) (l : Link) (b : Byte) : s.Derives (s.linkByte l b) := by
  unfold State.linkByte
  split
  · exact s.huntLink_derives l b
  · exact .ite ((s.abandon_derives l).trans (State.huntLink_derives l b _)) (State.takeLink_derives tagged l _)

/-! ## Every command -/

/-- An event of a lane, its outputs worked out behind it. -/
theorem State.laneEvent_derives (k : Lane) (f : Env → Work → Work) (s : State) : s.Derives ((s.runLane k f).refresh k) :=
  (s.runLane_away k f).refreshed

theorem State.frameTimer_derives (k : Lane) (s : State) : s.Derives (s.modLane k (LaneState.frameExpiry s.tmb.ms)) :=
  State.modLane_derives fun slots => by
    unfold LaneState.frameExpiry
    rw [LaneState.withOutputs_bsu, LaneState.withOutputs_timing]
    split <;> rfl

theorem State.endWindow_derives (k : Lane) (d : Direction) (s : State) : s.Derives (s.modLane k (LaneState.endWindow s.tmb.ms d)) :=
  State.modLane_derives fun slots => by
    unfold LaneState.endWindow
    rw [LaneState.withOutputs_pq]
    split
    · split
      · cases d <;> rfl
      · rfl
    · rfl

theorem State.expireHold_derives (k : Lane) (s : State) : s.Derives (s.runLane k fun e w => expireHold e w) := by
  refine (s.runLane_away k _).derives fun derived => ?_
  have dropped (event : LaneEvent) : (dropHold event (s.work k)).lane = (dropHold event (s.work k)).lane.withOutputs s.rfu.slots k :=
    congrArg (LaneState.modLsv fun v => { v with hold := none }) derived
  rw [State.derivedAt, State.runLane_eq, State.absorb_eq, State.laneEvent_lane, State.laneEvent_rfu]
  unfold expireHold
  split
  · split
    · exact dropped .holdExpired
    · exact derived
  · exact derived

theorem execEgressAssert_derives (order : List Lane) {s t : State} (ran : execEgressAssert order s = .next t) : s.Derives t := by
  unfold execEgressAssert at ran
  split at ran
  · exact Host.Outcome.next.inj ran ▸ .refl s
  · exact Host.Outcome.next.inj ran ▸ ⟨fun _ => State.refreshAll_derived _⟩

theorem exec_derives (c : Instr) {s t : State} (tagged : s.slotsTagged) (ran : exec c s = .next t) : s.Derives t := by
  have told {u : State} (same : Host.Outcome.next (φ := Fault) (ρ := Refusal) u = .next t) (h : s.Derives u) : s.Derives t :=
    Host.Outcome.next.inj same ▸ h
  cases c with
  | fullReset r => exact told ran ⟨fun _ => State.refreshAll_derived _⟩
  | frameTimerExpiry k => exact told ran (s.frameTimer_derives k)
  | chainReadComplete k chain order => exact told ran (s.laneEvent_derives k _)
  | openLimitChange k active => exact told ran (s.laneEvent_derives k _)
  | shutLimitChange k active => exact told ran (s.laneEvent_derives k _)
  | obstructChange k active => exact told ran (s.laneEvent_derives k _)
  | motionTimeout k => exact told ran (s.laneEvent_derives k _)
  | jamHoldEnd k => exact told ran (s.laneEvent_derives k _)
  | egressAssert order => exact execEgressAssert_derives order ran
  | egressDeassert => exact told ran (.of_same rfl rfl)
  | permitExpiry k n => exact told ran (s.laneEvent_derives k _)
  | escortTimeout k n => exact told ran (s.laneEvent_derives k _)
  | escortWindowEnd k d => exact told ran (s.endWindow_derives k d)
  | alarmAutoClear k kind => exact told ran (s.laneEvent_derives k _)
  | holdExpiry k => exact told ran (s.expireHold_derives k)
  | referralDeadline tag => exact told ran (State.referralDue_derives tagged tag)
  | readerCardFrame p n => exact told ran (s.cardEvent_derives p n)
  | readerStatusFrame p tamper => exact told ran (s.statusEvent_derives p tamper)
  | readerBadFrame p => exact told ran (s.badFrame_derives p)
  | readerFrameGap p =>
    rw [exec_readerFrameGap, execReaderFrameGap] at ran
    split at ran
    · exact told ran (.refl s)
    · split at ran
      · exact told ran (s.badFrame_derives p)
      · exact told ran (.refl s)
  | silenceTest p => exact told ran (s.silenceTest_derives p)
  | readerFrameSent p => exact told ran (.of_same rfl rfl)
  | linkFrameBadLength l => exact told ran ((s.hunt_derives l).trans (State.modLink_derives l _ _))
  | linkFrameBadCrc l => exact told ran ((s.hunt_derives l).trans (State.modLink_derives l _ _))
  | linkFrameGap l =>
    change execLinkFrameGap l s = .next t at ran
    unfold execLinkFrameGap at ran
    split at ran
    · exact told ran (.refl s)
    · split at ran
      · exact told ran (s.abandon_derives l)
      · exact told ran (.refl s)
  | linkFrameTxFull l =>
    change execLinkFrameTxFull l s = .next t at ran
    unfold execLinkFrameTxFull at ran
    split at ran
    · exact told ran (s.abandon_derives l)
    · exact told ran (.refl s)
  | linkReplySent l => exact told ran (s.modLink_derives l _)
  | unknownKind l tag kind =>
    change execUnknownKind l tag kind s = .next t at ran
    unfold execUnknownKind at ran
    split at ran
    · exact told ran (.refl s)
    · exact told ran (s.unknown_derives l tag kind)
  | saveEraseDone f => exact told ran (s.onStage_derives fun r => s.stageDone_derives f r)
  | saveHeaderDone f => exact told ran (s.onStage_derives fun r => s.stageDone_derives f r)
  | saveRecordWritten f => exact told ran (s.onStage_derives fun r => s.stageDone_derives f r)
  | saveReadbackDone f altered => exact told ran (s.onStage_derives fun r => s.readBack_derives f altered r)
  | saveTimeout taken => exact told ran (s.saveTimeout_derives taken)
  | linkFrameByte l b => exact told ran (State.linkByte_derives tagged l b)
  | readerFrameByte p b => exact told ran (s.readerByte_derives p b)
  | deskKeyChange asserted => exact told ran (.of_same rfl rfl)
  | _ l tag p => exact told ran (State.request_derives tagged _ l tag p)

/-- Settles O60: each command works out the outputs of the lane it concerns, and leaves alone what the other lanes' outputs read. -/
theorem outputsStayDerived : Obligations.OutputsStayDerived := by
  intro s t tagged derived ran
  unfold step at ran
  split at ran
  · exact Host.Outcome.next.inj ran ▸ derived
  · rename_i c rest _
    exact (exec_derives c (s := { s with pending := rest }) tagged ran).derived derived

end Sys2Proof.Machine

/-! The step itself, the state after reset, and posting: the statements that the definitions answer field by field. -/

namespace Sys2Proof.Machine

/-! ## The step (R188) -/

/-- Settles O1: the front command runs with the rest of the queue behind it. -/
theorem stepRunsFrontCommand : Obligations.StepRunsFrontCommand := fun _ _ _ => rfl

/-- Settles O2: on an empty queue the step is one tick of the millisecond count. -/
theorem stepIdleCountsMillisecond : Obligations.StepIdleCountsMillisecond := by
  intro s idle
  have ticks : step s = .next s.tick := by
    unfold step
    split
    · rfl
    · rename_i waiting
      exact absurd (waiting.symm.trans idle) (List.cons_ne_nil _ _)
  exact ticks

/-! ## Reset (R194) -/

@[simp] theorem State.reset_lane (k : Lane) : State.reset.lane k = .reset := by
  simp [State.lane, State.reset, Vector.get_eq_getElem]

@[simp] theorem State.reset_port (p : Port) : State.reset.port p = .reset := by
  simp [State.port, State.reset, Vector.get_eq_getElem]

theorem State.reset_link (l : Link) : ∃ queue, State.reset.link l = .reset queue := by cases l <;> exact ⟨_, rfl⟩

/-- Class 0 of an empty Credential Store admits always, every other class never (R128). -/
theorem State.reset_cls (k : ClassNo) : State.reset.cst.cls k = .reset (if k = 0 then .always else .never) := by
  revert k
  decide

theorem resetLaneValues : Claims.ResetLaneValues := fun k => State.reset_lane k

theorem resetSharedValues : Claims.ResetSharedValues := by
  refine ⟨State.reset_port, fun l => ?_, rfl, rfl, rfl, State.reset_cls, rfl, rfl, rfl, rfl, rfl, rfl⟩
  obtain ⟨queue, link⟩ := State.reset_link l
  rw [link]
  exact ⟨rfl, rfl, rfl, rfl, rfl, rfl⟩

/-- Settles O4: every lane, port and link of the reset state is the one the reset tables give. -/
theorem resetValues : Obligations.ResetValues := ⟨resetLaneValues, resetSharedValues⟩

/-- The outputs of a lane at reset are dark, as R100 and R102 give them in DARK. -/
theorem State.reset_outputsDerived : State.reset.outputsDerived := fun k => by
  rw [State.reset_lane]
  rfl

/-- Settles O54: at reset the lists, tables and queues of the laws are empty, or hold what a single glance counts. -/
theorem lawsHoldAtReset : Obligations.LawsHoldAtReset := by
  refine ⟨fun k => ?_, ?_, ?_, fun k => ?_, fun k p hp => ?_, ?_, ?_, ?_, rfl, State.reset_outputsDerived⟩
  · rw [State.reset_lane]
    exact ⟨rfl, rfl⟩
  · exact ⟨by decide, by decide⟩
  · refine ⟨by decide, by decide, fun p => ?_⟩
    rw [State.reset_port]
    decide
  · rw [State.reset_lane]
    decide
  · rw [State.reset_lane] at hp
    exact absurd hp List.not_mem_nil
  · exact ⟨by decide, List.nodup_nil, fun x hx => absurd hx List.not_mem_nil, by decide, by decide⟩
  · exact ⟨rfl, fun c hc => absurd hc List.not_mem_nil, by decide⟩
  · exact ⟨rfl, by decide, by decide, by decide, by decide⟩

/-! ## Posting (R181 to R183) -/

/-- Settles O53: the route of the kind names the queues, and each takes the notice or its overflow flag. -/
theorem postPlacesInQueues : Obligations.PostPlacesInQueues := by
  intro lane b s route notice placed
  have stamped : s.stamp lane b = notice := by
    refine congrArg (fun x => ({ lane := lane, ms := s.tmb.ms, seconds := x, clockValid := s.tmb.valid, body := b } : Notice)) ?_
    rw [State.clock]
    split <;> rfl
  rw [State.post_eq, stamped]
  have placing (cap : Nat) (q : LinkPort) : LinkPort.place cap notice q = placed cap q := rfl
  cases named : s.routing.get b.kind <;> simp [route, named, placing]

end Sys2Proof.Machine

/-! Taking requests: what a request that reaches its owner comes to, the checks before it, the queries, and the requests to the device that
change little. -/

namespace Sys2Proof.Machine

/-! ## A request that reaches its owner (R176, R177) -/

/-- The state after a request that reaches its owner is the judged one with the reply. -/
theorem exec_of_judged {s t : State} {l : Link} {kind : RequestKind} {p body : List Byte} {st : Status} (h : s.reaches l kind p) (tag : Byte)
    (judged : judgeOf l kind p (s.hunt l) = { state := t, status := st, body := body }) :
    exec (Instr.ofRequest l tag p kind) s = .next (t.reply l (replyOf kind tag st body)) := by
  rw [exec_ofRequest, State.request_of_reaches h, judged]

/-- The same for a request of lane k. -/
theorem exec_of_judgedLane {s t : State} {l : Link} {kind : RequestKind} {p body : List Byte} {k : Lane} {st : Status}
    {judge : Lane → List Byte → State → Judged} (h : s.reachesLane l kind p k) (tag : Byte) (owner : judgeOf l kind = onLane judge)
    (judged : judge k p (s.hunt l) = { state := t, status := st, body := body }) :
    exec (Instr.ofRequest l tag p kind) s = .next (t.reply l (replyOf kind tag st body)) :=
  exec_of_judged h.1 tag (by rw [owner, onLane_of_reachesLane h, judged])

@[simp] theorem State.hunt_saving (s : State) (l : Link) : (s.hunt l).saving = s.saving := by rw [State.saving, State.hunt_ims, State.saving]

@[simp] theorem State.hunt_clock (s : State) (l : Link) : (s.hunt l).clock = s.clock := by rw [State.clock, State.hunt_tmb, State.clock]

@[simp] theorem State.hunt_clockBytes (s : State) (l : Link) : (s.hunt l).clockBytes = s.clockBytes := by
  rw [State.clockBytes, State.hunt_clock, State.hunt_tmb, State.clockBytes]

/-- Replacing the tables of a state and its link commute: a link with a change under way. -/
theorem State.modLink_modLink (s : State) (l : Link) (f g : LinkPort → LinkPort) : (s.modLink l f).modLink l g = s.modLink l (g ∘ f) := by
  cases l <;> rfl

/-! ## Frames sent and frames lost (R170, R175, R176) -/

/-- A change of a port is the same where it comes to the same on the port as it stands. -/
theorem State.modPort_congr {s : State} {p : Port} {f g : ReaderPort → ReaderPort} (h : f (s.port p) = g (s.port p)) :
    s.modPort p f = s.modPort p g := by
  unfold State.modPort
  rw [h]

theorem State.modLink_congr {s : State} {l : Link} {f g : LinkPort → LinkPort} (h : f (s.link l) = g (s.link l)) :
    s.modLink l f = s.modLink l g := by
  cases l with
  | site => exact congrArg (fun q => ({ s with site := q } : State)) h
  | desk => exact congrArg (fun q => ({ s with desk := q } : State)) h

/-- Settles O33: a list with a first frame is left with the rest. -/
theorem sentFrameLeavesList : Obligations.SentFrameLeavesList := by
  intro s
  refine ⟨fun p first rest frames => ?_, fun l first rest frames => ?_⟩
  · exact congrArg Host.Outcome.next (State.modPort_congr (by rw [frames]; rfl))
  · exact congrArg Host.Outcome.next (State.modLink_congr (by rw [frames]; rfl))

theorem State.abandon_eq (s : State) (l : Link) :
    s.abandon l = s.modLink l fun p => { p with rx := none, gapDiscards := p.gapDiscards + 1 } := by cases l <;> rfl

theorem execLinkFrameGap_of_due {s : State} {l : Link} {x : Partial} (gathering : (s.link l).rx = some x) (late : x.last + 20 ≤ s.tmb.ms) :
    execLinkFrameGap l s = .next (s.abandon l) := by
  unfold execLinkFrameGap
  rw [gathering]
  exact if_pos (decide_eq_true late)

theorem State.txFull_iff (s : State) (l : Link) : s.txFull l = true ↔ 4 ≤ (s.link l).tx.length := by
  rw [State.txFull, decide_eq_true_eq]
  rfl

/-- Settles O35: each discard is the receiver hunting and one count. -/
theorem discardedFramesAreCounted : Obligations.DiscardedFramesAreCounted := by
  intro l s
  refine ⟨?_, ?_, fun x gathering late => ?_, fun full => ?_⟩
  · exact congrArg Host.Outcome.next (State.modLink_modLink ..)
  · exact congrArg Host.Outcome.next (State.modLink_modLink ..)
  · exact (execLinkFrameGap_of_due gathering late).trans (congrArg Host.Outcome.next (s.abandon_eq l))
  · exact (if_pos ((s.txFull_iff l).mpr full)).trans (congrArg Host.Outcome.next (s.abandon_eq l))

/-! ## The checks of every request (R176, R177) -/

/-- The requests that carry a lane are judged behind the lane check. -/
theorem judgeOf_of_carriesLane (l : Link) {kind : RequestKind} (h : kind.carriesLane = true) : ∃ judge, judgeOf l kind = onLane judge := by
  cases kind with
  | laneMode | laneGeometry | laneTiming | laneStatus | laneTracks | lanePermits | laneReset | pulse | cancel | alarmAck | restore
  | hold | release => exact ⟨_, rfl⟩
  | _ => exact absurd h (by decide)

theorem laneOfByte_eq_none {n : Nat} (h : n < 1 ∨ 6 < n) : laneOfByte n = none := by
  unfold laneOfByte
  rw [dif_neg (by omega)]

theorem requestCodes_eq : requestCodes = RequestKind.all.map RequestKind.code := by decide

theorem RequestKind.ofCode_eq_none {n : Nat} (h : n ∉ requestCodes) : RequestKind.ofCode n = none := by
  refine List.find?_eq_none.mpr fun kind among code => h ?_
  rw [requestCodes_eq]
  exact List.mem_map.mpr ⟨kind, among, beq_iff_eq.mp code⟩

theorem replyKind_eq (kind : Byte) : replyKind kind.toNat = if kind.toNat < 128 then kind + 0x80#8 else 0xFF#8 := by
  have sum : BitVec.ofNat 8 (kind.toNat + 0x80) = kind + 0x80#8 := BitVec.eq_of_toNat_eq (by simp)
  rw [replyKind, sum]

/-- Settles O37: the room on the list, the length, the lane and the kind are tested in this order, and the first that fails answers. -/
theorem requestChecksInOrder : Obligations.RequestChecksInOrder := by
  intro l tag s
  refine ⟨fun kind p => ⟨fun full => ?_, fun room short => ?_, fun reached carries outside => ?_⟩, fun kind unknown room => ?_⟩
  · rw [exec_ofRequest, State.request, State.take_of_full full]
    exact congrArg Host.Outcome.next (s.abandon_eq l)
  · rw [exec_ofRequest, State.request_of_badLength room short]
  · obtain ⟨judge, owner⟩ := judgeOf_of_carriesLane l carries
    refine exec_of_judged reached tag ?_
    rw [owner, onLane, laneOfByte_eq_none outside]
    rfl
  · have taken : execUnknownKind l tag kind s = .next (s.unknown l tag kind) := by
      rw [execUnknownKind, RequestKind.ofCode_eq_none unknown]
    refine taken.trans (congrArg Host.Outcome.next ?_)
    rw [State.unknown, State.take_of_room room, Judged.send, replyKind_eq]
    rfl

theorem classOfByte_val (k : ClassNo) : classOfByte k.val = some k := dif_pos (Nat.le_of_lt_succ k.isLt)

/-! ## The queries (R43, R66, R15, R145, R146, R196) -/

/-- Settles O38: a query is answered from the state as it stands. -/
theorem queriesChangeNothing : Obligations.QueriesChangeNothing := by
  intro l tag p s h
  have records : h.countBytes = fld 2 s.cst.creds.length := by rw [State.countBytes, State.hunt_cst]
  refine ⟨fun k reached => ?_, fun k reached => ?_, fun k reached => ?_, fun reached => ?_, fun c reached found => ?_,
    fun reached absent => ?_, fun reached few => ?_, fun k reached named => ?_⟩
  · exact exec_of_judgedLane reached tag rfl rfl
  · refine exec_of_judgedLane (judge := judgeLaneTracks) reached tag rfl ?_
    rw [judgeLaneTracks, State.hunt_lane, State.hunt_tmb]
    rfl
  · refine exec_of_judgedLane (judge := judgeLanePermits) reached tag rfl ?_
    rw [judgeLanePermits, State.hunt_lane, State.hunt_tmb]
    rfl
  · exact exec_of_judged reached tag rfl
  · refine exec_of_judged reached tag ?_
    show judgeCredGet p h = _
    rw [judgeCredGet, State.hunt_cst, found, ← records]
    rfl
  · refine exec_of_judged reached tag ?_
    show judgeCredGet p h = _
    rw [judgeCredGet, State.hunt_cst, absent, ← records]
    rfl
  · refine exec_of_judged reached tag ?_
    show judgeCredScan p h = _
    rw [judgeCredScan, if_neg (not_lt.mpr few), scanBytes, records, State.hunt_cst]
    rfl
  · refine exec_of_judged reached tag ?_
    show judgeClassGet p h = _
    rw [judgeClassGet, named, classOfByte_val, ← records, ← State.hunt_cst s l]
    rfl

/-! ## FETCH, CLOCK_SET, SAVE and IDENT (R184, R189, R192, R197) -/

/-- Settles O49: the notices taken are the first of the queue as it stood. -/
theorem fetchTakesOldest : Obligations.FetchTakesOldest := by
  intro l tag p s reached few n old
  have judged : judgeFetch l p (s.hunt l) = answered ((s.hunt l).modLink l (LinkPort.fetched n)) (fetchBytes n ((s.hunt l).link l)) :=
    if_neg (not_lt.mpr few)
  refine (exec_of_judged reached tag judged).trans (congrArg Host.Outcome.next ?_)
  cases l <;> rfl

/-- A clock just set reads the seconds given, modulo their field (R189). -/
theorem State.setClock_clockBytes (n : Nat) (s : State) : (s.setClock n).clockBytes = fld 4 (n % 2 ^ 32) ++ [1] := by
  simp [State.setClock, State.clockBytes, State.clock, flagByte]

theorem State.clearClock_clockBytes (s : State) : s.clearClock.clockBytes = fld 4 0 ++ [0] := rfl

/-- Settles O51: each of the three is answered from the state it leaves or finds. -/
theorem clockSaveIdent : Obligations.ClockSaveIdent := by
  intro l tag p s h
  refine ⟨fun reached set => ?_, fun reached clear => ?_, fun reached idle => ?_, fun reached set idle => ?_, fun reached query => ?_⟩
  · refine exec_of_judged reached tag ?_
    show judgeClockSet p h = _
    rw [judgeClockSet, if_pos set]
    dsimp only
    rw [State.setClock_clockBytes, State.hunt_clockBytes, State.setClock, State.hunt_tmb]
    rfl
  · refine exec_of_judged reached tag ?_
    show judgeClockSet p h = _
    rw [judgeClockSet, if_neg (by omega), if_pos clear, State.clearClock_clockBytes, State.hunt_clockBytes, State.clearClock,
      State.hunt_tmb]
    rfl
  · refine exec_of_judged reached tag ?_
    show judgeSave p h = _
    rw [judgeSave, State.hunt_saving, idle, State.beginSave, State.hunt_ims, State.hunt_tmb, State.hunt_cst]
    rfl
  · refine exec_of_judged reached tag ?_
    show judgeIdent p h = _
    rw [judgeIdent, State.hunt_saving, idle, set, State.setUnit, State.hunt_ims]
    rfl
  · refine exec_of_judged reached tag ?_
    show judgeIdent p h = _
    rw [judgeIdent, query, State.hunt_ims]
    rfl

end Sys2Proof.Machine

/-! Permits: what binding takes, what an append queues, and what leaves with an expiry. -/

namespace Sys2Proof.Machine

/-! ## Binding (R51) -/

/-- Whether binding passes a permit over. -/
def Permit.passedOver (d : Direction) (p : Permit) : Prop := ¬(p.dir = d ∧ p.state = .ready)

theorem bindFirst_passedOver {deadline : Nat} {d : Direction} {p : Permit} (ps : List Permit) (h : p.passedOver d) :
    bindFirst deadline d (p :: ps) = (bindFirst deadline d ps).map fun x => (x.1, p :: x.2) := if_neg h

theorem bindFirst_taken {deadline : Nat} {d : Direction} {p : Permit} (ps : List Permit) (h : p.dir = d ∧ p.state = .ready) :
    bindFirst deadline d (p :: ps)
      = some ({ p with used := p.used + 1, deadline := deadline }, { p with used := p.used + 1, deadline := deadline } :: ps) := if_pos h

theorem bindFirst_eq_none_iff (deadline : Nat) (d : Direction) (ps : List Permit) :
    bindFirst deadline d ps = none ↔ ∀ p ∈ ps, p.passedOver d := by
  induction ps with
  | nil => simp [bindFirst]
  | cons p ps ih =>
    by_cases taken : p.dir = d ∧ p.state = .ready
    · rw [bindFirst_taken ps taken]
      exact ⟨fun h => absurd h (by simp), fun h => absurd taken (h p List.mem_cons_self)⟩
    · rw [bindFirst_passedOver ps taken, Option.map_eq_none_iff, ih, List.forall_mem_cons]
      exact ⟨fun h => ⟨taken, h⟩, fun h => h.2⟩

theorem bindFirst_eq_some {deadline : Nat} {d : Direction} {ps qs : List Permit} {q : Permit} (h : bindFirst deadline d ps = some (q, qs)) :
    ∃ ahead p behind, ps = ahead ++ p :: behind ∧ (∀ x ∈ ahead, x.passedOver d) ∧ p.dir = d ∧ p.state = .ready
      ∧ q = { p with used := p.used + 1, deadline := deadline } ∧ qs = ahead ++ q :: behind := by
  induction ps generalizing qs with
  | nil => exact absurd h (by simp [bindFirst])
  | cons p ps ih =>
    by_cases taken : p.dir = d ∧ p.state = .ready
    · rw [bindFirst_taken ps taken] at h
      obtain ⟨rfl, rfl⟩ := Prod.mk.inj (Option.some.inj h)
      exact ⟨[], p, ps, rfl, fun x hx => absurd hx List.not_mem_nil, taken.1, taken.2, rfl, rfl⟩
    · rw [bindFirst_passedOver ps taken, Option.map_eq_some_iff] at h
      obtain ⟨⟨q', qs'⟩, bound, same⟩ := h
      obtain ⟨rfl, rfl⟩ := Prod.mk.inj same
      obtain ⟨ahead, r, behind, rfl, passed, dir, ready, used, rest⟩ := ih bound
      exact ⟨p :: ahead, r, behind, rfl, List.forall_mem_cons.mpr ⟨taken, passed⟩, dir, ready, used, congrArg (p :: ·) rest⟩

/-- Settles O13, by induction on the queue: its head is passed over or taken. -/
theorem bindTakesFirstReadyPermit : Obligations.BindTakesFirstReadyPermit := fun deadline d ps =>
  ⟨bindFirst_eq_none_iff deadline d ps, fun _ _ h => bindFirst_eq_some h⟩

/-! ## Append (R47, R57) -/

theorem Pq.window_setWindow_of_ne {d f : Direction} {x : Option Nat} {q : Pq} (other : d ≠ f) : (q.setWindow f x).window d = q.window d := by
  cases d with
  | entry =>
    cases f with
    | entry => exact absurd rfl other
    | exit => rfl
  | exit =>
    cases f with
    | entry => rfl
    | exit => exact absurd rfl other

/-- The number behind that of the permit queued is the next to be tried (R46). -/
theorem LaneState.queuePermit_next (now : Nat) (r : AppendReq) (l : LaneState) :
    (l.queuePermit now r).pq.next = next255 (newPermit now l r).number := by
  unfold LaneState.queuePermit
  dsimp only [LaneState.modPq]
  split
  · cases r.dir <;> rfl
  · rfl

theorem LaneState.queuePermit_window_plain {r : AppendReq} (plain : r.escort = false) (now : Nat) (l : LaneState) (d : Direction) :
    (l.queuePermit now r).pq.window d = l.pq.window d := by
  unfold LaneState.queuePermit
  simp only [plain]
  cases d <;> rfl

theorem LaneState.queuePermit_window_escort {r : AppendReq} (escort : r.escort = true) (now : Nat) (l : LaneState) :
    (l.queuePermit now r).pq.window r.dir = some (now + l.timing.escortWindow * 1000) := by
  unfold LaneState.queuePermit
  simp only [escort]
  cases r.dir <;> rfl

theorem LaneState.queuePermit_window_other {r : AppendReq} (now : Nat) (l : LaneState) {d : Direction} (other : d ≠ r.dir) :
    (l.queuePermit now r).pq.window d = l.pq.window d := by
  unfold LaneState.queuePermit
  dsimp only [LaneState.modPq]
  split
  · exact Pq.window_setWindow_of_ne other
  · cases d <;> rfl

theorem newPermit_mem_queuePermit (now : Nat) (r : AppendReq) (l : LaneState) : newPermit now l r ∈ (l.queuePermit now r).pq.permits := by
  rw [LaneState.queuePermit_permits]
  unfold placePermit
  split <;> simp

/-- A queue of the claim's one direction, joined by a permit of that direction, is claimed for it. -/
theorem LaneState.queuePermit_claimed {now : Nat} {r : AppendReq} {l : LaneState} (allows : l.pq.claim = none ∨ l.pq.claim = some r.dir)
    (room : l.pq.permits.length < 4) (oneWay : l.oneWay) : (l.queuePermit now r).pq.claim = some r.dir :=
  (LaneState.queuePermit_keeps allows room).oneWay oneWay (newPermit now l r) (newPermit_mem_queuePermit now r l)

theorem appendState_eq (r : AppendReq) (q : Pq) :
    appendState r q = if r.escort = false ∧ r.needsEscort = true ∧ q.window r.dir = none then .awaitingEscort else .ready := by
  unfold appendState
  cases r.escort <;> cases r.needsEscort <;> cases q.window r.dir <;> rfl

theorem deadlineFor_eq (now : Nat) (t : Timing) (st : PermitState) :
    deadlineFor now t st =
      if st = .ready then now + t.grantTime * 1000 * (if t.wide then 2 else 1) else now + t.escortWindow * 1000 := by
  cases st <;> rfl

/-- Settles O15: an accepted append queues the new permit, and the open condition evaluated behind it touches the barrier alone. -/
theorem appendJudged : Obligations.AppendJudged := by
  intro e r w
  refine ⟨fun ⟨c, claimed, other⟩ => append_laneBusy claimed other, append_queueFull, fun allows room => ?_⟩
  refine ⟨_, newPermit e.now w.lane r, append_accepted allows room, rfl, rfl, rfl, rfl, rfl, rfl, rfl, rfl, rfl, appendState_eq _ _,
    deadlineFor_eq _ _ _, ?_⟩
  generalize settled : (if (newPermit e.now w.lane r).state = .ready then evalOpen e (w.mod (LaneState.queuePermit e.now r))
    else w.mod (LaneState.queuePermit e.now r)) = w'
  have frame : (w.mod (LaneState.queuePermit e.now r)).barrierFrame w' := by
    rw [← settled]
    split
    · exact evalOpen_frame e _
    · exact Work.barrierFrame_refl _
  obtain ⟨-, -, -, ot, pq, -, -, -, -, -, reported, creds⟩ := frame
  rw [ot, pq, reported, creds, Work.mod_lane, LaneState.queuePermit_permits]
  refine ⟨fun plain => ?_, fun escort => ⟨?_, ?_⟩, fun d kept => ?_, ?_, ?_, ?_, ?_, rfl⟩
  · rw [placePermit, plain]
    rfl
  · rw [placePermit, escort]
    rfl
  · exact LaneState.queuePermit_window_escort escort e.now w.lane
  · rcases kept with plain | other
    · exact LaneState.queuePermit_window_plain plain e.now w.lane d
    · exact LaneState.queuePermit_window_other e.now w.lane other
  · exact LaneState.queuePermit_next e.now r w.lane
  · exact LaneState.queuePermit_claimed allows room
  · rfl
  · rfl

/-! ## What a motion posts (R70, R83) -/

/-- Notices are only ever added behind those already posted. -/
def Work.postsOn (w v : Work) : Prop := w.out <+: v.out

theorem Work.postsOn.mod {w v : Work} (h : w.postsOn v) (f : LaneState → LaneState) : w.postsOn (v.mod f) := h

theorem Work.postsOn.emit {w v : Work} (h : w.postsOn v) (b : NoticeBody) : w.postsOn (v.emit b) := h.trans (List.prefix_append ..)

theorem Work.postsOn.trans {a b c : Work} (h : a.postsOn b) (g : b.postsOn c) : a.postsOn c := List.IsPrefix.trans h g

theorem Work.postsOn.refl (w : Work) : w.postsOn w := List.prefix_refl _

theorem Work.postsOn.ite {w a b : Work} {c : Prop} [Decidable c] (h : w.postsOn a) (g : w.postsOn b) : w.postsOn (if c then a else b) := by
  split
  · exact h
  · exact g

theorem clearJam_postsOn (w : Work) : w.postsOn (clearJam w) := by
  unfold clearJam
  dsimp only
  split
  · exact Work.postsOn.emit (.refl w) _
  · exact .refl w

theorem arriveShut_postsOn (w : Work) : w.postsOn (arriveShut w) := clearJam_postsOn (w.mod _)

theorem beginShutting_postsOn (e : Env) (w : Work) : w.postsOn (beginShutting e w) := by
  unfold beginShutting
  dsimp only
  split
  · exact arriveShut_postsOn (w.mod _)
  · exact .refl w

theorem evalShut_postsOn (e : Env) (w : Work) : w.postsOn (evalShut e w) := by
  unfold evalShut
  split
  · dsimp only
    split
    · exact beginShutting_postsOn e (w.mod _)
    · exact .refl w
  · exact .refl w

theorem arriveOpen_postsOn (e : Env) (w : Work) : w.postsOn (arriveOpen e w) := evalShut_postsOn e (w.mod _)

theorem beginOpening_postsOn (e : Env) (w : Work) : w.postsOn (beginOpening e w) := by
  unfold beginOpening
  dsimp only
  split
  · exact arriveOpen_postsOn e (w.mod _)
  · exact .refl w

theorem evalOpen_postsOn (e : Env) (w : Work) : w.postsOn (evalOpen e w) := by
  unfold evalOpen
  split
  · exact .refl w
  · split
    · split
      · exact beginOpening_postsOn e w
      · exact .refl w
    · split
      · exact beginOpening_postsOn e w
      · exact .refl w
    all_goals exact .refl w

/-! ## The free-direction service (R59) -/

/-- What the free-direction service may do: append FREE permits, and let the barrier move on them. -/
structure Work.Serves (w v : Work) : Prop where
  permits : ∃ freed, v.lane.pq.permits = w.lane.pq.permits ++ freed
    ∧ ∀ q ∈ freed, q.origin = .free ∧ q.state = .ready ∧ q.credential = none ∧ q.allowance = 1 ∧ q.used = 0
  window : ∀ d, v.lane.pq.window d = w.lane.pq.window d
  geo : v.lane.geo = w.lane.geo
  timing : v.lane.timing = w.lane.timing
  bsu : v.lane.bsu = w.lane.bsu
  ot : v.lane.ot = w.lane.ot
  reported : v.lane.reported = w.lane.reported
  mode : v.lane.lsv.mode = w.lane.lsv.mode
  policy : v.lane.lsv.policy = w.lane.lsv.policy
  creds : v.creds = w.creds
  posts : w.postsOn v

theorem Work.Serves.refl (w : Work) : w.Serves w :=
  ⟨⟨[], (List.append_nil _).symm, fun _ hq => absurd hq List.not_mem_nil⟩, fun _ => rfl, rfl, rfl, rfl, rfl, rfl, rfl, rfl, rfl, .refl w⟩

theorem Work.Serves.trans {a b c : Work} (h : a.Serves b) (g : b.Serves c) : a.Serves c := by
  obtain ⟨xs, grown, free⟩ := h.permits
  obtain ⟨ys, grown', free'⟩ := g.permits
  exact ⟨⟨xs ++ ys, by rw [grown', grown, List.append_assoc], fun q hq => (List.mem_append.mp hq).elim (free q) (free' q)⟩,
    fun d => (g.window d).trans (h.window d), g.geo.trans h.geo, g.timing.trans h.timing, g.bsu.trans h.bsu, g.ot.trans h.ot,
    g.reported.trans h.reported, g.mode.trans h.mode, g.policy.trans h.policy, g.creds.trans h.creds, h.posts.trans g.posts⟩

/-- A motion, or its evaluation, that posts behind what stands. -/
theorem Work.Serves.of_barrierFrame {w v : Work} (frame : w.barrierFrame v) (posts : w.postsOn v) : w.Serves v := by
  obtain ⟨geo, timing, bsu, ot, pq, mode, policy, -, -, -, reported, creds⟩ := frame
  exact ⟨⟨[], by rw [pq, List.append_nil], fun _ hq => absurd hq List.not_mem_nil⟩, fun d => by rw [pq], geo, timing, bsu, ot, reported, mode,
    policy, creds, posts⟩

theorem Work.Serves.queueFree (now : Nat) (d : Direction) (w : Work) : w.Serves (w.mod (LaneState.queuePermit now (freeReq d))) := by
  refine ⟨⟨[newPermit now w.lane (freeReq d)], LaneState.queuePermit_permits .., fun q hq => ?_⟩,
    LaneState.queuePermit_window_plain rfl now w.lane, rfl, rfl, rfl, rfl, rfl, rfl, rfl, rfl, .refl w⟩
  rw [List.mem_singleton.mp hq]
  exact ⟨rfl, rfl, rfl, rfl, rfl⟩

theorem append_serves {e : Env} {d : Direction} {w w' : Work} {n : Nat} {st : PermitState}
    (h : append e (freeReq d) w = .accepted w' n st) : w.Serves w' := by
  obtain ⟨-, -, rfl, -, -⟩ := append_accepted_inv h
  have queued := Work.Serves.queueFree e.now d w
  split
  · exact queued.trans (.of_barrierFrame (evalOpen_frame e _) (evalOpen_postsOn e _))
  · exact queued

theorem serveFree_serves (e : Env) (d : Direction) (n : Nat) (w : Work) : w.Serves (serveFree e d n w) := by
  induction n generalizing w with
  | zero => exact .refl w
  | succ n ih =>
    unfold serveFree
    split
    · rename_i accepted
      exact (append_serves accepted).trans (ih _)
    · exact .refl w
    · exact .refl w

theorem serveDirection_serves (e : Env) (w : Work) (d : Direction) : w.Serves (serveDirection e w d) := by
  unfold serveDirection
  split
  · exact serveFree_serves ..
  · exact .refl w

theorem foldl_serveDirection_serves (e : Env) (ds : List Direction) (w : Work) : w.Serves (ds.foldl (serveDirection e) w) := by
  induction ds generalizing w with
  | nil => exact .refl w
  | cons d ds ih => exact (serveDirection_serves e w d).trans (ih _)

theorem freeService_serves (e : Env) (w : Work) : w.Serves (freeService e w) := by
  unfold freeService
  split
  · exact foldl_serveDirection_serves ..
  · exact .refl w

theorem freeService_of_not_service {e : Env} {w : Work} (h : w.lane.lsv.mode ≠ .service) : freeService e w = w := if_neg h

/-! ## Expiries (R55, R58) -/

/-- The permit of a number that no other queued permit has is the one found due. -/
theorem LaneState.duePermit_of_mem {l : LaneState} {p : Permit} {now : Nat} (queued : p ∈ l.pq.permits)
    (only : ∀ q ∈ l.pq.permits, q.number = p.number → q = p) (late : p.deadline ≤ now) : l.duePermit now p.number p.state = some p := by
  cases found : l.duePermit now p.number p.state with
  | none =>
    have missed := List.find?_eq_none.mp found p queued
    exact absurd (by simp [due, late]) missed
  | some q =>
    have test := List.find?_some found
    simp only [Bool.and_eq_true, beq_iff_eq] at test
    rw [only q (List.mem_of_find?_eq_some found) test.1.1]

/-- An expiry of a permit that is due is its removal and the free-direction service. -/
theorem expirePermit_of_due {e : Env} {w : Work} {p : Permit} {ended : PermitEnd}
    (found : w.lane.duePermit e.now p.number p.state = some p) :
    expirePermit e p.number p.state ended w = freeService e (removePermit p ended w) := by
  rw [expirePermit, found]

/-- An event of a lane that touches no record is a lane event with the lane and the notices of its work. -/
theorem State.laneEvent_of_runLane {s : State} {k : Lane} {f : Env → Work → Work} {v : Work} (h : f (s.env k) (s.work k) = v)
    (creds : v.creds = s.cst.creds) : (s.runLane k f).refresh k = s.laneEvent k (v.lane.withOutputs s.rfu.slots k) v.out := by
  rw [State.runLane_eq, h, State.absorb_refresh _ _ _ creds]

/-- The end that a permit's deadline brings it in each state (R55, R58). -/
def PermitState.overdue : PermitState → PermitEnd
  | .ready => .expired
  | .awaitingEscort => .escortTimeout

/-- Settles O16: the permit found due is removed, and what the free-direction service adds stands behind. -/
theorem duePermitLeavesQueue : Obligations.DuePermitLeavesQueue := by
  intro k s p queued only late
  let base := removePermit p p.state.overdue (s.work k)
  have served := freeService_serves (s.env k) base
  obtain ⟨freed, permits, free⟩ := served.permits
  obtain ⟨bodies, posts⟩ := served.posts
  have event : (s.runLane k fun e w => expirePermit e p.number p.state p.state.overdue w).refresh k
      = s.laneEvent k ((freeService (s.env k) base).lane.withOutputs s.rfu.slots k) (.permitEnd p p.state.overdue :: bodies) := by
    rw [State.laneEvent_of_runLane (expirePermit_of_due (LaneState.duePermit_of_mem queued only late)) served.creds, ← posts]
    rfl
  refine ⟨(freeService (s.env k) base).lane.withOutputs s.rfu.slots k, bodies, freed, ?_, permits, free, fun other => ?_,
    served.window .entry, served.window .exit, served.geo, served.timing, served.bsu, served.ot, served.reported, served.mode, served.policy⟩
  · cases state : p.state with
    | ready =>
      rw [state] at event
      exact congrArg Host.Outcome.next event
    | awaitingEscort =>
      rw [state] at event
      exact congrArg Host.Outcome.next event
  · rw [freeService_of_not_service (w := base) other] at permits posts
    exact ⟨List.append_right_eq_self.mp permits.symm, List.append_right_eq_self.mp posts⟩

end Sys2Proof.Machine

/-! What the motions of the barrier come to, each as one change of the lane with the notices behind it. -/

namespace Sys2Proof.Machine

/-! ## The changes of the lane -/

/-- The lane as an opening motion begins in it (R70, R73). -/
def LaneState.openingAt (now : Nat) (l : LaneState) : LaneState :=
  (l.setBarrier .opening).modBc fun c => { c with motionEnd := some (now + 2 * l.timing.topen) }

/-- The lane as a shut motion begins in it (R70, R75). -/
def LaneState.shuttingAt (now : Nat) (l : LaneState) : LaneState :=
  (l.setBarrier .shutting).modBc fun c => { c with motionEnd := some (now + 2 * l.timing.tc) }

/-- The jam hold of a lane that comes to OPEN: started under JAM (R82). -/
def LaneState.holdAt (now : Nat) (l : LaneState) : Option Nat :=
  if l.bc.jam then some (now + l.timing.jamHold * 1000) else l.bc.jamHoldEnd

/-- The lane as an opening motion completes in it, before the shut condition is evaluated (R70, R82). -/
def LaneState.openedAt (now : Nat) (l : LaneState) : LaneState :=
  (l.setBarrier .opened).modBc fun c => { c with motionEnd := none, jamHoldEnd := l.holdAt now }

/-- The lane with the reversal count and JAM cleared (R83). -/
def LaneState.unjammed (l : LaneState) : LaneState := (l.modBc fun c => { c with reversals := 0 }).setJam false

/-- The lane as a shut motion completes in it (R70, R83). -/
def LaneState.shutAt (l : LaneState) : LaneState := ((l.setBarrier .shut).modBc fun c => { c with motionEnd := none }).unjammed

/-- Taking a state other than OPEN drops the shut evaluation with the drives of the state before (R68, R77). -/
theorem LaneState.setBarrier_eq {b : Barrier} (h : b ≠ .opened) (l : LaneState) :
    l.setBarrier b =
      { l with
        bc :=
          { l.bc with state := b, driveOpen := decide (b = .opening), driveShut := decide (b = .shutting), last := none, risk := false }
        lsv := { l.lsv with barrierMark := decide (b = .stalled), riskLobby := false, riskSecure := false } } := if_neg h

theorem LaneState.setBarrier_opened (l : LaneState) :
    l.setBarrier .opened =
      { l with
        bc := { l.bc with state := .opened, driveOpen := false, driveShut := false }, lsv := { l.lsv with barrierMark := false } } := by
  unfold LaneState.setBarrier
  dsimp only
  rw [if_pos rfl]
  rfl

theorem LaneState.openingAt_eq (now : Nat) (l : LaneState) :
    l.openingAt now =
      { l with
        bc :=
          { l.bc with
            state := .opening, driveOpen := true, driveShut := false, last := none, risk := false
            motionEnd := some (now + 2 * l.timing.topen) }
        lsv := { l.lsv with barrierMark := false, riskLobby := false, riskSecure := false } } := by
  rw [LaneState.openingAt, LaneState.setBarrier_eq (by decide)]
  rfl

theorem LaneState.shuttingAt_eq (now : Nat) (l : LaneState) :
    l.shuttingAt now =
      { l with
        bc :=
          { l.bc with
            state := .shutting, driveOpen := false, driveShut := true, last := none, risk := false
            motionEnd := some (now + 2 * l.timing.tc) }
        lsv := { l.lsv with barrierMark := false, riskLobby := false, riskSecure := false } } := by
  rw [LaneState.shuttingAt, LaneState.setBarrier_eq (by decide)]
  rfl

theorem LaneState.openedAt_eq (now : Nat) (l : LaneState) :
    l.openedAt now =
      { l with
        bc := { l.bc with state := .opened, driveOpen := false, driveShut := false, motionEnd := none, jamHoldEnd := l.holdAt now }
        lsv := { l.lsv with barrierMark := false } } := by
  rw [LaneState.openedAt, LaneState.setBarrier_opened]
  rfl

theorem LaneState.unjammed_eq (l : LaneState) :
    l.unjammed =
      { l with
        bc := { l.bc with reversals := 0, jam := false }
        lsv := { l.lsv with alarms := { l.lsv.alarms with jam := { active := false, silenced := false } } } } := by
  have quiet : (l.lsv.alarms.jam).follow false = { active := false, silenced := false } := by simp [ConditionAlarm.follow]
  rw [← quiet]
  rfl

theorem LaneState.shutAt_eq (l : LaneState) :
    l.shutAt =
      { l with
        bc :=
          { l.bc with
            state := .shut, driveOpen := false, driveShut := false, last := none, risk := false, motionEnd := none, reversals := 0
            jam := false }
        lsv :=
          { l.lsv with
            barrierMark := false, riskLobby := false, riskSecure := false
            alarms := { l.lsv.alarms with jam := { active := false, silenced := false } } } } := by
  rw [LaneState.shutAt, LaneState.setBarrier_eq (by decide), LaneState.unjammed_eq]
  rfl

theorem LaneState.shutAt_shuttingAt (now : Nat) (l : LaneState) : (l.shuttingAt now).shutAt = l.shutAt := by
  rw [LaneState.shutAt_eq, LaneState.shutAt_eq, LaneState.shuttingAt_eq]

/-- The notice of a JAM that clears with the barrier in a state (R83, R85). -/
def jamNotices (jam : Bool) (b : Barrier) : List NoticeBody := if jam then [.barrier .jamCleared b 0] else []

/-! ## What a motion's beginning or end does -/

/-- The lane of an event takes a state, and notices follow those posted. -/
def Work.takes (w : Work) (l : LaneState) (bs : List NoticeBody) : Work := { lane := l, creds := w.creds, out := w.out ++ bs }

/-- Two changes of the lane are one. -/
theorem Work.mod_comp (w : Work) (f g : LaneState → LaneState) : (w.mod f).mod g = w.mod fun l => g (f l) := rfl

theorem Work.mod_eq_takes (w : Work) (f : LaneState → LaneState) : w.mod f = w.takes (f w.lane) [] := by
  rw [Work.takes, List.append_nil]
  rfl

theorem clearJam_eq (w : Work) : clearJam w = w.takes w.lane.unjammed (jamNotices w.lane.bc.jam w.lane.bc.state) := by
  unfold clearJam jamNotices
  dsimp only
  split
  · rfl
  · exact w.mod_eq_takes _

theorem arriveShut_eq (w : Work) : arriveShut w = w.takes w.lane.shutAt (jamNotices w.lane.bc.jam .shut) := by
  have state : ((w.lane.setBarrier .shut).modBc fun c => { c with motionEnd := none }).bc.state = .shut := by simp
  have jam : ((w.lane.setBarrier .shut).modBc fun c => { c with motionEnd := none }).bc.jam = w.lane.bc.jam := rfl
  rw [arriveShut, clearJam_eq, Work.mod_lane, state, jam]
  rfl

theorem beginShutting_of_limit_off {e : Env} {w : Work} (h : w.lane.bc.shutLimit = false) :
    beginShutting e w = w.mod (LaneState.shuttingAt e.now) := by
  refine if_neg ?_
  rw [Work.mod_lane, LaneState.modBc_bc, LaneState.setBarrier_shutLimit, h]
  exact Bool.false_ne_true

theorem beginShutting_of_limit_on {e : Env} {w : Work} (h : w.lane.bc.shutLimit = true) :
    beginShutting e w = w.takes w.lane.shutAt (jamNotices w.lane.bc.jam .shut) := by
  have limit : (w.mod (LaneState.shuttingAt e.now)).lane.bc.shutLimit = true := by
    rw [Work.mod_lane, LaneState.shuttingAt, LaneState.modBc_bc, LaneState.setBarrier_shutLimit, h]
  have arrived : beginShutting e w = arriveShut (w.mod (LaneState.shuttingAt e.now)) := if_pos limit
  have jam : (w.lane.shuttingAt e.now).bc.jam = w.lane.bc.jam := rfl
  rw [arrived, arriveShut_eq, Work.mod_lane, LaneState.shutAt_shuttingAt, jam]
  rfl

/-- In a mode in which the shut condition is not evaluated, and in any state but OPEN, nothing is. -/
theorem evalShut_of_unevaluated {e : Env} {w : Work} (h : w.lane.bc.state ≠ .opened ∨ shutMode w.lane.lsv.mode = false) : evalShut e w = w := by
  refine if_neg fun both => ?_
  rcases h with other | off
  · exact other both.1
  · exact Bool.false_ne_true (off.symm.trans both.2)

/-- An evaluation that fails, or that an obstruction stops, is recorded and moves nothing. -/
theorem evalShut_of_fails {e : Env} {w : Work} (opened : w.lane.bc.state = .opened) (mode : shutMode w.lane.lsv.mode = true)
    (h : w.lane.failedPoints ≠ [] ∨ w.lane.bc.obstruct = true) : evalShut e w = w.mod (LaneState.recordEvaluation e.now) := by
  have stops : ¬(w.lane.shutCondition && !w.lane.bc.obstruct) = true := by
    rw [Bool.and_eq_true, LaneState.shutCondition_iff_failedPoints, Bool.not_eq_true']
    rintro ⟨none, clear⟩
    rcases h with some | obstructed
    · exact some none
    · exact Bool.false_ne_true (clear.symm.trans obstructed)
  rw [evalShut, if_pos ⟨opened, mode⟩]
  exact if_neg stops

/-- An evaluation that holds begins the shut motion. -/
theorem evalShut_of_holds {e : Env} {w : Work} (opened : w.lane.bc.state = .opened) (mode : shutMode w.lane.lsv.mode = true)
    (holds : w.lane.failedPoints = []) (clear : w.lane.bc.obstruct = false) :
    evalShut e w = beginShutting e (w.mod (LaneState.recordEvaluation e.now)) := by
  have goes : (w.lane.shutCondition && !w.lane.bc.obstruct) = true := by
    rw [w.lane.shutCondition_iff_failedPoints.mpr holds, clear]
    rfl
  rw [evalShut, if_pos ⟨opened, mode⟩]
  exact if_pos goes

theorem arriveOpen_eq (e : Env) (w : Work) : arriveOpen e w = evalShut e (w.mod (LaneState.openedAt e.now)) := by
  have same : (let opened := (w.lane.setBarrier .opened).modBc fun c => { c with motionEnd := none }
      if opened.bc.jam then opened.startJamHold e.now else opened) = w.lane.openedAt e.now := by
    have jam : ((w.lane.setBarrier .opened).modBc fun c => { c with motionEnd := none }).bc.jam = w.lane.bc.jam := rfl
    unfold LaneState.openedAt LaneState.holdAt
    dsimp only
    rw [jam]
    split <;> rfl
  rw [arriveOpen]
  exact congrArg (evalShut e) (congrArg (fun l => ({ w with lane := l } : Work)) same)

theorem beginOpening_of_limit_off {e : Env} {w : Work} (h : w.lane.bc.openLimit = false) :
    beginOpening e w = w.mod (LaneState.openingAt e.now) := by
  refine if_neg ?_
  rw [Work.mod_lane, LaneState.modBc_bc, LaneState.setBarrier_openLimit, h]
  exact Bool.false_ne_true

theorem beginOpening_of_limit_on {e : Env} {w : Work} (h : w.lane.bc.openLimit = true) :
    beginOpening e w = evalShut e (w.mod fun l => (l.openingAt e.now).openedAt e.now) := by
  have limit : (w.mod (LaneState.openingAt e.now)).lane.bc.openLimit = true := by
    rw [Work.mod_lane, LaneState.openingAt, LaneState.modBc_bc, LaneState.setBarrier_openLimit, h]
  have arrived : beginOpening e w = arriveOpen e (w.mod (LaneState.openingAt e.now)) := if_pos limit
  rw [arrived, arriveOpen_eq, Work.mod_comp]

theorem evalOpen_of_dark {e : Env} {w : Work} (h : w.lane.lsv.mode = .dark) : evalOpen e w = w := if_pos h

theorem evalOpen_of_shut {e : Env} {w : Work} (shut : w.lane.bc.state = .shut) (h : w.lane.lsv.mode = .dark ∨ w.lane.opensFromShut = false) :
    evalOpen e w = w := by
  rcases h with dark | closed
  · exact evalOpen_of_dark dark
  · rw [evalOpen, shut]
    dsimp only
    rw [closed]
    exact ite_self _

theorem evalOpen_of_opens {e : Env} {w : Work} (shut : w.lane.bc.state = .shut) (lit : w.lane.lsv.mode ≠ .dark)
    (opens : w.lane.opensFromShut = true) : evalOpen e w = beginOpening e w := by
  rw [evalOpen, if_neg lit, shut]
  exact if_pos opens

theorem evalOpen_of_shutting {e : Env} {w : Work} (moving : w.lane.bc.state = .shutting)
    (h : w.lane.lsv.mode = .dark ∨ w.lane.openCondition = false) : evalOpen e w = w := by
  rcases h with dark | closed
  · exact evalOpen_of_dark dark
  · rw [evalOpen, moving]
    dsimp only
    rw [closed]
    exact ite_self _

theorem evalOpen_of_reopens {e : Env} {w : Work} (moving : w.lane.bc.state = .shutting) (lit : w.lane.lsv.mode ≠ .dark)
    (opens : w.lane.openCondition = true) : evalOpen e w = beginOpening e w := by
  rw [evalOpen, if_neg lit, moving]
  exact if_pos opens

/-! ## What the conditions read -/

theorem LaneState.assessments_congr {a b : LaneState} (geo : a.geo = b.geo) (timing : a.timing = b.timing) (ot : a.ot = b.ot) :
    a.assessments = b.assessments := by rw [LaneState.assessments, LaneState.assessments, geo, timing, ot]

/-- The shut condition reads the unit's own jam hold alone. -/
theorem LaneState.failedPoints_congr {a b : LaneState} (geo : a.geo = b.geo) (timing : a.timing = b.timing) (ot : a.ot = b.ot) (pq : a.pq = b.pq)
    (bsu : a.bsu = b.bsu) (hold : a.bc.jamHoldEnd = b.bc.jamHoldEnd) : a.failedPoints = b.failedPoints := by
  simp only [LaneState.failedPoints, LaneState.readyQueued, LaneState.sensor, LaneState.assessments_congr geo timing ot, geo, ot, pq, bsu, hold]

theorem LaneState.opensFromShut_congr {a b : LaneState} (pq : a.pq = b.pq) (bsu : a.bsu = b.bsu) (mode : a.lsv.mode = b.lsv.mode)
    (posture : a.bc.posture = b.bc.posture) : a.opensFromShut = b.opensFromShut := by
  simp only [LaneState.opensFromShut, LaneState.readyQueued, LaneState.sensor, pq, bsu, mode, posture]

/-- A READY permit, the guard zone and the SENSOR condition each fail the shut condition, whatever else the lane holds. -/
def LaneState.keptOpen (l : LaneState) : Prop := l.readyQueued = true ∨ l.bsu.result.guardOccupied = true ∨ l.sensor = true

theorem LaneState.keptOpen.congr {a b : LaneState} (h : a.keptOpen) (pq : b.pq = a.pq) (bsu : b.bsu = a.bsu) : b.keptOpen := by
  rw [LaneState.keptOpen, LaneState.readyQueued, LaneState.sensor, pq, bsu]
  exact h

theorem LaneState.keptOpen.failedPoints {l : LaneState} (h : l.keptOpen) : l.failedPoints ≠ [] := by
  rw [Ne, ← LaneState.shutCondition_iff_failedPoints, LaneState.shutCondition_iff]
  rintro ⟨ready, guard, -, -, -, sensor, -⟩
  rcases h with on | on | on
  · exact Bool.false_ne_true (ready.symm.trans on)
  · exact Bool.false_ne_true (guard.symm.trans on)
  · exact Bool.false_ne_true (sensor.symm.trans on)

/-- Where the open condition holds the shut condition is not evaluated, or fails (R73, R75). -/
theorem LaneState.openCondition_keeps {l : LaneState} (h : l.openCondition = true) : shutMode l.lsv.mode = false ∨ l.keptOpen := by
  simp only [LaneState.openCondition, Bool.or_eq_true, Bool.and_eq_true, decide_eq_true_eq] at h
  rcases h with (ready | egress) | ⟨sensor, -⟩
  · exact .inr (.inl ready)
  · exact .inl (by rw [egress]; rfl)
  · exact .inr (.inr (.inr sensor))

/-- What begins a motion from SHUT is the open condition, and more (R73, R84). -/
theorem LaneState.openCondition_of_opensFromShut {l : LaneState} (h : l.opensFromShut = true) : l.openCondition = true := by
  simp only [LaneState.opensFromShut, LaneState.openCondition, Bool.or_eq_true, Bool.and_eq_true] at h ⊢
  rcases h with (egress | posture) | ⟨ready, -⟩
  · exact .inl (.inr egress)
  · exact .inr posture
  · exact .inl (.inl ready)

/-! ## An evaluation of the shut condition, by its outcome -/

/-- The lane with a shut evaluation and its tailgate risk shown (R77, R103). -/
def LaneState.shows (last : Option ShutEvaluation) (risk lobby secure : Bool) (l : LaneState) : LaneState :=
  { l with bc := { l.bc with last := last, risk := risk }, lsv := { l.lsv with riskLobby := lobby, riskSecure := secure } }

/-- An evaluation that does not begin a motion changes at most what is shown of it. -/
theorem evalShut_rests {e : Env} {w : Work}
    (h : w.lane.bc.state ≠ .opened ∨ shutMode w.lane.lsv.mode = false ∨ w.lane.failedPoints ≠ [] ∨ w.lane.bc.obstruct = true) :
    ∃ last risk lobby secure, evalShut e w = w.mod (LaneState.shows last risk lobby secure) := by
  by_cases evaluated : w.lane.bc.state = .opened ∧ shutMode w.lane.lsv.mode = true
  · rw [evalShut_of_fails evaluated.1 evaluated.2 ((h.resolve_left (not_not_intro evaluated.1)).resolve_left (by simp [evaluated.2]))]
    exact ⟨_, _, _, _, rfl⟩
  · rw [evalShut_of_unevaluated ((Decidable.not_and_iff_or_not.mp evaluated).imp_right Bool.eq_false_of_not_eq_true)]
    exact ⟨w.lane.bc.last, w.lane.bc.risk, w.lane.lsv.riskLobby, w.lane.lsv.riskSecure, rfl⟩

/-- An evaluation that holds off the limit leaves the lane SHUTTING. -/
theorem evalShut_shuts {e : Env} {w : Work} (opened : w.lane.bc.state = .opened) (mode : shutMode w.lane.lsv.mode = true)
    (holds : w.lane.failedPoints = []) (clear : w.lane.bc.obstruct = false) (limit : w.lane.bc.shutLimit = false) :
    evalShut e w = w.mod (LaneState.shuttingAt e.now) := by
  have recorded : (w.lane.recordEvaluation e.now).shuttingAt e.now = w.lane.shuttingAt e.now := by
    rw [LaneState.shuttingAt_eq, LaneState.shuttingAt_eq]
    rfl
  rw [evalShut_of_holds opened mode holds clear, beginShutting_of_limit_off (w := w.mod (LaneState.recordEvaluation e.now)) limit]
  exact congrArg (fun l => ({ w with lane := l } : Work)) recorded

/-- An evaluation that holds on the limit leaves the lane SHUT. -/
theorem evalShut_arrives {e : Env} {w : Work} (opened : w.lane.bc.state = .opened) (mode : shutMode w.lane.lsv.mode = true)
    (holds : w.lane.failedPoints = []) (clear : w.lane.bc.obstruct = false) (limit : w.lane.bc.shutLimit = true) :
    evalShut e w = w.takes w.lane.shutAt (jamNotices w.lane.bc.jam .shut) := by
  have recorded : (w.lane.recordEvaluation e.now).shutAt = w.lane.shutAt := by
    rw [LaneState.shutAt_eq, LaneState.shutAt_eq]
    rfl
  have jam : (w.lane.recordEvaluation e.now).bc.jam = w.lane.bc.jam := rfl
  rw [evalShut_of_holds opened mode holds clear, beginShutting_of_limit_on (w := w.mod (LaneState.recordEvaluation e.now)) limit,
    Work.mod_lane, recorded, jam]
  rfl

/-- The three outcomes of an evaluation of the shut condition. -/
theorem evalShut_cases (e : Env) (w : Work) :
    (∃ last risk lobby secure, evalShut e w = w.mod (LaneState.shows last risk lobby secure))
      ∨ evalShut e w = w.mod (LaneState.shuttingAt e.now) ∨ evalShut e w = w.takes w.lane.shutAt (jamNotices w.lane.bc.jam .shut) := by
  by_cases rests : w.lane.bc.state ≠ .opened ∨ shutMode w.lane.lsv.mode = false ∨ w.lane.failedPoints ≠ [] ∨ w.lane.bc.obstruct = true
  · exact .inl (evalShut_rests rests)
  · simp only [not_or, not_not, Bool.not_eq_false, Bool.not_eq_true] at rests
    obtain ⟨opened, mode, holds, clear⟩ := rests
    cases limit : w.lane.bc.shutLimit with
    | false => exact .inr (.inl (evalShut_shuts opened mode holds clear limit))
    | true => exact .inr (.inr (evalShut_arrives opened mode holds clear limit))

/-! ## An opening motion, by its limit -/

/-- The lane as an opening motion begins and completes in it at once (R70). -/
def LaneState.openedAtOnce (now : Nat) (l : LaneState) : LaneState := (l.openingAt now).openedAt now

theorem LaneState.openedAtOnce_eq (now : Nat) (l : LaneState) :
    l.openedAtOnce now =
      { l with
        bc :=
          { l.bc with
            state := .opened, driveOpen := false, driveShut := false, last := none, risk := false, motionEnd := none
            jamHoldEnd := l.holdAt now }
        lsv := { l.lsv with barrierMark := false, riskLobby := false, riskSecure := false } } := by
  rw [LaneState.openedAtOnce, LaneState.openedAt_eq, LaneState.openingAt_eq]
  rfl

/-- A motion that begins on its limit in a lane held open rests in OPEN. -/
theorem beginOpening_rests {e : Env} {w : Work} (limit : w.lane.bc.openLimit = true)
    (h : shutMode w.lane.lsv.mode = false ∨ w.lane.keptOpen ∨ w.lane.bc.obstruct = true) :
    ∃ last risk lobby secure, beginOpening e w = (w.mod (LaneState.openedAtOnce e.now)).mod (LaneState.shows last risk lobby secure) := by
  have arrived : beginOpening e w = evalShut e (w.mod (LaneState.openedAtOnce e.now)) := beginOpening_of_limit_on limit
  rw [arrived]
  refine evalShut_rests (.inr ?_)
  rw [Work.mod_lane]
  rcases h with off | kept | obstructed
  · exact .inl (by rw [LaneState.openedAtOnce_eq]; exact off)
  · exact .inr (.inl (LaneState.keptOpen.failedPoints (kept.congr (by rw [LaneState.openedAtOnce_eq]) (by rw [LaneState.openedAtOnce_eq]))))
  · exact .inr (.inr (by rw [LaneState.openedAtOnce_eq]; exact obstructed))

end Sys2Proof.Machine

/-! The limit and obstruction inputs: motions completed, STALLED ended, reversals counted. -/

namespace Sys2Proof.Machine

/-! ## An event of a lane and what it answers -/

/-- An event of a lane that touches no record: what its command answers. -/
theorem State.next_of_runLane {s : State} {k : Lane} {f : Env → Work → Work} {v : Work} (h : f (s.env k) (s.work k) = v)
    (creds : v.creds = s.cst.creds) :
    (Host.Outcome.next ((s.runLane k f).refresh k) : Host.Outcome State Fault Refusal)
      = .next (s.laneEvent k (v.lane.withOutputs s.rfu.slots k) v.out) :=
  congrArg Host.Outcome.next (State.laneEvent_of_runLane h creds)

/-- An event that posts nothing sets its lane alone. -/
theorem State.laneEvent_nil (s : State) (k : Lane) (l : LaneState) : s.laneEvent k l [] = s.setLane k l := rfl

/-! ## Limit levels (R70) -/

/-- The lane with OPEN_LIMIT at a level. -/
def LaneState.withOpenLimit (level : Bool) (l : LaneState) : LaneState := { l with bc := { l.bc with openLimit := level } }

/-- The lane with SHUT_LIMIT at a level. -/
def LaneState.withShutLimit (level : Bool) (l : LaneState) : LaneState := { l with bc := { l.bc with shutLimit := level } }

/-- OPEN_LIMIT becomes active: what each barrier state makes of it. -/
theorem onOpenLimit_on {e : Env} {w : Work} (off : w.lane.bc.openLimit = false) :
    onOpenLimit e true w =
      match w.lane.bc.state with
      | .opening => arriveOpen e (w.mod (LaneState.withOpenLimit true))
      | .stalled => recover e .opened (w.mod (LaneState.withOpenLimit true))
      | .shut => w.mod (LaneState.withOpenLimit true)
      | .opened => w.mod (LaneState.withOpenLimit true)
      | .shutting => w.mod (LaneState.withOpenLimit true) := by
  unfold onOpenLimit
  rw [off, if_neg Bool.false_ne_true]
  dsimp only
  rw [if_pos rfl]
  rfl

theorem onShutLimit_on {e : Env} {w : Work} (off : w.lane.bc.shutLimit = false) :
    onShutLimit e true w =
      match w.lane.bc.state with
      | .shutting => evalOpen e (arriveShut (w.mod (LaneState.withShutLimit true)))
      | .stalled => recover e .shut (w.mod (LaneState.withShutLimit true))
      | .shut => w.mod (LaneState.withShutLimit true)
      | .opened => w.mod (LaneState.withShutLimit true)
      | .opening => w.mod (LaneState.withShutLimit true) := by
  unfold onShutLimit
  rw [off, if_neg Bool.false_ne_true]
  dsimp only
  rw [if_pos rfl]
  rfl

/-- A level that is already there is the level set. -/
theorem Work.mod_withOpenLimit_self (w : Work) : w.mod (LaneState.withOpenLimit w.lane.bc.openLimit) = w := rfl

theorem Work.mod_withShutLimit_self (w : Work) : w.mod (LaneState.withShutLimit w.lane.bc.shutLimit) = w := rfl

theorem onOpenLimit_elsewhere {e : Env} {w : Work} {level : Bool}
    (h : ¬(level = true ∧ w.lane.bc.openLimit = false ∧ (w.lane.bc.state = .opening ∨ w.lane.bc.state = .stalled))) :
    onOpenLimit e level w = w.mod (LaneState.withOpenLimit level) := by
  by_cases same : w.lane.bc.openLimit = level
  · rw [onOpenLimit, if_pos same, ← same, w.mod_withOpenLimit_self]
  cases level with
  | false => exact (if_neg same).trans (if_neg Bool.false_ne_true)
  | true =>
    have off := Bool.eq_false_of_not_eq_true same
    rw [onOpenLimit_on off]
    split
    · rename_i opening
      exact absurd ⟨rfl, off, .inl opening⟩ h
    · rename_i stalled
      exact absurd ⟨rfl, off, .inr stalled⟩ h
    all_goals rfl

theorem onShutLimit_elsewhere {e : Env} {w : Work} {level : Bool}
    (h : ¬(level = true ∧ w.lane.bc.shutLimit = false ∧ (w.lane.bc.state = .shutting ∨ w.lane.bc.state = .stalled))) :
    onShutLimit e level w = w.mod (LaneState.withShutLimit level) := by
  by_cases same : w.lane.bc.shutLimit = level
  · rw [onShutLimit, if_pos same, ← same, w.mod_withShutLimit_self]
  cases level with
  | false => exact (if_neg same).trans (if_neg Bool.false_ne_true)
  | true =>
    have off := Bool.eq_false_of_not_eq_true same
    rw [onShutLimit_on off]
    split
    · rename_i shutting
      exact absurd ⟨rfl, off, .inl shutting⟩ h
    · rename_i stalled
      exact absurd ⟨rfl, off, .inr stalled⟩ h
    all_goals rfl

theorem limitElsewhereChangesLevel : Claims.LimitElsewhereChangesLevel := by
  intro k s level old
  refine ⟨fun h => ?_, fun h => ?_⟩
  · exact State.next_of_runLane (v := (s.work k).mod (LaneState.withOpenLimit level)) (onOpenLimit_elsewhere h) rfl
  · exact State.next_of_runLane (v := (s.work k).mod (LaneState.withShutLimit level)) (onShutLimit_elsewhere h) rfl

/-! ## Completed motions (R70) -/

/-- The lane of an opening motion that OPEN_LIMIT completes. -/
theorem LaneState.openedAt_withOpenLimit (now : Nat) (l : LaneState) :
    (l.withOpenLimit true).openedAt now =
      { l with
        bc :=
          { l.bc with
            openLimit := true, state := .opened, driveOpen := false, driveShut := false, motionEnd := none, jamHoldEnd := l.holdAt now }
        lsv := { l.lsv with barrierMark := false } } := LaneState.openedAt_eq ..

theorem onOpenLimit_opening {e : Env} {w : Work} (moving : w.lane.bc.state = .opening) (off : w.lane.bc.openLimit = false) :
    onOpenLimit e true w = evalShut e (w.mod fun l => (l.withOpenLimit true).openedAt e.now) := by
  rw [onOpenLimit_on off, moving]
  exact arriveOpen_eq e _

/-- No point of the shut condition fails only where no jam hold runs, so under JAM one does. -/
theorem LaneState.jam_of_holds {now : Nat} {l a : LaneState} (hold : a.bc.jamHoldEnd = l.holdAt now) (holds : a.failedPoints = []) :
    l.bc.jam = false := by
  obtain ⟨-, -, -, -, -, -, quiet⟩ := a.shutCondition_iff.mp (a.shutCondition_iff_failedPoints.mpr holds)
  rw [hold, LaneState.holdAt] at quiet
  by_contra jam
  rw [if_pos (Bool.eq_true_of_not_eq_false jam)] at quiet
  exact absurd quiet (by simp)

/-- The lane of a shut motion that SHUT_LIMIT completes. -/
theorem LaneState.shutAt_withShutLimit (l : LaneState) :
    (l.withShutLimit true).shutAt =
      { l with
        bc :=
          { l.bc with
            shutLimit := true, state := .shut, driveOpen := false, driveShut := false, last := none, risk := false, motionEnd := none
            reversals := 0, jam := false }
        lsv :=
          { l.lsv with
            barrierMark := false, riskLobby := false, riskSecure := false
            alarms := { l.lsv.alarms with jam := { active := false, silenced := false } } } } := LaneState.shutAt_eq _

theorem onShutLimit_shutting {e : Env} {w : Work} (moving : w.lane.bc.state = .shutting) (off : w.lane.bc.shutLimit = false) :
    onShutLimit e true w
      = evalOpen e ((w.mod (LaneState.withShutLimit true)).takes (w.lane.withShutLimit true).shutAt (jamNotices w.lane.bc.jam .shut)) := by
  rw [onShutLimit_on off, moving]
  exact congrArg (evalOpen e) (arriveShut_eq _)

/-- Two changes of the lane, as the work they leave. -/
theorem Work.mod_mod (w : Work) (f g : LaneState → LaneState) : (w.mod f).mod g = { w with lane := g (f w.lane) } := rfl

/-- What evaluating the open condition may make of a SHUT lane (R70, R73). -/
structure LaneState.evaluatesOpen (now : Nat) (a b : LaneState) : Prop where
  shutLimit : b.bc.shutLimit = a.bc.shutLimit
  reversals : b.bc.reversals = a.bc.reversals
  jam : b.bc.jam = a.bc.jam
  stall : b.bc.stall = a.bc.stall
  positionUnknown : b.bc.positionUnknown = a.bc.positionUnknown
  alarms : b.lsv.alarms = a.lsv.alarms
  mark : a.lsv.barrierMark = false → b.lsv.barrierMark = false
  closed : a.lsv.mode = .dark ∨ a.opensFromShut = false → b = a
  opening : a.lsv.mode ≠ .dark → a.opensFromShut = true → a.bc.openLimit = false → b = a.openingAt now
  opened : a.lsv.mode ≠ .dark → a.opensFromShut = true → a.bc.openLimit = true →
    b.bc.state = .opened ∧ b.bc.motionEnd = none ∧ b.bc.driveOpen = false ∧ b.bc.driveShut = false

theorem evalOpen_of_state_shut (e : Env) {w : Work} (shut : w.lane.bc.state = .shut) :
    ∃ l, evalOpen e w = { w with lane := l } ∧ w.lane.evaluatesOpen e.now l := by
  by_cases closed : w.lane.lsv.mode = .dark ∨ w.lane.opensFromShut = false
  · refine ⟨w.lane, evalOpen_of_shut shut closed, rfl, rfl, rfl, rfl, rfl, rfl, id, fun _ => rfl, fun lit opens => ?_, fun lit opens => ?_⟩
    all_goals exact (closed.elim lit fun off => Bool.false_ne_true (off.symm.trans opens)).elim
  rw [not_or, Bool.not_eq_false] at closed
  obtain ⟨lit, opens⟩ := closed
  have never : ¬(w.lane.lsv.mode = .dark ∨ w.lane.opensFromShut = false) := by simp [lit, opens]
  rw [evalOpen_of_opens shut lit opens]
  cases limit : w.lane.bc.openLimit with
  | false =>
    refine ⟨w.lane.openingAt e.now, beginOpening_of_limit_off limit, ?_⟩
    rw [LaneState.openingAt_eq]
    exact ⟨rfl, rfl, rfl, rfl, rfl, rfl, fun _ => rfl, fun h => absurd h never, fun _ _ _ => (LaneState.openingAt_eq ..).symm,
      fun _ _ on => absurd (limit.symm.trans on) Bool.false_ne_true⟩
  | true =>
    have kept := LaneState.openCondition_keeps (LaneState.openCondition_of_opensFromShut opens)
    obtain ⟨last, risk, lobby, secure, rests⟩ := beginOpening_rests (e := e) limit (kept.imp_right .inl)
    refine ⟨(w.lane.openedAtOnce e.now).shows last risk lobby secure, rests.trans (Work.mod_mod ..), ?_⟩
    rw [LaneState.openedAtOnce_eq]
    exact ⟨rfl, rfl, rfl, rfl, rfl, rfl, fun _ => rfl, fun h => absurd h never,
      fun _ _ off => absurd (off.symm.trans limit) Bool.false_ne_true, fun _ _ _ => ⟨rfl, rfl, rfl, rfl⟩⟩

/-- Settles O17: a completed motion is evaluated from the lane it leaves, and each outcome of the evaluation is read off. -/
theorem limitCompletesMotion : Obligations.LimitCompletesMotion := by
  refine ⟨fun k s => ?_, limitElsewhereChangesLevel⟩
  intro old held arrived
  refine ⟨fun moving off => ?_, fun moving off => ?_⟩
  · let w := (s.work k).mod fun l => (l.withOpenLimit true).openedAt s.tmb.ms
    have lane : w.lane = _ := LaneState.openedAt_withOpenLimit s.tmb.ms old
    have points : w.lane.failedPoints = arrived.failedPoints := by
      rw [lane]
      exact LaneState.failedPoints_congr rfl rfl rfl rfl rfl rfl
    have opened : w.lane.bc.state = .opened := by rw [lane]
    have completes : onOpenLimit (s.env k) true (s.work k) = evalShut (s.env k) w := onOpenLimit_opening moving off
    obtain ⟨geo, timing, bsu, ot, pq, mode, -, limit, -, -, reported, creds⟩ := evalShut_frame (s.env k) w
    refine ⟨_, _, State.next_of_runLane completes creds, ?_⟩
    rw [lane] at geo timing bsu ot pq mode limit reported
    refine ⟨limit, geo, timing, bsu, ot, reported, pq, mode, fun stays => ?_, fun on holds clear limit => ?_, fun on holds clear limit => ?_⟩
    · obtain ⟨last, risk, lobby, secure, rests⟩ := evalShut_rests (e := s.env k) (w := w) (.inr (by rw [points, lane]; exact stays))
      rw [rests, Work.mod_lane, lane]
      exact ⟨rfl, rfl, rfl, rfl, rfl, rfl, rfl⟩
    · rw [evalShut_shuts opened (by rw [lane]; exact on) (points.trans holds) (by rw [lane]; exact clear) (by rw [lane]; exact limit),
        Work.mod_lane, LaneState.shuttingAt_eq, lane]
      exact ⟨rfl, rfl, rfl, rfl, rfl⟩
    · rw [evalShut_arrives opened (by rw [lane]; exact on) (points.trans holds) (by rw [lane]; exact clear) (by rw [lane]; exact limit),
        Work.takes, LaneState.shutAt_eq, lane]
      have jam : old.bc.jam = false := LaneState.jam_of_holds (now := s.tmb.ms) rfl holds
      refine ⟨?_, rfl, rfl, rfl, rfl, rfl⟩
      show [] ++ jamNotices old.bc.jam .shut = []
      rw [jam]
      rfl
  · let w := ((s.work k).mod (LaneState.withShutLimit true)).takes (old.withShutLimit true).shutAt (jamNotices old.bc.jam .shut)
    have lane : w.lane = _ := LaneState.shutAt_withShutLimit old
    have completes : onShutLimit (s.env k) true (s.work k) = evalOpen (s.env k) w := onShutLimit_shutting moving off
    have shut : w.lane.bc.state = .shut := by rw [lane]
    obtain ⟨l, evaluated, outcome⟩ := evalOpen_of_state_shut (s.env k) shut
    obtain ⟨geo, timing, bsu, ot, pq, mode, -, -, -, -, reported, creds⟩ := evalOpen_frame (s.env k) w
    have opens : w.lane.opensFromShut = old.opensFromShut := by
      rw [lane]
      exact LaneState.opensFromShut_congr rfl rfl rfl rfl
    have event := State.next_of_runLane (f := fun e w => onShutLimit e true w) completes creds
    rw [evaluated] at geo timing bsu ot pq mode reported event
    have closed := outcome.closed
    have opening := outcome.opening
    have opened := outcome.opened
    rw [opens] at closed opening opened
    rw [lane] at geo timing bsu ot pq mode reported closed opening opened
    refine ⟨_, event, outcome.shutLimit.trans (by rw [lane]), outcome.reversals.trans (by rw [lane]), outcome.jam.trans (by rw [lane]),
      (congrArg (fun a => a.jam.active) outcome.alarms).trans (by rw [lane]), geo, timing, bsu, ot, reported, pq, mode, fun h => ?_,
      fun lit on limit => ?_, opened⟩
    · rw [closed h]
      exact ⟨rfl, rfl, rfl, rfl⟩
    · rw [opening lit on limit, LaneState.openingAt_eq]
      exact ⟨rfl, rfl, rfl, rfl⟩

end Sys2Proof.Machine

/-! STALLED ended by a limit input, and the motion timer: the notices of a barrier state that the lane's health follows. -/

namespace Sys2Proof.Machine

theorem Work.takes_takes (w : Work) (a b : LaneState) (as bs : List NoticeBody) : (w.takes a as).takes b bs = w.takes b (as ++ bs) := by
  show ({ lane := b, creds := w.creds, out := (w.out ++ as) ++ bs } : Work) = _
  rw [List.append_assoc]
  rfl

/-! ## Health (R108) -/

/-- The HEALTH notice of an event that leaves one lane for another, when the health differs. -/
def healthNotices (a b : LaneState) : List NoticeBody :=
  if b.lsv.health = a.lsv.health then [] else [.lane (.health b.lsv.health) b.lsv.mode b.lsv.policy]

theorem Work.withHealth_takes {f : Work → Work} {w : Work} {l : LaneState} {bs : List NoticeBody} (h : f w = w.takes l bs) :
    w.withHealth f = w.takes l (bs ++ healthNotices w.lane l) := by
  unfold Work.withHealth healthNotices
  dsimp only
  rw [h]
  have lane : (w.takes l bs).lane = l := rfl
  rw [lane]
  split
  · rw [List.append_nil]
  · show ({ lane := l, creds := w.creds, out := (w.out ++ bs) ++ _ } : Work) = _
    rw [List.append_assoc]
    rfl

/-- A barrier fault that ends is told of when it stood (R108). -/
theorem healthNotices_cleared {a b : LaneState} (sensor : b.lsv.sensorMark = a.lsv.sensorMark) (mark : b.lsv.barrierMark = false)
    (mode : b.lsv.mode = a.lsv.mode) (policy : b.lsv.policy = a.lsv.policy) :
    healthNotices a b =
      if a.lsv.barrierMark then [.lane (.health (if a.lsv.sensorMark then .sensor else .ok)) a.lsv.mode a.lsv.policy] else [] := by
  unfold healthNotices Lsv.health
  rw [sensor, mark, mode, policy]
  cases a.lsv.sensorMark <;> cases a.lsv.barrierMark <;> rfl

/-- A barrier fault that begins is told of when none stood (R108). -/
theorem healthNotices_raised {a b : LaneState} (sensor : b.lsv.sensorMark = a.lsv.sensorMark) (mark : b.lsv.barrierMark = true)
    (mode : b.lsv.mode = a.lsv.mode) (policy : b.lsv.policy = a.lsv.policy) :
    healthNotices a b =
      if a.lsv.barrierMark then []
      else [.lane (.health (if a.lsv.sensorMark then .sensorAndBarrier else .barrierFault)) a.lsv.mode a.lsv.policy] := by
  unfold healthNotices Lsv.health
  rw [sensor, mark, mode, policy]
  cases a.lsv.sensorMark <;> cases a.lsv.barrierMark <;> rfl

/-! ## STALLED ended by a limit input (R72) -/

/-- The lane recovered to OPEN. -/
def LaneState.openRecovered (now : Nat) (l : LaneState) : LaneState :=
  { l with
    bc :=
      { l.bc with
        state := .opened, driveOpen := false, driveShut := false, stall := false, positionUnknown := false, motionEnd := none
        jamHoldEnd := l.holdAt now }
    lsv := { l.lsv with barrierMark := false, alarms := { l.lsv.alarms with stall := l.lsv.alarms.stall.follow false } } }

/-- The lane recovered to SHUT. -/
def LaneState.shutRecovered (l : LaneState) : LaneState :=
  { l with
    bc :=
      { l.bc with
        state := .shut, driveOpen := false, driveShut := false, last := none, risk := false, stall := false, positionUnknown := false
        motionEnd := none, reversals := 0, jam := false }
    lsv :=
      { l.lsv with
        barrierMark := false, riskLobby := false, riskSecure := false
        alarms := { l.lsv.alarms with stall := l.lsv.alarms.stall.follow false, jam := { active := false, silenced := false } } } }

/-- The lane that a limit input brings from STALLED to a state, before JAM is looked at (R72). -/
def LaneState.unstalled (b : Barrier) (l : LaneState) : LaneState :=
  ((l.setBarrier b).setStall false).modBc fun c => { c with positionUnknown := false, motionEnd := none }

theorem LaneState.unstalled_opened (now : Nat) (l : LaneState) :
    (l.unstalled .opened).modBc (fun c => { c with jamHoldEnd := l.holdAt now }) = l.openRecovered now := by
  rw [LaneState.unstalled, LaneState.setBarrier_opened]
  rfl

theorem LaneState.unstalled_shut (l : LaneState) : (l.unstalled .shut).unjammed = l.shutRecovered := by
  rw [LaneState.unjammed_eq, LaneState.unstalled, LaneState.setBarrier_eq (by decide)]
  rfl

theorem LaneState.unstalled_shut_bc (l : LaneState) :
    (l.unstalled .shut).bc.state = .shut ∧ (l.unstalled .shut).bc.reversals = l.bc.reversals ∧ (l.unstalled .shut).bc.jam = l.bc.jam := by
  rw [LaneState.unstalled, LaneState.setBarrier_eq (by decide)]
  exact ⟨rfl, rfl, rfl⟩

theorem LaneState.unstalled_opened_bc (l : LaneState) :
    (l.unstalled .opened).bc.state = .opened ∧ (l.unstalled .opened).bc.reversals = l.bc.reversals
      ∧ (l.unstalled .opened).bc.jam = l.bc.jam := by
  rw [LaneState.unstalled, LaneState.setBarrier_opened]
  exact ⟨rfl, rfl, rfl⟩

/-- A barrier notice carries the state and the count of the lane as it has been left (R85). -/
theorem Work.emitBarrier_mod (w : Work) (f : LaneState → LaneState) (b : BarrierEvent) :
    (w.mod f).emitBarrier b = w.takes (f w.lane) [.barrier b (f w.lane).bc.state (f w.lane).bc.reversals] := rfl

theorem recover_opened (e : Env) (w : Work) :
    recover e .opened w =
      evalShut e (w.takes (w.lane.openRecovered e.now)
        (.barrier .recovered .opened w.lane.bc.reversals :: healthNotices w.lane (w.lane.openRecovered e.now))) := by
  obtain ⟨state, reversals, jam⟩ := w.lane.unstalled_opened_bc
  have back : ((w.mod (LaneState.unstalled .opened)).emitBarrier .recovered)
      = w.takes (w.lane.unstalled .opened) [.barrier .recovered .opened w.lane.bc.reversals] := by
    rw [Work.emitBarrier_mod, state, reversals]
  refine congrArg (evalShut e) (Work.withHealth_takes (bs := [_]) ?_)
  refine (if_neg (by decide)).trans ?_
  show (if ((w.mod (LaneState.unstalled .opened)).emitBarrier .recovered).lane.bc.jam then
      ((w.mod (LaneState.unstalled .opened)).emitBarrier .recovered).mod (LaneState.startJamHold e.now)
    else (w.mod (LaneState.unstalled .opened)).emitBarrier .recovered) = _
  rw [back, ← LaneState.unstalled_opened, LaneState.holdAt]
  show (if (w.lane.unstalled .opened).bc.jam then _ else _) = _
  rw [jam]
  split
  · rw [LaneState.unstalled, LaneState.setBarrier_opened]
    rfl
  · rw [LaneState.unstalled, LaneState.setBarrier_opened]
    rfl

theorem recover_shut (e : Env) (w : Work) :
    recover e .shut w =
      evalOpen e (w.takes w.lane.shutRecovered
        (.barrier .recovered .shut w.lane.bc.reversals :: (jamNotices w.lane.bc.jam .shut ++ healthNotices w.lane w.lane.shutRecovered))) := by
  obtain ⟨state, reversals, jam⟩ := w.lane.unstalled_shut_bc
  have back : ((w.mod (LaneState.unstalled .shut)).emitBarrier .recovered)
      = w.takes (w.lane.unstalled .shut) [.barrier .recovered .shut w.lane.bc.reversals] := by
    rw [Work.emitBarrier_mod, state, reversals]
  refine congrArg (evalOpen e) (Work.withHealth_takes (bs := _ :: jamNotices w.lane.bc.jam .shut) ?_)
  refine (if_pos rfl).trans ?_
  show clearJam ((w.mod (LaneState.unstalled .shut)).emitBarrier .recovered) = _
  rw [back, clearJam_eq]
  show (w.takes (w.lane.unstalled .shut) [_]).takes (w.lane.unstalled .shut).unjammed
    (jamNotices (w.lane.unstalled .shut).bc.jam (w.lane.unstalled .shut).bc.state) = _
  rw [Work.takes_takes, state, jam, LaneState.unstalled_shut]
  rfl

theorem onOpenLimit_stalled {e : Env} {w : Work} (stalled : w.lane.bc.state = .stalled) (off : w.lane.bc.openLimit = false) :
    onOpenLimit e true w =
      evalShut e (w.takes ((w.lane.withOpenLimit true).openRecovered e.now)
        (.barrier .recovered .opened w.lane.bc.reversals
          :: healthNotices w.lane ((w.lane.withOpenLimit true).openRecovered e.now))) := by
  rw [onOpenLimit_on off, stalled]
  exact recover_opened e _

theorem onShutLimit_stalled {e : Env} {w : Work} (stalled : w.lane.bc.state = .stalled) (off : w.lane.bc.shutLimit = false) :
    onShutLimit e true w =
      evalOpen e (w.takes (w.lane.withShutLimit true).shutRecovered
        (.barrier .recovered .shut w.lane.bc.reversals
          :: (jamNotices w.lane.bc.jam .shut ++ healthNotices w.lane (w.lane.withShutLimit true).shutRecovered))) := by
  rw [onShutLimit_on off, stalled]
  exact recover_shut e _

/-- An evaluation that finds no jam hold under JAM posts nothing. -/
theorem evalShut_out {e : Env} {w : Work} (h : w.lane.failedPoints = [] → w.lane.bc.jam = false) : (evalShut e w).out = w.out := by
  by_cases rests : w.lane.bc.state ≠ .opened ∨ shutMode w.lane.lsv.mode = false ∨ w.lane.failedPoints ≠ [] ∨ w.lane.bc.obstruct = true
  · obtain ⟨last, risk, lobby, secure, same⟩ := evalShut_rests (e := e) rests
    rw [same]
    rfl
  · simp only [not_or, not_not, Bool.not_eq_false, Bool.not_eq_true] at rests
    obtain ⟨opened, mode, holds, clear⟩ := rests
    cases limit : w.lane.bc.shutLimit with
    | false =>
      rw [evalShut_shuts opened mode holds clear limit]
      rfl
    | true =>
      rw [evalShut_arrives opened mode holds clear limit, h holds]
      exact List.append_nil _

/-- What a shut evaluation leaves alone of the barrier's faults. -/
theorem evalShut_faults (e : Env) (w : Work) :
    (evalShut e w).lane.bc.stall = w.lane.bc.stall ∧ (evalShut e w).lane.bc.positionUnknown = w.lane.bc.positionUnknown
      ∧ (evalShut e w).lane.lsv.alarms.stall = w.lane.lsv.alarms.stall
      ∧ (w.lane.lsv.barrierMark = false → (evalShut e w).lane.lsv.barrierMark = false) := by
  rcases evalShut_cases e w with ⟨last, risk, lobby, secure, same⟩ | same | same
  · rw [same]
    exact ⟨rfl, rfl, rfl, id⟩
  · rw [same, Work.mod_lane, LaneState.shuttingAt_eq]
    exact ⟨rfl, rfl, rfl, fun _ => rfl⟩
  · rw [same, Work.takes, LaneState.shutAt_eq]
    exact ⟨rfl, rfl, rfl, fun _ => rfl⟩

/-- Settles O18: the recovered lane is told of first, and the evaluation behind it posts nothing more. -/
theorem limitEndsStalled : Obligations.LimitEndsStalled := by
  intro k s old held arrived health stalled
  refine ⟨fun off => ?_, fun off => ?_⟩
  · let l := (old.withOpenLimit true).openRecovered s.tmb.ms
    have told : healthNotices old l = health := healthNotices_cleared rfl rfl rfl rfl
    let w := (s.work k).takes l (.barrier .recovered .opened old.bc.reversals :: healthNotices old l)
    have posted : w.out = .barrier .recovered .opened old.bc.reversals :: health := congrArg (_ :: ·) told
    have recovers : onOpenLimit (s.env k) true (s.work k) = evalShut (s.env k) w := onOpenLimit_stalled stalled off
    have points : w.lane.failedPoints = arrived.failedPoints := LaneState.failedPoints_congr rfl rfl rfl rfl rfl rfl
    have jam (holds : w.lane.failedPoints = []) : old.bc.jam = false := LaneState.jam_of_holds (now := s.tmb.ms) rfl holds
    obtain ⟨-, -, bsu, ot, pq, mode, -, limit, -, -, reported, creds⟩ := evalShut_frame (s.env k) w
    obtain ⟨stall, position, alarm, mark⟩ := evalShut_faults (s.env k) w
    have event := State.next_of_runLane (f := fun e w => onOpenLimit e true w) recovers creds
    rw [evalShut_out jam, posted] at event
    refine ⟨_, event, limit, stall, position, mark rfl, congrArg ConditionAlarm.active alarm, ot, reported, pq, bsu, mode, fun stays => ?_,
      fun on holds clear limit => ?_, fun on holds clear limit => ?_⟩
    · obtain ⟨last, risk, lobby, secure, rests⟩ := evalShut_rests (e := s.env k) (w := w) (.inr (by rw [points]; exact stays))
      rw [rests]
      exact ⟨rfl, rfl, rfl⟩
    · rw [evalShut_shuts rfl on (points.trans holds) clear limit, Work.mod_lane, LaneState.shuttingAt_eq]
      rfl
    · rw [evalShut_arrives rfl on (points.trans holds) clear limit, Work.takes, LaneState.shutAt_eq]
      exact ⟨rfl, rfl, rfl⟩
  · let l := (old.withShutLimit true).shutRecovered
    have told : healthNotices old l = health := healthNotices_cleared rfl rfl rfl rfl
    let w := (s.work k).takes l (.barrier .recovered .shut old.bc.reversals :: (jamNotices old.bc.jam .shut ++ healthNotices old l))
    have posted : w.out = .barrier .recovered .shut old.bc.reversals :: (jamNotices old.bc.jam .shut ++ health) :=
      congrArg (fun notices => _ :: (jamNotices old.bc.jam .shut ++ notices)) told
    have recovers : onShutLimit (s.env k) true (s.work k) = evalOpen (s.env k) w := onShutLimit_stalled stalled off
    obtain ⟨b, evaluated, outcome⟩ := evalOpen_of_state_shut (s.env k) (w := w) rfl
    obtain ⟨-, -, bsu, ot, pq, mode, -, -, -, -, reported, creds⟩ := evalOpen_frame (s.env k) w
    have opens : w.lane.opensFromShut = old.opensFromShut := LaneState.opensFromShut_congr rfl rfl rfl rfl
    have event := State.next_of_runLane (f := fun e w => onShutLimit e true w) recovers creds
    rw [evaluated] at bsu ot pq mode reported event
    dsimp only at event
    rw [posted] at event
    refine ⟨_, event, outcome.shutLimit, outcome.stall, outcome.positionUnknown, outcome.mark rfl,
      congrArg (fun a => a.stall.active) outcome.alarms, outcome.reversals, outcome.jam, ot, reported, pq, bsu, mode, fun h => ?_,
      fun lit on limit => ?_, fun lit on limit => ?_⟩
    · rw [outcome.closed (by rw [opens]; exact h)]
      exact ⟨rfl, rfl⟩
    · rw [outcome.opening lit (opens.trans on) limit, LaneState.openingAt_eq]
      rfl
    · obtain ⟨state, ended, -, -⟩ := outcome.opened lit (opens.trans on) limit
      exact ⟨state, ended⟩

end Sys2Proof.Machine

/-! OBSTRUCT and the counted reversals (R81, R82). -/

namespace Sys2Proof.Machine

/-- The lane with a reversal counted, and JAM set at the third (R81, R82). -/
def LaneState.countReversal (l : LaneState) : LaneState :=
  let raised := l.modBc fun c => { c with reversals := min 255 (l.bc.reversals + 1) }
  if l.bc.reversals = 2 then raised.setJam true else raised

/-- The notices of a counted reversal (R81, R82, R85). -/
def reversalNotices (cause : ReversalCause) (b : Barrier) (reversals : Nat) : List NoticeBody :=
  .barrier (.reversed cause) b (min 255 (reversals + 1)) :: if reversals = 2 then [.barrier .jam b 3] else []

theorem LaneState.countReversal_bc (l : LaneState) :
    l.countReversal.bc = { l.bc with reversals := min 255 (l.bc.reversals + 1), jam := l.bc.jam || decide (l.bc.reversals = 2) } := by
  unfold LaneState.countReversal
  dsimp only
  split
  · rename_i third
    simp [LaneState.setJam, LaneState.setCondition, third]
  · rename_i other
    simp [other]

/-- Counting a reversal touches nothing of the lane but the barrier's count, JAM, and JAM's condition kind. -/
theorem LaneState.countReversal_frame (l : LaneState) :
    l.countReversal = { l with bc := l.countReversal.bc, lsv := { l.lsv with alarms := l.countReversal.lsv.alarms } } := by
  unfold LaneState.countReversal
  dsimp only
  split <;> rfl

/-- The change that a counted reversal begins with. -/
theorem countedReversal_counts (w : Work) :
    (w.mod fun l =>
      let raised := l.modBc fun c => { c with reversals := min 255 (w.lane.bc.reversals + 1) }
      if decide (w.lane.bc.reversals + 1 = 3) then raised.setJam true else raised) = w.mod LaneState.countReversal := by
  have third : (w.lane.bc.reversals + 1 = 3) = (w.lane.bc.reversals = 2) := by simp
  simp only [third, decide_eq_true_eq]
  rfl

/-- Behind the count a reversal is an opening motion, with notices. -/
theorem countedReversal_begins (e : Env) (cause : ReversalCause) (w : Work) :
    (countedReversal e cause w).lane = (beginOpening e (w.mod LaneState.countReversal)).lane
      ∧ (countedReversal e cause w).creds = (beginOpening e (w.mod LaneState.countReversal)).creds := by
  unfold countedReversal
  dsimp only
  rw [countedReversal_counts]
  split <;> exact ⟨rfl, rfl⟩

theorem countedReversal_eq {e : Env} {w v : Work} (cause : ReversalCause) (begun : beginOpening e (w.mod LaneState.countReversal) = v)
    (count : v.lane.bc.reversals = min 255 (w.lane.bc.reversals + 1)) :
    countedReversal e cause w = v.takes v.lane (reversalNotices cause v.lane.bc.state w.lane.bc.reversals) := by
  have third : (w.lane.bc.reversals + 1 = 3) = (w.lane.bc.reversals = 2) := by simp
  unfold countedReversal reversalNotices
  dsimp only
  rw [countedReversal_counts, begun]
  simp only [third, decide_eq_true_eq]
  split
  · rename_i two
    have three : v.lane.bc.reversals = 3 := by
      rw [count, two]
      rfl
    rw [← count]
    show ({ lane := v.lane, creds := v.creds, out := (v.out ++ [_]) ++ [_] } : Work) = _
    rw [List.append_assoc, ← three]
    rfl
  · rw [← count]
    rfl

/-- The lane that a counted reversal sets OPENING (R81). -/
def LaneState.reversing (now : Nat) (alarms : AlarmSet) (l : LaneState) : LaneState :=
  { l with
    bc :=
      { l.bc with
        state := .opening, driveOpen := true, driveShut := false, last := none, risk := false
        motionEnd := some (now + 2 * l.timing.topen), reversals := min 255 (l.bc.reversals + 1)
        jam := l.bc.jam || decide (l.bc.reversals = 2) }
    lsv := { l.lsv with barrierMark := false, riskLobby := false, riskSecure := false, alarms := alarms } }

/-- The lane that a counted reversal on the open limit brings to OPEN at once (R70, R81). -/
def LaneState.reversedAtOnce (now : Nat) (alarms : AlarmSet) (l : LaneState) : LaneState :=
  { l with
    bc :=
      { l.bc with
        state := .opened, driveOpen := false, driveShut := false, last := none, risk := false, motionEnd := none
        reversals := min 255 (l.bc.reversals + 1), jam := l.bc.jam || decide (l.bc.reversals = 2)
        jamHoldEnd :=
          if l.bc.jam || decide (l.bc.reversals = 2) then some (now + l.timing.jamHold * 1000) else l.bc.jamHoldEnd }
    lsv := { l.lsv with barrierMark := false, riskLobby := false, riskSecure := false, alarms := alarms } }

theorem LaneState.openingAt_countReversal (now : Nat) (l : LaneState) :
    l.countReversal.openingAt now = l.reversing now l.countReversal.lsv.alarms := by
  rw [LaneState.openingAt_eq, LaneState.countReversal_frame, LaneState.countReversal_bc]
  rfl

theorem LaneState.openedAtOnce_countReversal (now : Nat) (l : LaneState) :
    l.countReversal.openedAtOnce now = l.reversedAtOnce now l.countReversal.lsv.alarms := by
  rw [LaneState.openedAtOnce_eq, LaneState.holdAt, LaneState.countReversal_frame, LaneState.countReversal_bc]
  rfl

/-- A counted reversal off the open limit sets the lane OPENING. -/
theorem countedReversal_moves {e : Env} {w : Work} (cause : ReversalCause) (limit : w.lane.bc.openLimit = false) :
    countedReversal e cause w =
      w.takes (w.lane.reversing e.now w.lane.countReversal.lsv.alarms) (reversalNotices cause .opening w.lane.bc.reversals) := by
  have begun : beginOpening e (w.mod LaneState.countReversal)
      = { w with lane := w.lane.reversing e.now w.lane.countReversal.lsv.alarms } := by
    rw [beginOpening_of_limit_off (by rw [Work.mod_lane, LaneState.countReversal_bc]; exact limit), ← LaneState.openingAt_countReversal]
    rfl
  exact countedReversal_eq cause begun rfl

/-- On the open limit it brings the lane to OPEN, and the shut condition is evaluated there; one that fails moves nothing. -/
theorem countedReversal_rests {e : Env} {w : Work} (cause : ReversalCause) (limit : w.lane.bc.openLimit = true)
    (h : shutMode w.lane.lsv.mode = false ∨ w.lane.keptOpen ∨ w.lane.bc.obstruct = true) :
    ∃ last risk lobby secure,
      (evalShut e { w with lane := w.lane.reversedAtOnce e.now w.lane.countReversal.lsv.alarms }).lane
        = (w.lane.reversedAtOnce e.now w.lane.countReversal.lsv.alarms).shows last risk lobby secure
      ∧ countedReversal e cause w =
          w.takes ((w.lane.reversedAtOnce e.now w.lane.countReversal.lsv.alarms).shows last risk lobby secure)
            (reversalNotices cause .opened w.lane.bc.reversals) := by
  have begun : beginOpening e (w.mod LaneState.countReversal)
      = evalShut e { w with lane := w.lane.reversedAtOnce e.now w.lane.countReversal.lsv.alarms } := by
    have lane : (w.mod LaneState.countReversal).mod (LaneState.openedAtOnce e.now)
        = { w with lane := w.lane.reversedAtOnce e.now w.lane.countReversal.lsv.alarms } := by
      rw [← LaneState.openedAtOnce_countReversal]
      rfl
    have arrived := beginOpening_of_limit_on (e := e) (w := w.mod LaneState.countReversal)
      (by rw [Work.mod_lane, LaneState.countReversal_bc]; exact limit)
    exact arrived.trans (congrArg (evalShut e) lane)
  have kept : w.lane.keptOpen → (w.lane.reversedAtOnce e.now w.lane.countReversal.lsv.alarms).keptOpen := fun k => k.congr rfl rfl
  obtain ⟨last, risk, lobby, secure, rests⟩ :=
    evalShut_rests (e := e) (w := { w with lane := w.lane.reversedAtOnce e.now w.lane.countReversal.lsv.alarms })
      (.inr (h.imp_right (.imp_left fun k => (kept k).failedPoints)))
  refine ⟨last, risk, lobby, secure, by rw [rests]; rfl, ?_⟩
  exact countedReversal_eq cause (begun.trans rests) rfl

/-- The lane with OBSTRUCT at a level. -/
def LaneState.withObstruct (level : Bool) (l : LaneState) : LaneState := { l with bc := { l.bc with obstruct := level } }

theorem onObstruct_shutting {e : Env} {w : Work} (moving : w.lane.bc.state = .shutting) (off : w.lane.bc.obstruct = false) :
    onObstruct e true w = countedReversal e .obstruct (w.mod (LaneState.withObstruct true)) := by
  unfold onObstruct
  rw [off, if_neg Bool.false_ne_true]
  exact if_pos ⟨rfl, moving⟩

theorem onObstruct_elsewhere {e : Env} {w : Work} {level : Bool} (change : w.lane.bc.obstruct ≠ level)
    (h : ¬(level = true ∧ w.lane.bc.state = .shutting)) : onObstruct e level w = w.mod (LaneState.withObstruct level) := by
  unfold onObstruct
  rw [if_neg change]
  exact if_neg h

/-- What an obstructed lane that has come to OPEN shows of its evaluation, in a mode in which there is one. -/
theorem evaluation_shown {e : Env} {w : Work} {a : LaneState} {last : Option ShutEvaluation} {risk lobby secure : Bool}
    (shown : (evalShut e w).lane = a.shows last risk lobby secure) (opened : w.lane.bc.state = .opened) (obstructed : w.lane.bc.obstruct = true)
    (fresh : w.lane.bc.last = none ∧ w.lane.bc.risk = false) :
    last = (if shutMode w.lane.lsv.mode then
        some { time := e.now, failed := w.lane.failedPoints, assessed := w.lane.assessments, obstruct := true } else none)
      ∧ risk = (shutMode w.lane.lsv.mode && !w.lane.failedPoints.contains 1 && w.lane.failedPoints.contains 5) := by
  have last' : (evalShut e w).lane.bc.last = last := by rw [shown]; rfl
  have risk' : (evalShut e w).lane.bc.risk = risk := by rw [shown]; rfl
  rw [← last', ← risk']
  cases mode : shutMode w.lane.lsv.mode with
  | false =>
    rw [evalShut_of_unevaluated (.inr mode)]
    exact fresh
  | true =>
    rw [evalShut_of_fails opened mode (.inr obstructed)]
    refine ⟨?_, rfl⟩
    show some ({ time := e.now, failed := _, assessed := _, obstruct := w.lane.bc.obstruct } : ShutEvaluation) = _
    rw [obstructed]
    rfl

/-- Settles O19: the reversal is counted on the lane with its obstruction, which stops any shut motion behind it. -/
theorem obstructReversesShutting : Obligations.ObstructReversesShutting := by
  intro k s old
  refine ⟨fun moving clear limit => ?_, fun moving clear limit => ?_, fun level change h => ?_⟩
  · have reverses := (onObstruct_shutting (e := s.env k) (w := s.work k) moving clear).trans (countedReversal_moves .obstruct limit)
    exact ⟨_, State.next_of_runLane (f := fun e w => onObstruct e true w) reverses rfl, rfl, rfl, rfl, rfl, rfl, rfl, rfl, rfl, rfl, rfl,
      rfl, rfl, rfl, rfl⟩
  · intro count jam hold arrived
    let w := (s.work k).mod (LaneState.withObstruct true)
    obtain ⟨last, risk, lobby, secure, shown, rests⟩ :=
      countedReversal_rests (e := s.env k) (w := w) .obstruct limit (.inr (.inr rfl))
    have reverses := (onObstruct_shutting (e := s.env k) (w := s.work k) moving clear).trans rests
    refine ⟨_, State.next_of_runLane (f := fun e w => onObstruct e true w) reverses rfl, ?_, rfl, rfl, rfl, rfl, rfl, rfl, rfl⟩
    obtain ⟨lastShown, riskShown⟩ := evaluation_shown shown rfl rfl ⟨rfl, rfl⟩
    have points : (w.lane.reversedAtOnce (s.env k).now w.lane.countReversal.lsv.alarms).failedPoints = arrived.failedPoints :=
      LaneState.failedPoints_congr rfl rfl rfl rfl rfl rfl
    have assessed : (w.lane.reversedAtOnce (s.env k).now w.lane.countReversal.lsv.alarms).assessments = arrived.assessments :=
      LaneState.assessments_congr rfl rfl rfl
    dsimp only at lastShown riskShown
    rw [points] at lastShown riskShown
    rw [assessed] at lastShown
    rw [lastShown, riskShown]
    rfl
  · exact State.next_of_runLane (v := (s.work k).mod (LaneState.withObstruct level)) (onObstruct_elsewhere change h) rfl

end Sys2Proof.Machine

/-! The barrier's timers, and its frame event. -/

namespace Sys2Proof.Machine

/-! ## The motion timer (R71) -/

/-- The lane that its motion timer stalls. -/
def LaneState.stalledOut (l : LaneState) : LaneState :=
  { l with
    bc :=
      { l.bc with
        state := .stalled, driveOpen := false, driveShut := false, last := none, risk := false, stall := true, positionUnknown := false
        motionEnd := none }
    lsv :=
      { l.lsv with
        barrierMark := true, riskLobby := false, riskSecure := false
        alarms := { l.lsv.alarms with stall := l.lsv.alarms.stall.follow true } } }

theorem stallMotion_of_due {e : Env} {w : Work} {m : Motion} {t : Nat} (moving : w.lane.bc.state.motion = some m)
    (running : w.lane.bc.motionEnd = some t) (late : t ≤ e.now) :
    stallMotion e w =
      w.takes w.lane.stalledOut (.barrier (.stalled m) .stalled w.lane.bc.reversals :: healthNotices w.lane w.lane.stalledOut) := by
  have stalled : ((w.lane.setBarrier .stalled).setStall true).modBc (fun c => { c with positionUnknown := false, motionEnd := none })
      = w.lane.stalledOut := by
    rw [LaneState.setBarrier_eq (by decide)]
    rfl
  rw [stallMotion, moving, running]
  refine (if_pos (decide_eq_true late)).trans (Work.withHealth_takes (bs := [_]) ?_)
  exact congrArg (fun l => ({ w with lane := l } : Work).emitBarrier (.stalled m)) stalled

theorem motionTimeoutStalls : Claims.MotionTimeoutStalls := by
  intro k s m t old moving running late
  have motion : old.bc.state.motion = some m := by rw [moving]; cases m <;> rfl
  have stalls := stallMotion_of_due (e := s.env k) (w := s.work k) motion running late
  rw [healthNotices_raised (a := (s.work k).lane) (b := (s.work k).lane.stalledOut) rfl rfl rfl rfl] at stalls
  exact ⟨_, State.next_of_runLane (f := fun e w => stallMotion e w) stalls rfl, rfl, rfl, rfl, rfl, rfl, rfl, rfl, rfl, rfl, rfl, rfl, rfl,
    rfl, rfl, rfl, rfl, rfl⟩

/-! ## The jam hold (R82) -/

theorem evalShut_jamHoldEnd (e : Env) (w : Work) : (evalShut e w).lane.bc.jamHoldEnd = w.lane.bc.jamHoldEnd := by
  rcases evalShut_cases e w with ⟨last, risk, lobby, secure, same⟩ | same | same
  · rw [same]
    rfl
  · rw [same, Work.mod_lane, LaneState.shuttingAt_eq]
  · rw [same, Work.takes, LaneState.shutAt_eq]

theorem endJamHold_of_due {e : Env} {w : Work} {t : Nat} (running : w.lane.bc.jamHoldEnd = some t) (late : t ≤ e.now) :
    endJamHold e w = evalShut e (w.mod fun l => { l with bc := { l.bc with jamHoldEnd := none } }) := by
  rw [endJamHold, running]
  exact if_pos (decide_eq_true late)

theorem jamHoldEndTriesShut : Claims.JamHoldEndTriesShut := by
  intro k s t old released running late
  let w := (s.work k).mod fun l => { l with bc := { l.bc with jamHoldEnd := none } }
  have ends : endJamHold (s.env k) (s.work k) = evalShut (s.env k) w := endJamHold_of_due running late
  obtain ⟨-, -, bsu, ot, pq, -, -, -, -, -, reported, creds⟩ := evalShut_frame (s.env k) w
  have event := State.next_of_runLane (f := fun e w => endJamHold e w) ends creds
  refine ⟨fun h => ?_, fun opened on => ⟨_, _, event, ot, reported, pq, bsu, evalShut_jamHoldEnd (s.env k) w, fun h => ?_,
    fun holds clear limit => ?_⟩⟩
  · rw [evalShut_of_unevaluated (w := w) h] at event
    exact event
  · rw [evalShut_of_fails (w := w) opened on h]
    exact ⟨rfl, opened, rfl⟩
  · rw [evalShut_shuts (w := w) opened on holds clear limit, Work.mod_lane, LaneState.shuttingAt_eq]
    exact ⟨rfl, rfl, rfl, rfl, rfl⟩

/-! ## What the frame event touches -/

theorem Work.barrierFrame_emit {w v : Work} (h : w.barrierFrame v) (b : NoticeBody) : w.barrierFrame (v.emit b) := h

theorem LaneState.countReversal_barrierFrame (w : Work) : w.barrierFrame (w.mod LaneState.countReversal) := by
  rw [Work.barrierFrame, Work.mod_lane, LaneState.countReversal_frame, LaneState.countReversal_bc]
  exact ⟨rfl, rfl, rfl, rfl, rfl, rfl, rfl, rfl, rfl, rfl, rfl, rfl⟩

theorem countedReversal_frame (e : Env) (cause : ReversalCause) (w : Work) : w.barrierFrame (countedReversal e cause w) := by
  have moved := Work.barrierFrame_trans (LaneState.countReversal_barrierFrame w) (beginOpening_frame e (w.mod LaneState.countReversal))
  obtain ⟨lane, creds⟩ := countedReversal_begins e cause w
  rw [Work.barrierFrame, lane, creds]
  exact moved

theorem actOnFrame_frame (e : Env) (w : Work) : w.barrierFrame (actOnFrame e w) := by
  unfold actOnFrame
  split
  · split
    · exact countedReversal_frame e _ w
    · split
      · exact beginOpening_frame e w
      · exact evalOpen_frame e w
  · exact evalOpen_frame e w
  · exact evalShut_frame e w
  all_goals exact w.barrierFrame_refl

theorem evalShut_posture (e : Env) (w : Work) : (evalShut e w).lane.bc.posture = w.lane.bc.posture := by
  rcases evalShut_cases e w with ⟨last, risk, lobby, secure, same⟩ | same | same
  · rw [same]
    rfl
  · rw [same, Work.mod_lane, LaneState.shuttingAt_eq]
  · rw [same, Work.takes, LaneState.shutAt_eq]

theorem beginOpening_posture (e : Env) (w : Work) : (beginOpening e w).lane.bc.posture = w.lane.bc.posture := by
  cases limit : w.lane.bc.openLimit with
  | false => rw [beginOpening_of_limit_off limit, Work.mod_lane, LaneState.openingAt_eq]
  | true =>
    rw [beginOpening_of_limit_on limit, evalShut_posture]
    exact congrArg (fun l => l.bc.posture) (LaneState.openedAtOnce_eq e.now w.lane)

theorem evalOpen_posture (e : Env) (w : Work) : (evalOpen e w).lane.bc.posture = w.lane.bc.posture := by
  unfold evalOpen
  split
  · rfl
  · split
    · split
      · exact beginOpening_posture e w
      · rfl
    · split
      · exact beginOpening_posture e w
      · rfl
    all_goals rfl

theorem actOnFrame_posture (e : Env) (w : Work) : (actOnFrame e w).lane.bc.posture = w.lane.bc.posture := by
  unfold actOnFrame
  split
  · split
    · rw [(countedReversal_begins e _ w).1, beginOpening_posture, Work.mod_lane, LaneState.countReversal_bc]
    · split
      · exact beginOpening_posture e w
      · exact evalOpen_posture e w
  · exact evalOpen_posture e w
  · exact evalShut_posture e w
  all_goals rfl

/-! ## The frame event (R76) -/

/-- A lane whose opening motion has begun, or, on the limit, completed (R70). -/
def LaneState.opens (now : Nat) (a b : LaneState) : Prop :=
  b.bc.driveShut = false
    ∧ (a.bc.openLimit = false → b.bc.state = .opening ∧ b.bc.motionEnd = some (now + 2 * a.timing.topen) ∧ b.bc.driveOpen = true)
    ∧ (a.bc.openLimit = true → b.bc.state = .opened ∧ b.bc.motionEnd = none ∧ b.bc.driveOpen = false)

/-- An opening motion of a lane held open: it moves or rests, and posts nothing. -/
theorem beginOpening_opens {e : Env} {w : Work} (h : shutMode w.lane.lsv.mode = false ∨ w.lane.keptOpen ∨ w.lane.bc.obstruct = true) :
    w.lane.opens e.now (beginOpening e w).lane ∧ (beginOpening e w).lane.bc.reversals = w.lane.bc.reversals
      ∧ (beginOpening e w).lane.bc.jam = w.lane.bc.jam ∧ (beginOpening e w).out = w.out := by
  cases limit : w.lane.bc.openLimit with
  | false =>
    rw [LaneState.opens, limit, beginOpening_of_limit_off limit, Work.mod_lane, LaneState.openingAt_eq]
    exact ⟨⟨rfl, fun _ => ⟨rfl, rfl, rfl⟩, fun on => absurd on Bool.false_ne_true⟩, rfl, rfl, rfl⟩
  | true =>
    obtain ⟨last, risk, lobby, secure, rests⟩ := beginOpening_rests (e := e) limit h
    rw [LaneState.opens, limit, rests, Work.mod_mod, LaneState.openedAtOnce_eq]
    exact ⟨⟨rfl, fun off => absurd off.symm Bool.false_ne_true, fun _ => ⟨rfl, rfl, rfl⟩⟩, rfl, rfl, rfl⟩

/-- A counted reversal of a lane held open. -/
theorem countedReversal_opens {e : Env} {w : Work} (cause : ReversalCause)
    (h : shutMode w.lane.lsv.mode = false ∨ w.lane.keptOpen ∨ w.lane.bc.obstruct = true) :
    w.lane.opens e.now (countedReversal e cause w).lane
      ∧ (countedReversal e cause w).lane.bc.reversals = min 255 (w.lane.bc.reversals + 1)
      ∧ (countedReversal e cause w).lane.bc.jam = (w.lane.bc.jam || decide (w.lane.bc.reversals = 2))
      ∧ (countedReversal e cause w).out =
          w.out ++ reversalNotices cause (if w.lane.bc.openLimit then .opened else .opening) w.lane.bc.reversals := by
  cases limit : w.lane.bc.openLimit with
  | false =>
    rw [LaneState.opens, limit, countedReversal_moves cause limit]
    exact ⟨⟨rfl, fun _ => ⟨rfl, rfl, rfl⟩, fun on => absurd on Bool.false_ne_true⟩, rfl, rfl, rfl⟩
  | true =>
    obtain ⟨last, risk, lobby, secure, -, rests⟩ := countedReversal_rests (e := e) cause limit h
    rw [LaneState.opens, limit, rests]
    exact ⟨⟨rfl, fun off => absurd off.symm Bool.false_ne_true, fun _ => ⟨rfl, rfl, rfl⟩⟩, rfl, rfl, rfl⟩

theorem actOnFrame_guarded {e : Env} {w : Work} (moving : w.lane.bc.state = .shutting) (guard : w.lane.bsu.result.guardOccupied = true) :
    actOnFrame e w = countedReversal e .guardZone w := by
  rw [actOnFrame, moving]
  exact if_pos guard

/-- Off the guard zone a shut motion is reversed in the SENSOR condition, or on the open condition. -/
theorem actOnFrame_reverses {e : Env} {w : Work} (moving : w.lane.bc.state = .shutting) (free : w.lane.bsu.result.guardOccupied = false)
    (h : w.lane.sensor = true ∨ (w.lane.lsv.mode ≠ .dark ∧ w.lane.openCondition = true)) : actOnFrame e w = beginOpening e w := by
  rw [actOnFrame, moving]
  dsimp only
  rw [free, if_neg Bool.false_ne_true]
  split
  · rfl
  · rename_i sensor
    obtain ⟨lit, opens⟩ := h.resolve_left sensor
    exact evalOpen_of_reopens moving lit opens

theorem actOnFrame_goesOn {e : Env} {w : Work} (moving : w.lane.bc.state = .shutting) (free : w.lane.bsu.result.guardOccupied = false)
    (sensor : w.lane.sensor = false) (h : w.lane.lsv.mode = .dark ∨ w.lane.openCondition = false) : actOnFrame e w = w := by
  rw [actOnFrame, moving]
  dsimp only
  rw [free, sensor, if_neg Bool.false_ne_true, if_neg Bool.false_ne_true]
  exact evalOpen_of_shutting moving h

theorem actOnFrame_shut {e : Env} {w : Work} (shut : w.lane.bc.state = .shut) : actOnFrame e w = evalOpen e w := by rw [actOnFrame, shut]

theorem actOnFrame_opened {e : Env} {w : Work} (opened : w.lane.bc.state = .opened) : actOnFrame e w = evalShut e w := by
  rw [actOnFrame, opened]

theorem actOnFrame_else {e : Env} {w : Work} (h : w.lane.bc.state = .opening ∨ w.lane.bc.state = .stalled) : actOnFrame e w = w := by
  rcases h with state | state <;> rw [actOnFrame, state]

theorem LaneState.keptOpen_of_reverses {l : LaneState} (h : l.sensor = true ∨ (l.lsv.mode ≠ .dark ∧ l.openCondition = true)) :
    shutMode l.lsv.mode = false ∨ l.keptOpen := by
  rcases h with sensor | ⟨-, opens⟩
  · exact .inr (.inr (.inr sensor))
  · exact LaneState.openCondition_keeps opens

/-- What an evaluation that holds leaves, off the shut limit and on it. -/
theorem evalShut_outcome {e : Env} {w : Work} (opened : w.lane.bc.state = .opened) (mode : shutMode w.lane.lsv.mode = true)
    (holds : w.lane.failedPoints = []) (clear : w.lane.bc.obstruct = false) :
    (evalShut e w).lane.bc.last = none ∧ (evalShut e w).lane.bc.risk = false ∧ (evalShut e w).lane.lsv.riskLobby = false
      ∧ (evalShut e w).lane.lsv.riskSecure = false
      ∧ (w.lane.bc.shutLimit = false →
          (evalShut e w).out = w.out ∧ (evalShut e w).lane.bc.state = .shutting
          ∧ (evalShut e w).lane.bc.motionEnd = some (e.now + 2 * w.lane.timing.tc) ∧ (evalShut e w).lane.bc.driveShut = true
          ∧ (evalShut e w).lane.bc.driveOpen = false)
      ∧ (w.lane.bc.shutLimit = true →
          (evalShut e w).out = w.out ++ jamNotices w.lane.bc.jam .shut ∧ (evalShut e w).lane.bc.state = .shut
          ∧ (evalShut e w).lane.bc.motionEnd = none ∧ (evalShut e w).lane.bc.reversals = 0 ∧ (evalShut e w).lane.bc.jam = false) := by
  cases limit : w.lane.bc.shutLimit with
  | false =>
    rw [evalShut_shuts opened mode holds clear limit, Work.mod_lane, LaneState.shuttingAt_eq]
    exact ⟨rfl, rfl, rfl, rfl, fun _ => ⟨rfl, rfl, rfl, rfl, rfl⟩, fun h => absurd h Bool.false_ne_true⟩
  | true =>
    rw [evalShut_arrives opened mode holds clear limit, Work.takes, LaneState.shutAt_eq]
    exact ⟨rfl, rfl, rfl, rfl, fun h => absurd h.symm Bool.false_ne_true, fun _ => ⟨rfl, rfl, rfl, rfl, rfl⟩⟩

theorem frameMovesBarrier : Claims.FrameMovesBarrier := by
  intro e w l held t opens stays
  let v := w.mod LaneState.takePosture
  have points : v.lane.failedPoints = l.failedPoints := l.takePosture_failedPoints
  refine ⟨?_, fun moving guard => ?_, fun moving free h => ?_, fun moving free sensor h => ?_, fun shut h => ?_, fun shut lit on => ?_,
    fun opened off => ?_, fun opened on h => ?_, fun opened on holds clear => ?_, fun h => ?_⟩
  · obtain ⟨geo, timing, bsu, ot, pq, mode, policy, -, -, -, reported, creds⟩ := actOnFrame_frame e v
    exact ⟨actOnFrame_posture e v, creds, geo, timing, bsu, ot, reported, pq, mode, policy⟩
  · have acts : t = _ := actOnFrame_guarded (e := e) (w := v) moving guard
    have told := countedReversal_opens (e := e) (w := v) .guardZone (.inr (.inl (.inr (.inl guard))))
    rw [← acts] at told
    exact told
  · have acts : t = _ := actOnFrame_reverses (e := e) (w := v) moving free h
    have told := beginOpening_opens (e := e) (w := v) ((LaneState.keptOpen_of_reverses (l := held) h).imp_right .inl)
    rw [← acts] at told
    exact told
  · exact actOnFrame_goesOn (e := e) (w := v) moving free sensor h
  · exact (actOnFrame_shut (e := e) (w := v) shut).trans (evalOpen_of_shut shut h)
  · have acts : t = _ := (actOnFrame_shut (e := e) (w := v) shut).trans (evalOpen_of_opens shut lit on)
    obtain ⟨begun, -, -, out⟩ := beginOpening_opens (e := e) (w := v)
      ((LaneState.openCondition_keeps (LaneState.openCondition_of_opensFromShut on)).imp_right .inl)
    rw [← acts] at begun out
    exact ⟨begun, out⟩
  · exact (actOnFrame_opened (e := e) (w := v) opened).trans (evalShut_of_unevaluated (.inr off))
  · have acts : t = _ := (actOnFrame_opened (e := e) (w := v) opened).trans (evalShut_of_fails opened on (by rw [points]; exact h))
    rw [acts]
    exact ⟨rfl, opened, rfl, rfl, rfl, rfl, rfl⟩
  · have evaluates : t = evalShut e v := actOnFrame_opened (e := e) (w := v) opened
    rw [evaluates]
    exact evalShut_outcome (w := v) opened on (points.trans holds) clear
  · exact actOnFrame_else (e := e) (w := v) h

/-! ## The conditions of the barrier (R73, R75, R103) -/

theorem LaneState.mem_failedPoints (l : LaneState) (n : Nat) :
    n ∈ l.failedPoints ↔
      (n = 1 ∧ l.readyQueued = true) ∨ (n = 2 ∧ l.bsu.result.guardOccupied = true) ∨ (n = 3 ∧ l.ot.untracked = true)
        ∨ (n = 4 ∧ l.ot.tracks.any (holdsOpen l.geo) = true) ∨ (n = 5 ∧ (l.assessments.any fun a => !a.feasible) = true)
        ∨ (n = 6 ∧ l.sensor = true) ∨ (n = 7 ∧ l.bc.jamHoldEnd.isSome = true) := by
  have turn (m : Nat) (b : Bool) : (if b = true then some m else none) = some n ↔ n = m ∧ b = true := by
    cases b <;> simp [eq_comm]
  rw [LaneState.failedPoints, List.mem_filterMap]
  simp only [List.mem_cons, List.not_mem_nil, or_false, or_and_right, exists_or, exists_eq_left, turn]

/-- Table 4-4 is gone through in the order of its numbers. -/
theorem LaneState.failedPoints_pairwise (l : LaneState) : l.failedPoints.Pairwise fun a b => a < b := by
  rw [LaneState.failedPoints, List.pairwise_filterMap]
  simp

theorem LaneState.readyQueued_iff (l : LaneState) : l.readyQueued = true ↔ ∃ p ∈ l.pq.permits, p.state = .ready := by
  simp [LaneState.readyQueued]

theorem LaneState.sensor_iff (l : LaneState) :
    l.sensor = true ↔ l.bsu.causes.chainFault = true ∨ l.bsu.causes.guardStuck = true ∨ l.bsu.causes.overLimit = true := by
  rw [LaneState.sensor, SensorCauses.any, Bool.or_eq_true, Bool.or_eq_true, or_assoc]

theorem holdsOpen_iff (g : Geometry) (x : Track) :
    holdsOpen g x = true ↔
      x.bound ≠ none ∧ x.crossed = true
        ∧ ((x.dir = some .entry ∧ x.ext.lo * g.p < g.f * g.p + g.sz * g.p)
          ∨ (x.dir = some .exit ∧ (g.nb - 1 - x.ext.hi) * g.p < (g.nb - g.f) * g.p + g.sz * g.p)) := by
  rw [← Option.isSome_iff_ne_none]
  unfold holdsOpen
  cases dir : x.dir with
  | none => simp
  | some d =>
    simp only [Bool.and_eq_true, decide_eq_true_eq, and_assoc]
    cases d <;> simp [Geometry.trail, Geometry.ulo, Geometry.xf, Geometry.fd]

theorem barrierConditions : Claims.BarrierConditions := by
  intro l ready sensor holds fails
  have readies := l.readyQueued_iff
  have senses := l.sensor_iff
  have point (n : Nat) : fails n ↔ _ := l.mem_failedPoints n
  refine ⟨(point 1).trans ?_, (point 2).trans ?_, (point 3).trans ?_, (point 4).trans ?_, (point 5).trans ?_, (point 6).trans ?_,
    (point 7).trans ?_, fun n h => ?_, l.failedPoints_pairwise, ?_, ?_⟩
  · simpa using readies
  · simp
  · simp
  · simp [holdsOpen_iff, holds]
  · simp
  · simpa using senses
  · simp [Option.isSome_iff_ne_none]
  · have some := (point n).mp h
    omega
  · simp only [LaneState.openCondition, Bool.or_eq_true, Bool.and_eq_true, decide_eq_true_eq, readies, senses, or_assoc]
    rfl
  · have held : (!(l.sensor && decide (l.bc.posture = .hold))) = true ↔ ¬(l.sensor = true ∧ l.bc.posture = .hold) := by
      rw [Bool.not_eq_true', ← Bool.not_eq_true, Bool.and_eq_true, decide_eq_true_eq]
    simp only [LaneState.opensFromShut, Bool.or_eq_true, Bool.and_eq_true, decide_eq_true_eq, held, readies, senses, or_assoc]
    rfl

/-- The two sides of a shut evaluation's tailgate risk (R103). -/
theorem evaluationShowsRisk : Claims.EvaluationShowsRisk := by
  intro now l r risk infeasible
  have shown : r.bc.risk = true ↔ risk := by simp [r, risk, LaneState.recordEvaluation]
  have lobby : r.lsv.riskLobby = (r.bc.risk && (riskSides l.pq.claim l.assessments).1) := rfl
  have secure : r.lsv.riskSecure = (r.bc.risk && (riskSides l.pq.claim l.assessments).2) := rfl
  refine ⟨rfl, shown, fun claim => ?_, fun claim => ?_, fun claim => ?_, rfl, rfl⟩
  · rw [lobby, secure, claim]
    simpa [riskSides] using shown
  · rw [lobby, secure, claim]
    simpa [riskSides] using shown
  · rw [lobby, secure, claim]
    simp only [Bool.and_eq_true, shown, riskSides, infeasible, List.any_eq_true, List.mem_filter, Bool.or_eq_true, Bool.not_eq_true',
      decide_eq_true_eq, and_assoc]
    exact ⟨trivial, trivial⟩

/-- Settles O20: the timers and the frame event by the barrier's state, and the conditions point by point. -/
theorem barrierTimersEnd : Obligations.BarrierTimersEnd :=
  ⟨motionTimeoutStalls, jamHoldEndTriesShut, frameMovesBarrier, barrierConditions, evaluationShowsRisk⟩

end Sys2Proof.Machine

/-! Shut feasibility (R78 to R80): which tracks are assessed, and how. -/

namespace Sys2Proof.Machine

/-! ## Rear members of a merge (R21) -/

theorem sameMerge_iff (e : Extent) (d : Direction) (y : Track) :
    sameMerge e d y = true ↔ y.merged = true ∧ y.ext = e ∧ y.dir = some d := by
  simp [sameMerge, and_assoc]

theorem mem_drop_iff {α : Type} {xs : List α} {n : Nat} {y : α} : y ∈ xs.drop (n + 1) ↔ ∃ j, n < j ∧ xs[j]? = some y := by
  rw [List.mem_iff_getElem?]
  constructor
  · rintro ⟨k, at_⟩
    exact ⟨n + 1 + k, by omega, by rwa [List.getElem?_drop] at at_⟩
  · rintro ⟨j, behind, at_⟩
    exact ⟨j - (n + 1), by rwa [List.getElem?_drop, Nat.add_sub_cancel' behind]⟩

theorem mem_take_iff {α : Type} {xs : List α} {n : Nat} {y : α} : y ∈ xs.take n ↔ ∃ j, j < n ∧ xs[j]? = some y := by
  rw [List.mem_iff_getElem?]
  simp only [List.getElem?_take]
  constructor
  · rintro ⟨j, at_⟩
    split at at_
    · rename_i ahead
      exact ⟨j, ahead, at_⟩
    · exact absurd at_ (by simp)
  · rintro ⟨j, ahead, at_⟩
    exact ⟨j, by rwa [if_pos ahead]⟩

/-- A track is a rear member when a MERGED track of its direction on its extent stands ahead of it. -/
theorem isRear_iff (ts : List Track) (i : Nat) (x : Track) :
    isRear ts i x = true ↔
      x.merged = true ∧ ∃ (d : Direction) (j : Nat) (y : Track), x.dir = some d ∧ ts[j]? = some y ∧ y.merged = true ∧ y.ext = x.ext
        ∧ y.dir = some d ∧ (match d with | .entry => i < j | .exit => j < i) := by
  unfold isRear
  cases dir : x.dir with
  | none => simp
  | some d =>
    cases d with
    | entry =>
      rw [Bool.and_eq_true, List.any_eq_true]
      constructor
      · rintro ⟨merged, y, among, same⟩
        obtain ⟨j, ahead, stands⟩ := mem_drop_iff.mp among
        obtain ⟨merged', ext, dir'⟩ := (sameMerge_iff ..).mp same
        exact ⟨merged, .entry, j, y, rfl, stands, merged', ext, dir', ahead⟩
      · rintro ⟨merged, d, j, y, same, stands, merged', ext, dir', ahead⟩
        obtain rfl := Option.some.inj same
        exact ⟨merged, y, mem_drop_iff.mpr ⟨j, ahead, stands⟩, (sameMerge_iff ..).mpr ⟨merged', ext, dir'⟩⟩
    | exit =>
      rw [Bool.and_eq_true, List.any_eq_true]
      constructor
      · rintro ⟨merged, y, among, same⟩
        obtain ⟨j, ahead, stands⟩ := mem_take_iff.mp among
        obtain ⟨merged', ext, dir'⟩ := (sameMerge_iff ..).mp same
        exact ⟨merged, .exit, j, y, rfl, stands, merged', ext, dir', ahead⟩
      · rintro ⟨merged, d, j, y, same, stands, merged', ext, dir', ahead⟩
        obtain rfl := Option.some.inj same
        exact ⟨merged, y, mem_take_iff.mpr ⟨j, ahead, stands⟩, (sameMerge_iff ..).mpr ⟨merged', ext, dir'⟩⟩

/-- The assessments by the places of the tracks. -/
theorem LaneState.assessments_eq (l : LaneState) :
    l.assessments = l.ot.tracks.zipIdx.filterMap fun x => assess l.geo l.timing x.1 (isRear l.ot.tracks x.2 x.1) := by
  rw [LaneState.assessments, withRear, List.filterMap_map]
  rfl

theorem assess_of_not_approaching {g : Geometry} {t : Timing} {x : Track} {d : Direction} {rear : Bool} (dir : x.dir = some d)
    (h : x.crossed = true ∨ x.bound ≠ none) : assess g t x rear = none := by
  have away : x.approaching = false := by
    rcases h with crossed | bound
    · simp [Track.approaching, crossed]
    · simp [Track.approaching, Option.isNone_eq_false_iff, Option.isSome_iff_ne_none, bound]
  rw [assess, dir]
  exact if_neg (by simp [away])

theorem assess_of_approaching {g : Geometry} {t : Timing} {x : Track} {d : Direction} {rear : Bool} (dir : x.dir = some d)
    (crossed : x.crossed = false) (bound : x.bound = none) :
    assess g t x rear = some (if rear then assessRear g d x else assessApproaching g t d x) := by
  have approaching : x.approaching = true := by simp [Track.approaching, dir, crossed, bound]
  rw [assess, dir]
  exact if_pos approaching

theorem tracksAssessed : Claims.TracksAssessed :=
  ⟨fun l => ⟨isRear l.ot.tracks, l.assessments_eq, fun i x _ => isRear_iff l.ot.tracks i x⟩,
    fun _ _ _ _ _ dir h => assess_of_not_approaching dir h⟩

/-! ## The five stages (R79) -/

theorem shutFeasibilityStages : Claims.ShutFeasibility := by
  intro g t x d dir crossed bound
  refine ⟨_, assess_of_approaching dir crossed bound, rfl, rfl, rfl, fun atLine => ?_, fun off => ⟨rfl, ?_⟩⟩
  · have zero : g.xf d - g.lead d x.ext = 0 := atLine
    show (decide (g.xf d - g.lead d x.ext ≠ 0) && _) = false
    rw [zero]
    rfl
  · have some : decide (g.xf d - g.lead d x.ext ≠ 0) = true := decide_eq_true off
    show (decide (g.xf d - g.lead d x.ext ≠ 0) && _) = _
    rw [some]
    rfl

/-! ## Without the five stages (R80) -/

/-- The distance of an UNSET track from the barrier, by its nearer edge (R80). -/
def unsetDistance (g : Geometry) (x : Track) : Nat :=
  if x.ext.hi < g.f then (g.f - (x.ext.hi + 1)) * g.p else if g.f ≤ x.ext.lo then (x.ext.lo - g.f) * g.p else 0

theorem unsetDistance_eq (g : Geometry) (x : Track) :
    unsetDistance g x =
      if x.ext.hi + 1 ≤ g.f then g.f * g.p - (x.ext.hi + 1) * g.p
      else if g.f ≤ x.ext.lo then x.ext.lo * g.p - g.f * g.p
      else 0 := by
  rw [unsetDistance, Nat.sub_mul, Nat.sub_mul]
  rfl

theorem assessUnset_eq (g : Geometry) (t : Timing) (x : Track) :
    assessUnset g t x =
      if unsetDistance g x = 0 then { track := x.number, dir := none, distance := 0, arithmetic := none, feasible := false }
      else
        { track := x.number, dir := none, distance := unsetDistance g x
          arithmetic := some (t.vNom, unsetDistance g x * 1000 / t.vNom)
          feasible := decide (t.tc + t.tm ≤ unsetDistance g x * 1000 / t.vNom) } := rfl

theorem assess_of_unset {g : Geometry} {t : Timing} {x : Track} {rear : Bool} (unset : x.dir = none) :
    assess g t x rear = some (assessUnset g t x) := by rw [assess, unset]

theorem rearAndUnsetAssessed : Claims.RearAndUnsetAssessed := by
  intro g t x
  refine ⟨fun d dir crossed bound => ⟨_, assess_of_approaching dir crossed bound, rfl, rfl, rfl, rfl, fun short => if_pos short⟩,
    fun rear unset => ?_⟩
  intro distance time
  have measured : unsetDistance g x = distance := unsetDistance_eq g x
  refine ⟨_, assess_of_unset unset, ?_⟩
  rw [assessUnset_eq, measured]
  by_cases atLine : distance = 0
  · rw [if_pos atLine]
    exact ⟨rfl, rfl, atLine.symm, fun _ => ⟨rfl, rfl⟩, fun off => absurd atLine off⟩
  · rw [if_neg atLine]
    exact ⟨rfl, rfl, rfl, fun zero => absurd zero atLine, fun _ => ⟨rfl, rfl⟩⟩

/-- Settles O21: what is assessed, and how, is read off `assess` by the track's direction and place. -/
theorem shutFeasibility : Obligations.ShutFeasibility := ⟨shutFeasibilityStages, tracksAssessed, rearAndUnsetAssessed⟩

end Sys2Proof.Machine

/-! Deadlines of a lane, its outputs, the conditions of classes, and the chain reads that are begun or dropped. -/

namespace Sys2Proof.Machine

/-! ## Chain reads begun and dropped (R8, R9, R19) -/

theorem frameTimerStartsRead : Claims.FrameTimerStartsRead := by
  intro k s
  refine ⟨fun late => ?_, fun early => ?_⟩
  · exact congrArg (fun l => Host.Outcome.next (s.setLane k l)) (LaneState.frameExpiry_of_due late)
  · have waits : (s.lane k).frameExpiry s.tmb.ms = s.lane k := if_neg (by simp [due, early])
    exact congrArg Host.Outcome.next ((congrArg (fun l => s.setLane k l) waits).trans (s.setLane_self k))

theorem frameEvent_of_discarding {e : Env} {chain : List (Option BarAnswer)} {order : FrameOrder} {w : Work}
    (h : w.lane.bsu.read = .discarding) :
    frameEvent e chain order w = w.mod fun l => { l with bsu := { l.bsu with read := .idle } } := by
  rw [frameEvent, h]
  rfl

theorem markedReadIsDropped : Claims.MarkedReadIsDropped := by
  intro k chain order s marked
  exact State.next_of_runLane (f := fun e w => frameEvent e chain order w) (frameEvent_of_discarding (w := s.work k) marked) rfl

/-- Settles O7: the timer's end restarts it and begins a read; a marked read ends in IDLE. -/
theorem frameTimerAndDroppedRead : Obligations.FrameTimerAndDroppedRead := ⟨frameTimerStartsRead, markedReadIsDropped⟩

/-! ## Deadlines of a lane (R56, R98, R120) -/

theorem LaneState.endWindow_of_due {now t : Nat} {d : Direction} {l : LaneState} (running : l.pq.window d = some t) (late : t ≤ now) :
    l.endWindow now d = l.modPq (Pq.setWindow d none) := by
  rw [LaneState.endWindow, running]
  exact if_pos (decide_eq_true late)

theorem escortWindowCloses : Claims.EscortWindowCloses := by
  intro k s t late
  refine ⟨fun running => ?_, fun running => ?_⟩
  · exact congrArg (fun l => Host.Outcome.next (s.setLane k l)) (LaneState.endWindow_of_due (d := .entry) running late)
  · exact congrArg (fun l => Host.Outcome.next (s.setLane k l)) (LaneState.endWindow_of_due (d := .exit) running late)

theorem autoClear_of_due {e : Env} {kind : LatchedKind} {w : Work} {t : Nat}
    (running : (w.lane.lsv.alarms.latched kind).deadline = some t) (late : t ≤ e.now) :
    autoClear e kind w = (w.mod (LaneState.clearLatched kind)).emitLane (.alarmsAutoCleared kind) := by
  rw [autoClear, running]
  exact if_pos (decide_eq_true late)

theorem expireHold_of_due {e : Env} {w : Work} {t : Nat} (held : w.lane.lsv.hold = some t) (late : t ≤ e.now) :
    expireHold e w = dropHold .holdExpired w := by
  rw [expireHold, held]
  exact if_pos (decide_eq_true late)

/-- An event of a lane that touches no record and works out no outputs. -/
theorem State.laneEvent_of_runLane_plain {s : State} {k : Lane} {f : Env → Work → Work} {v : Work} (h : f (s.env k) (s.work k) = v)
    (creds : v.creds = s.cst.creds) : s.runLane k f = s.laneEvent k v.lane v.out := by
  rw [State.runLane_eq, h, State.absorb_eq, creds]
  rfl

theorem laneDeadlines : Claims.LaneDeadlinesEnd := by
  intro k s t late old
  refine ⟨fun kind running => ?_, fun held => ?_⟩
  · exact State.next_of_runLane (f := fun e w => autoClear e kind w) (autoClear_of_due (w := s.work k) running late) rfl
  · exact congrArg Host.Outcome.next
      (State.laneEvent_of_runLane_plain (f := fun e w => expireHold e w) (expireHold_of_due (w := s.work k) held late) rfl)

/-- Settles O25: what has fallen due is dropped, with its notice. -/
theorem laneDeadlinesEnd : Obligations.LaneDeadlinesEnd := ⟨escortWindowCloses, laneDeadlines⟩

/-! ## Buzzer and indicators (R100, R102) -/

theorem LatchedKind.mem_all (a : LatchedKind) : a ∈ LatchedKind.all := by cases a <;> decide

theorem ConditionKind.mem_all (c : ConditionKind) : c ∈ ConditionKind.all := by cases c <;> decide

theorem Lsv.buzzing_iff (v : Lsv) :
    v.buzzing = true ↔
      v.mode ≠ .dark
        ∧ ((∃ a : LatchedKind, (v.alarms.latched a).set = true)
          ∨ ∃ c : ConditionKind, (v.alarms.condition c).active = true ∧ (v.alarms.condition c).silenced = false) := by
  rw [Lsv.buzzing, Bool.and_eq_true, Bool.or_eq_true, List.any_eq_true, List.any_eq_true, decide_eq_true_eq]
  simp only [LatchedKind.mem_all, ConditionKind.mem_all, true_and, Bool.and_eq_true, Bool.not_eq_true']

/-- Whether a side has outstanding work (R104). -/
theorem sideWork_iff (slots : List Slot) (l : LaneState) (p : Port) :
    sideWork slots l p = true ↔
      (∃ x ∈ slots, x.reader = p) ∨ ∃ x ∈ l.pq.permits, x.state = .awaitingEscort ∧ x.reader = some p := by
  simp [sideWork]

/-- The colour of Table 5-7 that a side shows, by the row that gives it. -/
theorem LaneState.colour_cases (l : LaneState) (d : Direction) (work : Bool) :
    match l.colour d work with
    | .dark => l.lsv.mode = .dark
    | .amber => l.lsv.mode ≠ .dark ∧ (work = true ∨ l.sideRisk d = true ∨ l.lsv.pending ≠ none)
    | .green =>
      l.lsv.mode = .service ∧ ¬(work = true ∨ l.sideRisk d = true ∨ l.lsv.pending ≠ none) ∧ l.lsv.policy.setting d ≠ .barred
        ∧ l.lsv.sensorMark = false ∧ l.lsv.barrierMark = false ∧ (l.pq.claim = none ∨ l.pq.claim = some d)
    | .red =>
      l.lsv.mode ≠ .dark ∧ ¬(work = true ∨ l.sideRisk d = true ∨ l.lsv.pending ≠ none)
        ∧ ¬(l.lsv.mode = .service ∧ l.lsv.policy.setting d ≠ .barred ∧ l.lsv.sensorMark = false ∧ l.lsv.barrierMark = false
            ∧ (l.pq.claim = none ∨ l.pq.claim = some d)) := by
  have healthy : l.lsv.health = .ok ↔ l.lsv.sensorMark = false ∧ l.lsv.barrierMark = false := by
    unfold Lsv.health
    cases l.lsv.sensorMark <;> cases l.lsv.barrierMark <;> simp
  have busy : (work || l.sideRisk d || l.lsv.pending.isSome) = true ↔ (work = true ∨ l.sideRisk d = true ∨ l.lsv.pending ≠ none) := by
    rw [Bool.or_eq_true, Bool.or_eq_true, or_assoc, Option.isSome_iff_ne_none]
  by_cases dark : l.lsv.mode = .dark
  · rw [LaneState.colour, if_pos dark]
    exact dark
  by_cases amber : (work || l.sideRisk d || l.lsv.pending.isSome) = true
  · rw [LaneState.colour, if_neg dark, if_pos amber]
    exact ⟨dark, busy.mp amber⟩
  by_cases green : l.lsv.mode = .service ∧ l.lsv.policy.setting d ≠ .barred ∧ l.lsv.health = .ok ∧ (l.pq.claim = none ∨ l.pq.claim = some d)
  · rw [LaneState.colour, if_neg dark, if_neg amber, if_pos green]
    obtain ⟨service, admitted, ok, claim⟩ := green
    exact ⟨service, mt busy.mpr amber, admitted, (healthy.mp ok).1, (healthy.mp ok).2, claim⟩
  · rw [LaneState.colour, if_neg dark, if_neg amber, if_neg green]
    rw [healthy, and_assoc] at green
    exact ⟨dark, mt busy.mpr amber, green⟩

/-- Settles O26: each side's work, risk and claim pick its row of Table 5-7, and the buzzer looks over every kind. -/
theorem outputsFollowTable : Obligations.OutputsFollowTable := by
  intro slots k l out works colour
  have lobby := l.colour_cases .entry (sideWork slots l (sidePort k .entry))
  have secure := l.colour_cases .exit (sideWork slots l (sidePort k .exit))
  simp only [sideWork_iff] at lobby secure
  exact ⟨l.lsv.buzzing_iff, lobby, secure, rfl⟩

/-! ## Conditions of classes (R129) -/

theorem inWindow_of_le {first last : Nat} (h : first ≤ last) (minute : Nat) :
    inWindow first last minute = true ↔ first ≤ minute ∧ minute ≤ last := by
  rw [inWindow, if_pos h, Bool.and_eq_true, decide_eq_true_eq, decide_eq_true_eq]

theorem inWindow_of_lt {first last : Nat} (h : last < first) (minute : Nat) :
    inWindow first last minute = true ↔ first ≤ minute ∨ minute ≤ last := by
  rw [inWindow, if_neg (not_le.mpr h), Bool.or_eq_true, decide_eq_true_eq, decide_eq_true_eq]

/-- Settles O27, condition by condition. -/
theorem classConditionJudged : Obligations.ClassConditionJudged := by
  intro c clock deskKey
  refine ⟨fun h => ?_, fun h => ?_, fun h => ?_, fun h => ?_, fun h => ?_, fun h absent => ?_,
    fun t h set => ⟨fun within => ?_, fun wraps => ?_⟩⟩
  all_goals
    unfold ClassRec.holds
    rw [h]
  · rw [absent]
  · rw [set]
    exact inWindow_of_le within _
  · rw [set]
    exact inWindow_of_lt wraps _

end Sys2Proof.Machine

/-! EGRESS: what a lane becomes that enters it, and the assertion of the line over every lane. -/

namespace Sys2Proof.Machine

/-! ## What an event on lanes leaves alone of the part -/

/-- Nothing differs but the notice queues, the lanes and the referral slots. -/
def State.samePart (s t : State) : Prop := t.ports = s.ports ∧ s.sameDevice t

theorem State.samePart.refl (s : State) : s.samePart s :=
  ⟨rfl, LinkPort.sameButQueue_refl _, LinkPort.sameButQueue_refl _, rfl, rfl, rfl, rfl, rfl, rfl, rfl⟩

theorem State.samePart.trans {a b c : State} (h : a.samePart b) (g : b.samePart c) : a.samePart c := by
  obtain ⟨ports, site, desk, routing, cst, tmb, ims, egress, key, pending⟩ := h
  obtain ⟨ports', site', desk', routing', cst', tmb', ims', egress', key', pending'⟩ := g
  exact ⟨ports'.trans ports, LinkPort.sameButQueue_trans site site', LinkPort.sameButQueue_trans desk desk', routing'.trans routing,
    cst'.trans cst, tmb'.trans tmb, ims'.trans ims, egress'.trans egress, key'.trans key, pending'.trans pending⟩

theorem State.setLane_samePart (s : State) (k : Lane) (l : LaneState) : s.samePart (s.setLane k l) :=
  ⟨rfl, LinkPort.sameButQueue_refl _, LinkPort.sameButQueue_refl _, rfl, rfl, rfl, rfl, rfl, rfl, rfl⟩

theorem State.modLane_samePart (s : State) (k : Lane) (f : LaneState → LaneState) : s.samePart (s.modLane k f) := s.setLane_samePart k _

theorem State.withSlots_samePart (s : State) (x : Rfu) : s.samePart { s with rfu := x } :=
  ⟨rfl, LinkPort.sameButQueue_refl _, LinkPort.sameButQueue_refl _, rfl, rfl, rfl, rfl, rfl, rfl, rfl⟩

theorem State.postAll_samePart (s : State) (n : Nat) (bs : List NoticeBody) : s.samePart (s.postAll n bs) := by
  obtain ⟨-, ports, site, desk, routing, cst, -, tmb, ims, egress, key, pending⟩ := s.postAll_frame n bs
  exact ⟨ports, site, desk, routing, cst, tmb, ims, egress, key, pending⟩

theorem State.post_samePart (s : State) (n : Nat) (b : NoticeBody) : s.samePart (s.post n b) := s.postAll_samePart n [b]

theorem State.refresh_samePart (s : State) (k : Lane) : s.samePart (s.refresh k) := s.modLane_samePart k _

theorem State.laneEvent_samePart (s : State) (k : Lane) (l : LaneState) (bs : List NoticeBody) : s.samePart (s.laneEvent k l bs) :=
  (s.setLane_samePart k l).trans (State.postAll_samePart ..)

theorem State.foldl_samePart {α : Type} {f : State → α → State} (h : ∀ (s : State) x, s.samePart (f s x)) (xs : List α) (s : State) :
    s.samePart (xs.foldl f s) := by
  induction xs generalizing s with
  | nil => exact .refl s
  | cons x xs ih => exact (h s x).trans (ih _)

theorem State.closeSlots_samePart (s : State) (test : Slot → Bool) (cause : ClosureCause) : s.samePart (s.closeSlots test cause) :=
  (s.withSlots_samePart _).trans (State.foldl_samePart (f := postClosed cause) (fun t _ => t.post_samePart _ _) _ _)

theorem State.refreshAll_samePart (s : State) : s.samePart s.refreshAll :=
  State.foldl_samePart (f := fun t k => t.refresh k) (fun t k => t.refresh_samePart k) _ s

/-- Closing referrals touches no lane, and frees the slots that the test picks. -/
theorem State.closeSlots_lanes (s : State) (test : Slot → Bool) (cause : ClosureCause) :
    (s.closeSlots test cause).lanes = s.lanes
      ∧ (s.closeSlots test cause).rfu = { s.rfu with slots := s.rfu.slots.filter fun x => !test x } :=
  State.foldl_post_same (fun x : Slot => laneNumber (portLane x.reader)) (fun x => .referralClosed x.tag x.reader x.number cause)
    (s.rfu.slots.filter test) { s with rfu := { s.rfu with slots := s.rfu.slots.filter fun x => !test x } }

theorem State.closeLane_lanes (s : State) (k : Lane) (cause : ClosureCause) :
    (s.closeLane k cause).lanes = s.lanes
      ∧ (s.closeLane k cause).rfu = { s.rfu with slots := s.rfu.slots.filter fun x => !(portLane x.reader == k) } :=
  s.closeSlots_lanes _ cause

theorem State.closeLane_samePart (s : State) (k : Lane) (cause : ClosureCause) : s.samePart (s.closeLane k cause) :=
  s.closeSlots_samePart _ cause

/-! ## A lane that enters EGRESS (R74, R116) -/

theorem Work.withHealth_lane (f : Work → Work) (w : Work) : (w.withHealth f).lane = (f w).lane ∧ (w.withHealth f).creds = (f w).creds := by
  unfold Work.withHealth
  dsimp only
  split <;> exact ⟨rfl, rfl⟩

/-- What entering EGRESS leaves of a lane: all but its barrier, and the marks and indicators that follow it. -/
structure LaneState.egressed (a b : LaneState) : Prop where
  mode : b.lsv.mode = .egress
  policy : b.lsv.policy = a.lsv.policy
  pending : b.lsv.pending = none
  hold : b.lsv.hold = a.lsv.hold
  tallies : b.lsv.tallies = a.lsv.tallies
  alarms : b.lsv.alarms = a.lsv.alarms
  permits : b.pq.permits = []
  entryWindow : b.pq.entryWindow = none
  exitWindow : b.pq.exitWindow = none
  ot : b.ot = a.ot
  bsu : b.bsu = a.bsu
  reported : b.reported = a.reported
  geo : b.geo = a.geo
  timing : b.timing = a.timing
  state : b.bc.state = .opening ∨ b.bc.state = .opened

/-- A cancellation of the whole queue, the notices aside. -/
def LaneState.cancelled (l : LaneState) : LaneState :=
  (l.modPq fun q => { q with entryWindow := none, exitWindow := none }).setPermits []

theorem foldl_emit (f : Permit → NoticeBody) (ps : List Permit) (w : Work) :
    ps.foldl (fun v p => v.emit (f p)) w = w.takes w.lane (ps.map f) := by
  induction ps generalizing w with
  | nil => exact w.mod_eq_takes id
  | cons p ps ih =>
    rw [List.foldl_cons, ih]
    show ({ lane := w.lane, creds := w.creds, out := (w.out ++ [f p]) ++ ps.map f } : Work) = _
    rw [List.append_assoc]
    rfl

/-- A whole-lane cancellation empties the queue and tells of each permit. -/
theorem cancelAll_eq (w : Work) : cancelAll w = w.takes w.lane.cancelled (w.lane.pq.permits.map fun p => .permitEnd p .cancelled) := by
  unfold cancelAll
  dsimp only
  rw [foldl_emit]
  rfl

/-- The lane with EGRESS applied, the pending mode and the shut evaluation gone (R74, R107, R116). -/
def LaneState.egressMode (l : LaneState) : LaneState :=
  { l with
    bc := { l.bc with last := none, risk := false }
    lsv := { l.lsv with mode := .egress, pending := none, riskLobby := false, riskSecure := false } }

/-- The leaves of a lane in EGRESS opened, from any state that is not open already (R74). -/
def LaneState.letOut (now : Nat) (l : LaneState) : LaneState :=
  match l.bc.state with
  | .opening => l
  | .opened => l
  | .shut => if l.bc.openLimit then l.openedAtOnce now else l.openingAt now
  | .shutting => if l.bc.openLimit then l.openedAtOnce now else l.openingAt now
  | .stalled => if l.bc.openLimit then l.openedAtOnce now else l.openingAt now

/-- In a mode in which the shut condition is not evaluated, an opening motion is its lane change and no more. -/
theorem beginOpening_unevaluated (e : Env) {w : Work} (mode : shutMode w.lane.lsv.mode = false) :
    beginOpening e w = w.mod fun l => if l.bc.openLimit then l.openedAtOnce e.now else l.openingAt e.now := by
  by_cases limit : w.lane.bc.openLimit = true
  · have still : shutMode (w.lane.openedAtOnce e.now).lsv.mode = false := by rw [LaneState.openedAtOnce_eq]; exact mode
    have arrived : beginOpening e w = evalShut e (w.mod (LaneState.openedAtOnce e.now)) := beginOpening_of_limit_on limit
    have rests := evalShut_of_unevaluated (e := e) (w := w.mod (LaneState.openedAtOnce e.now)) (.inr still)
    exact (arrived.trans rests).trans (congrArg (fun l => ({ w with lane := l } : Work)) (if_pos limit).symm)
  · rw [beginOpening_of_limit_off (Bool.eq_false_of_not_eq_true limit)]
    exact congrArg (fun l => ({ w with lane := l } : Work)) (if_neg limit).symm

theorem enterEgress_lane (e : Env) {w : Work} (mode : w.lane.lsv.mode = .egress) :
    (enterEgress e w).lane = w.lane.dropEvaluation.letOut e.now ∧ (enterEgress e w).creds = w.creds := by
  have unevaluated : shutMode (w.mod LaneState.dropEvaluation).lane.lsv.mode = false := by
    rw [Work.mod_lane, LaneState.dropEvaluation, LaneState.modLsv_lsv, LaneState.modBc_lsv, mode]
    rfl
  have opens := beginOpening_unevaluated e unevaluated
  unfold enterEgress
  rw [(Work.withHealth_lane ..).1, (Work.withHealth_lane ..).2]
  dsimp only
  rw [opens]
  unfold LaneState.letOut
  cases state : (w.mod LaneState.dropEvaluation).lane.bc.state <;> rw [Work.mod_lane] at state <;> rw [state] <;> exact ⟨rfl, rfl⟩

/-- The lane with its pending mode gone, told of or not. -/
theorem discardPending_lane (cause : ModeCause) (w : Work) :
    (discardPending cause w).lane = { w.lane with lsv := { w.lane.lsv with pending := none } }
      ∧ (discardPending cause w).creds = w.creds := by
  unfold discardPending
  split
  · rename_i none
    rw [← none]
    exact ⟨rfl, rfl⟩
  · exact ⟨rfl, rfl⟩

/-- A lane takes EGRESS: the mode, and the leaves (R116, steps 3 to 5). -/
theorem takeEgress_lane (e : Env) (w : Work) :
    (takeEgress e w).lane = w.lane.egressMode.letOut e.now ∧ (takeEgress e w).creds = w.creds := by
  obtain ⟨lane, creds⟩ := discardPending_lane .egressLine w
  obtain ⟨entered, creds'⟩ := enterEgress_lane e
    (w := applyMode .egress (discardPending .egressLine w).lane.lsv.policy .egressLine none (discardPending .egressLine w)) rfl
  have applied : (applyMode .egress (discardPending .egressLine w).lane.lsv.policy .egressLine none
      (discardPending .egressLine w)).lane.dropEvaluation = w.lane.egressMode := by
    show (((discardPending .egressLine w).lane).applyMode .egress (discardPending .egressLine w).lane.lsv.policy).dropEvaluation = _
    rw [lane]
    rfl
  rw [applied] at entered
  exact ⟨entered, creds'.trans creds⟩

/-- An event on lane k leaves the other lanes, and of the part what is not lanes (records kept). -/
theorem State.runLane_frame {s : State} {k : Lane} {f : Env → Work → Work} {l : LaneState}
    (h : (f (s.env k) (s.work k)).lane = l ∧ (f (s.env k) (s.work k)).creds = s.cst.creds) :
    (s.runLane k f).lane k = l ∧ (∀ j, j ≠ k → (s.runLane k f).lane j = s.lane j) ∧ (s.runLane k f).rfu = s.rfu
      ∧ s.samePart (s.runLane k f) := by
  have same : s.runLane k f = s.laneEvent k l (f (s.env k) (s.work k)).out := by
    rw [State.laneEvent_of_runLane_plain rfl h.2, h.1]
  rw [same]
  exact ⟨State.laneEvent_lane .., fun j other => State.laneEvent_lane_of_ne _ _ _ other, State.laneEvent_rfu .., s.laneEvent_samePart ..⟩

/-- The lane that takes the line's assertion. -/
def LaneState.egressAt (now : Nat) (l : LaneState) : LaneState := l.cancelled.egressMode.letOut now

theorem LaneState.letOut_cases (now : Nat) (l : LaneState) :
    (l.letOut now = l ∧ (l.bc.state = .opening ∨ l.bc.state = .opened)) ∨ l.letOut now = l.openedAtOnce now
      ∨ l.letOut now = l.openingAt now := by
  have moves : (if l.bc.openLimit then l.openedAtOnce now else l.openingAt now) = l.openedAtOnce now
      ∨ (if l.bc.openLimit then l.openedAtOnce now else l.openingAt now) = l.openingAt now := by
    split
    · exact .inl rfl
    · exact .inr rfl
  unfold LaneState.letOut
  cases state : l.bc.state with
  | opening => exact .inl ⟨rfl, .inl rfl⟩
  | opened => exact .inl ⟨rfl, .inr rfl⟩
  | shut => exact .inr moves
  | shutting => exact .inr moves
  | stalled => exact .inr moves

theorem LaneState.egressAt_egressed (now : Nat) (l : LaneState) : l.egressed (l.egressAt now) := by
  unfold LaneState.egressAt
  rcases LaneState.letOut_cases now l.cancelled.egressMode with ⟨same, state⟩ | same | same
  · rw [same]
    exact ⟨rfl, rfl, rfl, rfl, rfl, rfl, rfl, rfl, rfl, rfl, rfl, rfl, rfl, rfl, state⟩
  · rw [same, LaneState.openedAtOnce_eq]
    exact ⟨rfl, rfl, rfl, rfl, rfl, rfl, rfl, rfl, rfl, rfl, rfl, rfl, rfl, rfl, .inr rfl⟩
  · rw [same, LaneState.openingAt_eq]
    exact ⟨rfl, rfl, rfl, rfl, rfl, rfl, rfl, rfl, rfl, rfl, rfl, rfl, rfl, rfl, .inl rfl⟩

/-- An event on lane k in two parts, with the closure of the lane's referrals between them (R114, R116, R121): the second part finds the
lane that the first has left; the other lanes, and the part beside lanes and slots, stay. -/
theorem State.closeBetween {s : State} {k : Lane} {cause : ClosureCause} {f g : Env → Work → Work} {l m : LaneState}
    (first : (f (s.env k) (s.work k)).lane = l ∧ (f (s.env k) (s.work k)).creds = s.cst.creds)
    (second : ∀ e w, e.now = s.tmb.ms → w.lane = l → (g e w).lane = m ∧ (g e w).creds = w.creds) :
    (((s.runLane k f).closeLane k cause).runLane k g).lane k = m
      ∧ (∀ j, j ≠ k → (((s.runLane k f).closeLane k cause).runLane k g).lane j = s.lane j)
      ∧ (((s.runLane k f).closeLane k cause).runLane k g).rfu
          = { s.rfu with slots := s.rfu.slots.filter fun x => !(portLane x.reader == k) }
      ∧ s.samePart (((s.runLane k f).closeLane k cause).runLane k g) := by
  obtain ⟨lane, others, slots, part⟩ := State.runLane_frame first
  generalize s.runLane k f = a at *
  obtain ⟨lanes, closed⟩ := a.closeLane_lanes k cause
  have part' := part.trans (a.closeLane_samePart k cause)
  generalize a.closeLane k cause = b at *
  have same (j : Lane) : b.lane j = a.lane j := by rw [State.lane, lanes, State.lane]
  have now : b.tmb.ms = s.tmb.ms := congrArg Tmb.ms part'.2.2.2.2.2.1
  obtain ⟨lane', others', slots', part''⟩ := State.runLane_frame (second (b.env k) (b.work k) now ((same k).trans lane))
  exact ⟨lane', fun j other => (others' j other).trans ((same j).trans (others j other)), by rw [slots', closed, slots], part'.trans part''⟩

/-- A lane that is not in EGRESS takes the assertion; the other lanes, and the part beside lanes and slots, stay. -/
theorem State.egressLane_of_other {s : State} {k : Lane} (other : (s.lane k).lsv.mode ≠ .egress) :
    (s.egressLane k).lane k = (s.lane k).egressAt s.tmb.ms ∧ (∀ j, j ≠ k → (s.egressLane k).lane j = s.lane j)
      ∧ (s.egressLane k).rfu = { s.rfu with slots := s.rfu.slots.filter fun x => !(portLane x.reader == k) }
      ∧ s.samePart (s.egressLane k) := by
  have event : s.egressLane k = ((s.runLane k fun _ w => cancelAll w).closeLane k .egressLine).runLane k fun e w => takeEgress e w :=
    if_neg other
  rw [event]
  refine State.closeBetween (f := fun _ w => cancelAll w) (g := fun e w => takeEgress e w) (l := (s.lane k).cancelled)
    (by rw [cancelAll_eq]; exact ⟨rfl, rfl⟩) fun e w now lane => ?_
  rw [LaneState.egressAt, ← now, ← lane]
  exact takeEgress_lane e w

end Sys2Proof.Machine

/-! EGRESS_ASSERT over every lane, in the order that the platform names. -/

namespace Sys2Proof.Machine

/-! ## Every lane refreshed -/

/-- What working out the outputs of every lane makes of each of them. -/
theorem State.refreshAll_lane (s : State) (k : Lane) :
    s.refreshAll.lane k = (s.lane k).withOutputs s.rfu.slots k ∧ s.refreshAll.rfu = s.rfu := by
  have worked (ks : List Lane) (t : State) :
      ((ks.foldl (fun u j => u.refresh j) t).lane k = t.lane k
        ∨ (ks.foldl (fun u j => u.refresh j) t).lane k = (t.lane k).withOutputs t.rfu.slots k)
      ∧ (ks.foldl (fun u j => u.refresh j) t).rfu = t.rfu := by
    induction ks generalizing t with
    | nil => exact ⟨.inl rfl, rfl⟩
    | cons j ks ih =>
      obtain ⟨lane, slots⟩ := ih (t.refresh j)
      rw [refresh_rfu] at slots lane
      refine ⟨?_, slots⟩
      rw [List.foldl_cons]
      by_cases same : k = j
      · subst same
        rw [refresh_lane, LaneState.withOutputs_withOutputs, or_self] at lane
        exact .inr lane
      · have kept : (t.refresh j).lane k = t.lane k := State.modLane_lane_of_ne t _ same
        rwa [kept] at lane
  obtain ⟨lane, slots⟩ := worked allLanes s
  refine ⟨?_, slots⟩
  rcases lane with same | out
  · have derived := s.refreshAll_derived k
    rw [show s.refreshAll.rfu = s.rfu from slots, show s.refreshAll.lane k = s.lane k from same] at derived
    exact same.trans derived
  · exact out

theorem mem_fullOrder (order : List Lane) (k : Lane) : k ∈ fullOrder order := by
  rw [fullOrder, List.mem_eraseDups, List.mem_append]
  exact .inr (by revert k; decide)

/-! ## The assertion (R116) -/

theorem LaneState.egressed.withOutputs {a b : LaneState} (h : a.egressed b) (slots : List Slot) (k : Lane) :
    a.egressed (b.withOutputs slots k) :=
  ⟨h.mode, h.policy, h.pending, h.hold, h.tallies, h.alarms, h.permits, h.entryWindow, h.exitWindow, h.ot, h.bsu, h.reported, h.geo,
    h.timing, h.state⟩

/-- How far the assertion has come, over the lanes in `done`. -/
structure State.egressing (s t : State) (done : List Lane) : Prop where
  lane : ∀ k, t.lane k = s.lane k ∨ ((s.lane k).lsv.mode ≠ .egress ∧ (s.lane k).egressed (t.lane k))
  reached : ∀ k ∈ done, (t.lane k).lsv.mode = .egress
  slots : t.rfu = { s.rfu with
    slots := s.rfu.slots.filter fun x =>
      decide ((s.lane (portLane x.reader)).lsv.mode = .egress) || !decide ((t.lane (portLane x.reader)).lsv.mode = .egress) }
  part : s.samePart t

theorem State.egressing.start (s : State) : s.egressing s [] where
  lane _ := .inl rfl
  reached _ mem := absurd mem List.not_mem_nil
  slots := by
    rw [List.filter_eq_self.mpr fun x _ => by rw [Bool.or_not_self]]
  part := .refl s

theorem State.egressing.egressLane {s t : State} {done : List Lane} (h : s.egressing t done) (k : Lane) :
    s.egressing (t.egressLane k) (k :: done) := by
  by_cases mode : (t.lane k).lsv.mode = .egress
  · rw [State.egressLane, if_pos mode]
    exact ⟨h.lane, List.forall_mem_cons.mpr ⟨mode, h.reached⟩, h.slots, h.part⟩
  · obtain ⟨lane, others, slots, part⟩ := State.egressLane_of_other mode
    have kept : t.lane k = s.lane k := (h.lane k).resolve_right fun went => mode went.2.mode
    have entered : (s.lane k).egressed ((t.egressLane k).lane k) := by
      rw [lane, kept]
      exact LaneState.egressAt_egressed ..
    refine ⟨fun j => ?_, fun j mem => ?_, ?_, h.part.trans part⟩
    · by_cases same : j = k
      · subst same
        exact .inr ⟨kept ▸ mode, entered⟩
      · rw [others j same]
        exact h.lane j
    · by_cases same : j = k
      · subst same
        exact entered.mode
      · rw [others j same]
        exact h.reached j ((List.mem_cons.mp mem).resolve_left same)
    · rw [slots, h.slots, List.filter_filter]
      refine congrArg (fun xs => { s.rfu with slots := xs }) (List.filter_congr fun x _ => ?_)
      by_cases same : portLane x.reader = k
      · rw [same, entered.mode, ← kept]
        simp [mode]
      · rw [others _ same]
        simp [same]

theorem State.egressing.foldl {s t : State} {done : List Lane} (h : s.egressing t done) (ks : List Lane) :
    s.egressing (ks.foldl State.egressLane t) (ks.reverse ++ done) := by
  induction ks generalizing t done with
  | nil => exact h
  | cons k ks ih =>
    rw [List.foldl_cons, List.reverse_cons, List.append_assoc]
    exact ih (h.egressLane k)

theorem egressAssert_claim : Claims.EgressAssertOpensLanes := by
  intro order s low
  have went := (State.egressing.start { s with egressLine := true }).foldl (fullOrder order)
  generalize final : (fullOrder order).foldl State.egressLane { s with egressLine := true } = u at went
  have all (k : Lane) : (u.lane k).lsv.mode = .egress :=
    went.reached k (List.mem_append_left _ (List.mem_reverse.mpr (mem_fullOrder order k)))
  have slots : u.rfu = { s.rfu with slots := s.rfu.slots.filter fun x => decide ((s.lane (portLane x.reader)).lsv.mode = .egress) } := by
    rw [went.slots]
    refine congrArg (fun xs => { s.rfu with slots := xs }) (List.filter_congr fun x _ => ?_)
    rw [all, decide_eq_true (rfl : Mode.egress = .egress), Bool.not_true, Bool.or_false]
    rfl
  have refreshed (k : Lane) := u.refreshAll_lane k
  obtain ⟨ports, site, desk, routing, cst, tmb, ims, egress, key, pending⟩ := went.part.trans u.refreshAll_samePart
  have ran : exec (.egressAssert order) s = .next u.refreshAll := by
    show execEgressAssert order s = _
    rw [execEgressAssert, if_neg (by rw [low]; exact Bool.false_ne_true), final]
  refine ⟨_, ran, egress, (refreshed 0).2.trans slots, ports, site, desk, routing, cst, tmb, ims, key, pending,
    fun k => ⟨fun mode => ?_, fun mode => ?_⟩⟩
  · rw [(refreshed k).1, (refreshed k).2]
    rw [(went.lane k).resolve_right fun other => other.1 mode]
    rfl
  · rw [(refreshed k).1]
    have entered : (s.lane k).egressed (u.lane k) :=
      ((went.lane k).resolve_left fun same => mode ((congrArg (·.lsv.mode) same).symm.trans (all k))).2
    obtain ⟨h1, h2, h3, h4, h5, h6, h7, h8, h9, h10, h11, h12, h13, h14, h15⟩ := entered.withOutputs u.rfu.slots k
    exact ⟨h1, h2, h3, h4, h5, h6, h7, h8, h9, h10, h11, h12, h13, h14, h15⟩

/-- Settles O24: the assertion goes over the lanes one by one, and each lane that is not in EGRESS takes it at its turn. -/
theorem siteLinesTaken : Obligations.SiteLinesTaken :=
  ⟨egressAssert_claim, fun _ => ⟨rfl, fun _ => rfl, fun high _ => if_pos high⟩⟩

end Sys2Proof.Machine

/-! The byte receivers: what the bytes of a reader frame and of a link frame amount to. -/

namespace Sys2Proof.Machine

/-! ## Reader frames, byte by byte (R163, R202) -/

theorem crc8Ok_concat (bytes : List Byte) (b : Byte) : crc8Ok (bytes ++ [b]) = decide (b = crc8 bytes) := by
  rw [crc8Ok, List.getLast?_concat, List.dropLast_concat]
  exact decide_eq_decide.mpr (Option.some_inj)

theorem State.readerByte_hunting {s : State} {p : Port} (b : Byte) (idle : (s.port p).rx = none) : s.readerByte p b = s.huntReader p b := by
  unfold State.readerByte
  rw [idle]

theorem State.readerByte_gathering {s : State} {p : Port} {bytes : List Byte} {last : Nat} (b : Byte)
    (gathering : (s.port p).rx = some { bytes := bytes, last := last }) (intime : s.tmb.ms ≤ last + 10) :
    s.readerByte p b = s.takeReader p (bytes ++ [b]) := by
  unfold State.readerByte
  rw [gathering]
  exact if_neg (Nat.not_lt.mpr intime)

theorem State.readerByte_late {s : State} {p : Port} {x : Partial} (b : Byte) (gathering : (s.port p).rx = some x)
    (late : x.last + 10 < s.tmb.ms) : s.readerByte p b = (s.badFrame p).huntReader p b := by
  unfold State.readerByte
  rw [gathering]
  exact if_pos late

theorem State.badFrame_rx (s : State) (p : Port) : ((s.badFrame p).port p).rx = none := by
  by_cases within : (s.port p).bad + 1 ≤ (s.lane (portLane p)).timing.retryLimit
  · rw [State.badFrame_of_le_retryLimit within, State.sendReader, State.modPort_modPort, State.modPort_port]
    dsimp only
    split <;> rfl
  · rw [State.badFrame_of_retryLimit_lt (Nat.not_le.mp within), State.postReader_modPort (by rfl), State.port, State.post_ports]
    show ((s.modPort p _).port p).rx = none
    rw [State.modPort_port]
    rfl

theorem State.takeReader_bad {s : State} {p : Port} {bytes : List Byte} (bad : judgeReader bytes = .bad) :
    s.takeReader p bytes = s.badFrame p := by
  unfold State.takeReader
  rw [bad]

theorem State.takeReader_unfinished {s : State} {p : Port} {bytes : List Byte} (unfinished : judgeReader bytes = .unfinished) :
    s.takeReader p bytes = s.modPort p fun r => { r with rx := some { bytes := bytes, last := s.tmb.ms } } := by
  unfold State.takeReader
  rw [unfinished]
  rfl

theorem State.takeReader_card {s : State} {p : Port} {bytes : List Byte} {n : Nat} (card : judgeReader bytes = .card n) :
    s.takeReader p bytes = s.cardEvent p n := by
  unfold State.takeReader
  rw [card]

theorem State.takeReader_status {s : State} {p : Port} {bytes : List Byte} {tamper : Bool} (status : judgeReader bytes = .status tamper) :
    s.takeReader p bytes = s.statusEvent p tamper := by
  unfold State.takeReader
  rw [status]

/-- The kind byte is of neither kind. -/
theorem judgeReader_otherKind {b : Byte} (card : b ≠ 0x43#8) (status : b ≠ 0x53#8) : judgeReader [0x5A#8, b] = .bad := by
  have neither : b.toNat ≠ 0x43 ∧ b.toNat ≠ 0x53 :=
    ⟨fun same => card (BitVec.eq_of_toNat_eq same), fun same => status (BitVec.eq_of_toNat_eq same)⟩
  exact (if_neg neither.1).trans (if_neg neither.2)

/-- A CARD whose length byte has come, while its number and its CRC have not. -/
theorem judgeReader_card_unfinished {size : Byte} {rest : List Byte} (low : 1 ≤ size.toNat) (high : size.toNat ≤ 8)
    (short : rest.length ≤ size.toNat) : judgeReader (0x5A#8 :: 0x43#8 :: size :: rest) = .unfinished := by
  have inRange : ¬(size.toNat = 0 ∨ 8 < size.toNat) := by omega
  have missing : (0x5A#8 :: 0x43#8 :: size :: rest).length < 4 + size.toNat := by
    rw [List.length_cons, List.length_cons, List.length_cons]
    omega
  exact (if_neg inRange).trans (if_pos missing)

theorem judgeReader_card_badSize {size : Byte} (outside : size.toNat = 0 ∨ 8 < size.toNat) :
    judgeReader [0x5A#8, 0x43#8, size] = .bad := if_pos outside

/-- A CARD that the byte completes. -/
theorem judgeReader_card_whole {number : List Byte} (b : Byte) (low : 1 ≤ number.length) (high : number.length ≤ 8) :
    judgeReader (0x5A#8 :: 0x43#8 :: BitVec.ofNat 8 number.length :: (number ++ [b])) =
      if b = crc8 (0x5A#8 :: 0x43#8 :: BitVec.ofNat 8 number.length :: number) ∧ fromLe number ≠ 0 then .card (fromLe number) else .bad := by
  have size : (BitVec.ofNat 8 number.length).toNat = number.length := by
    rw [BitVec.toNat_ofNat]
    exact Nat.mod_eq_of_lt (by omega)
  have crc := crc8Ok_concat (0x5A#8 :: 0x43#8 :: BitVec.ofNat 8 number.length :: number) b
  have value : natAt (0x5A#8 :: 0x43#8 :: BitVec.ofNat 8 number.length :: (number ++ [b])) 3 number.length = fromLe number := by
    rw [natAt]
    exact congrArg fromLe (List.take_left)
  generalize BitVec.ofNat 8 number.length = size' at *
  have inRange : ¬(size'.toNat = 0 ∨ 8 < size'.toNat) := by omega
  have complete : ¬(0x5A#8 :: 0x43#8 :: size' :: (number ++ [b])).length < 4 + size'.toNat := by
    rw [List.length_cons, List.length_cons, List.length_cons, List.length_append, List.length_singleton]
    omega
  refine (if_neg inRange).trans ((if_neg complete).trans ?_)
  show (if crc8Ok (0x5A#8 :: 0x43#8 :: size' :: (number ++ [b])) = true ∧ natAt (0x5A#8 :: 0x43#8 :: size' :: (number ++ [b])) 3 size'.toNat ≠ 0
    then ReaderRead.card (natAt (0x5A#8 :: 0x43#8 :: size' :: (number ++ [b])) 3 size'.toNat) else .bad) = _
  rw [size, value]
  refine if_congr (and_congr_left' ?_) rfl rfl
  rw [← decide_eq_true_iff (p := b = _), ← crc]
  rfl

/-- A STATUS that the byte completes. -/
theorem judgeReader_status_whole (flag b : Byte) :
    judgeReader [0x5A#8, 0x53#8, flag, b] =
      if b = crc8 [0x5A#8, 0x53#8, flag] ∧ flag.toNat ≤ 1 then .status (decide (flag.toNat = 1)) else .bad := by
  show (if crc8Ok [0x5A#8, 0x53#8, flag, b] = true ∧ flag.toNat ≤ 1 then ReaderRead.status (decide (flag.toNat = 1)) else .bad) = _
  refine if_congr (and_congr_left' ?_) rfl rfl
  rw [← decide_eq_true_iff (p := b = _), ← crc8Ok_concat]
  rfl

theorem exec_readerFrameByte (p : Port) (b : Byte) (s : State) : exec (.readerFrameByte p b) s = .next (s.readerByte p b) := rfl

/-- Settles O34: the bytes gathered so far are judged with the new one, kind by kind. -/
theorem readerBytesMakeFrames : Obligations.ReaderBytesMakeFrames := by
  intro p b s
  refine ⟨fun idle other => ?_, fun idle => ?_, fun x gathering late => ⟨s.badFrame p, rfl, ?_⟩, fun last intime =>
    ⟨fun gathering => ⟨fun known => ?_, fun card status => ?_⟩, fun gathering => ⟨fun low high => ?_, fun outside => ?_⟩,
      fun size number high short gathering => ?_, fun gathering => ?_, fun flag gathering => ⟨fun crc low => ?_, fun wrong => ?_⟩,
      fun number low high => ?_⟩⟩
  · rw [exec_readerFrameByte, State.readerByte_hunting b idle, State.huntReader, if_neg other]
  · rw [exec_readerFrameByte, State.readerByte_hunting _ idle]
    rfl
  · rw [exec_readerFrameByte, exec_readerFrameByte, State.readerByte_late b gathering late, State.readerByte_hunting b (s.badFrame_rx p)]
  · have unfinished : judgeReader [0x5A#8, b] = .unfinished := by rcases known with rfl | rfl <;> rfl
    rw [exec_readerFrameByte, State.readerByte_gathering b gathering intime]
    exact congrArg Host.Outcome.next (State.takeReader_unfinished unfinished)
  · rw [exec_readerFrameByte, State.readerByte_gathering b gathering intime]
    exact congrArg Host.Outcome.next (State.takeReader_bad (judgeReader_otherKind card status))
  · rw [exec_readerFrameByte, State.readerByte_gathering b gathering intime]
    exact congrArg Host.Outcome.next (State.takeReader_unfinished (judgeReader_card_unfinished low high (Nat.zero_le _)))
  · rw [exec_readerFrameByte, State.readerByte_gathering b gathering intime]
    exact congrArg Host.Outcome.next (State.takeReader_bad (judgeReader_card_badSize outside))
  · rw [exec_readerFrameByte, State.readerByte_gathering b gathering intime]
    refine congrArg Host.Outcome.next (State.takeReader_unfinished (judgeReader_card_unfinished (rest := number ++ [b]) ?_ high ?_))
    · omega
    · rw [List.length_append, List.length_singleton]
      omega
  · rw [exec_readerFrameByte, State.readerByte_gathering b gathering intime]
    exact congrArg Host.Outcome.next (State.takeReader_unfinished (bytes := [0x5A#8, 0x53#8, b]) rfl)
  · rw [exec_readerFrameByte, State.readerByte_gathering b gathering intime]
    exact congrArg Host.Outcome.next (State.takeReader_status ((judgeReader_status_whole flag b).trans (if_pos ⟨crc, low⟩)))
  · rw [exec_readerFrameByte, State.readerByte_gathering b gathering intime]
    refine congrArg Host.Outcome.next (State.takeReader_bad ((judgeReader_status_whole flag b).trans (if_neg fun right => ?_)))
    exact wrong.elim (absurd right.1) fun beyond => absurd right.2 (Nat.not_le.mpr beyond)
  · intro frame gathering
    have whole := judgeReader_card_whole b low high
    rw [exec_readerFrameByte, State.readerByte_gathering b gathering intime]
    refine ⟨fun crc number => ?_, fun wrong => ?_⟩
    · exact congrArg Host.Outcome.next (State.takeReader_card (whole.trans (if_pos ⟨crc, number⟩)))
    · refine congrArg Host.Outcome.next (State.takeReader_bad (whole.trans (if_neg fun right => ?_)))
      exact wrong.elim (absurd right.1) (absurd · right.2)

/-! ## Link frames, byte by byte (R174) -/

theorem State.linkByte_hunting {s : State} {l : Link} (b : Byte) (idle : (s.link l).rx = none) : s.linkByte l b = s.huntLink l b := by
  unfold State.linkByte
  rw [idle]

theorem State.linkByte_gathering {s : State} {l : Link} {bytes : List Byte} {last : Nat} (b : Byte)
    (gathering : (s.link l).rx = some { bytes := bytes, last := last }) (intime : s.tmb.ms ≤ last + 20) :
    s.linkByte l b = s.takeLink l (bytes ++ [b]) := by
  unfold State.linkByte
  rw [gathering]
  exact if_neg (Nat.not_lt.mpr intime)

theorem State.linkByte_late {s : State} {l : Link} {x : Partial} (b : Byte) (gathering : (s.link l).rx = some x)
    (late : x.last + 20 < s.tmb.ms) : s.linkByte l b = (s.abandon l).huntLink l b := by
  unfold State.linkByte
  rw [gathering]
  exact if_pos late

theorem State.abandon_rx (s : State) (l : Link) : ((s.abandon l).link l).rx = none := by
  cases l <;> rfl

theorem State.takeLink_unfinished {s : State} {l : Link} {bytes : List Byte} (unfinished : judgeLink bytes = .unfinished) :
    s.takeLink l bytes = s.modLink l fun p => { p with rx := some { bytes := bytes, last := s.tmb.ms } } := by
  unfold State.takeLink
  rw [unfinished]
  rfl

theorem State.takeLink_badLength {s : State} {l : Link} {bytes : List Byte} (bad : judgeLink bytes = .badLength) :
    s.takeLink l bytes = s.badLength l := by
  unfold State.takeLink
  rw [bad]

theorem State.takeLink_badCrc {s : State} {l : Link} {bytes : List Byte} (bad : judgeLink bytes = .badCrc) :
    s.takeLink l bytes = s.badCrc l := by
  unfold State.takeLink
  rw [bad]

theorem State.takeLink_frame {s : State} {l : Link} {bytes payload : List Byte} {tag kind : Byte}
    (frame : judgeLink bytes = .frame tag kind payload) : s.takeLink l bytes = s.received l tag kind payload := by
  unfold State.takeLink
  rw [frame]

theorem frameLength_eq (start low high : Byte) (rest : List Byte) :
    frameLength (start :: low :: high :: rest) = low.toNat + 256 * high.toNat := by
  show low.toNat + 256 * (high.toNat + 256 * 0) = _
  rw [Nat.mul_zero, Nat.add_zero]

theorem judgeLink_outside {low high : Byte} (outside : low.toNat + 256 * high.toNat < 2 ∨ 1024 < low.toNat + 256 * high.toNat) :
    judgeLink [0xA5#8, low, high] = .badLength := by
  rw [← frameLength_eq 0xA5#8 low high []] at outside
  exact if_pos outside

theorem judgeLink_unfinished {low high : Byte} {rest : List Byte} (least : 2 ≤ low.toNat + 256 * high.toNat)
    (most : low.toNat + 256 * high.toNat ≤ 1024) (short : rest.length < 2 + (low.toNat + 256 * high.toNat)) :
    judgeLink (0xA5#8 :: low :: high :: rest) = .unfinished := by
  rw [← frameLength_eq 0xA5#8 low high rest] at least most short
  have inRange : ¬(frameLength (0xA5#8 :: low :: high :: rest) < 2 ∨ 1024 < frameLength (0xA5#8 :: low :: high :: rest)) := by omega
  have missing : (0xA5#8 :: low :: high :: rest).length < 5 + frameLength (0xA5#8 :: low :: high :: rest) := by
    rw [List.length_cons, List.length_cons, List.length_cons]
    omega
  have length : ¬(0xA5#8 :: low :: high :: rest).length < 3 := by
    rw [List.length_cons, List.length_cons, List.length_cons]
    omega
  exact (if_neg length).trans ((if_neg inRange).trans (if_pos missing))

/-- A frame all of whose bytes have come. -/
theorem judgeLink_whole {low high tag kind first b : Byte} {payload : List Byte} (counts : low.toNat + 256 * high.toNat = 2 + payload.length)
    (most : payload.length ≤ 1022) :
    judgeLink (0xA5#8 :: low :: high :: tag :: kind :: (payload ++ [first, b])) =
      if (crc16 (low :: high :: tag :: kind :: payload)).toNat = first.toNat + 256 * b.toNat then .frame tag kind payload else .badCrc := by
  have length : frameLength (0xA5#8 :: low :: high :: tag :: kind :: (payload ++ [first, b])) = 2 + payload.length :=
    (frameLength_eq ..).trans counts
  have size : (0xA5#8 :: low :: high :: tag :: kind :: (payload ++ [first, b])).length = 5 + (2 + payload.length) := by
    simp only [List.length_cons, List.length_append, List.length_nil]
    omega
  have checked : ((0xA5#8 :: low :: high :: tag :: kind :: (payload ++ [first, b])).drop 1).take (2 + (2 + payload.length))
      = low :: high :: tag :: kind :: payload := by
    rw [show 2 + (2 + payload.length) = payload.length + 4 by omega]
    simp only [List.drop_succ_cons, List.drop_zero, List.take_succ_cons, List.take_left]
  have crc : natAt (0xA5#8 :: low :: high :: tag :: kind :: (payload ++ [first, b])) (3 + (2 + payload.length)) 2
      = first.toNat + 256 * b.toNat := by
    rw [show 3 + (2 + payload.length) = payload.length + 5 by omega, natAt]
    simp only [List.drop_succ_cons, List.drop_left]
    show first.toNat + 256 * (b.toNat + 256 * 0) = _
    rw [Nat.mul_zero, Nat.add_zero]
  have body : ((0xA5#8 :: low :: high :: tag :: kind :: (payload ++ [first, b])).drop 5).take (2 + payload.length - 2) = payload := by
    rw [Nat.add_sub_cancel_left]
    exact List.take_left
  unfold judgeLink
  rw [size, length, if_neg (by omega), if_neg (by omega), if_neg (by omega), judgeWhole, length, checked, crc, body]
  rfl

theorem RequestKind.ofCode_code (kind : RequestKind) : RequestKind.ofCode kind.code = some kind := by
  cases kind <;> rfl

theorem exec_linkFrameByte (l : Link) (b : Byte) (s : State) : exec (.linkFrameByte l b) s = .next (s.linkByte l b) := rfl

/-- The byte that completes a frame: a discard on a wrong CRC, else the event of its kind. -/
theorem linkByte_completes {s : State} {l : Link} {low high tag kind first b : Byte} {payload : List Byte} {last : Nat}
    (counts : low.toNat + 256 * high.toNat = 2 + payload.length) (most : payload.length ≤ 1022)
    (gathering : (s.link l).rx = some { bytes := 0xA5#8 :: low :: high :: tag :: kind :: (payload ++ [first]), last := last })
    (intime : s.tmb.ms ≤ last + 20) :
    ((crc16 (low :: high :: tag :: kind :: payload)).toNat ≠ first.toNat + 256 * b.toNat →
      exec (.linkFrameByte l b) s = exec (.linkFrameBadCrc l) s)
    ∧ ((crc16 (low :: high :: tag :: kind :: payload)).toNat = first.toNat + 256 * b.toNat →
      (∀ known : RequestKind, known.code = kind.toNat → exec (.linkFrameByte l b) s = exec (Instr.ofRequest l tag payload known) s)
      ∧ (kind.toNat ∉ requestCodes → exec (.linkFrameByte l b) s = exec (.unknownKind l tag kind) s)) := by
  have whole := judgeLink_whole (tag := tag) (kind := kind) (first := first) (b := b) counts most
  have bytes : (0xA5#8 :: low :: high :: tag :: kind :: (payload ++ [first])) ++ [b]
      = 0xA5#8 :: low :: high :: tag :: kind :: (payload ++ [first, b]) := by
    simp only [List.cons_append, List.append_assoc, List.nil_append]
  rw [exec_linkFrameByte, State.linkByte_gathering b gathering intime, bytes]
  refine ⟨fun wrong => ?_, fun right => ?_⟩
  · exact congrArg Host.Outcome.next (State.takeLink_badCrc (whole.trans (if_neg wrong)))
  · rw [State.takeLink_frame (whole.trans (if_pos right))]
    refine ⟨fun known code => ?_, fun unknown => ?_⟩
    · rw [exec_ofRequest, State.received, ← code, RequestKind.ofCode_code]
    · show _ = execUnknownKind l tag kind s
      rw [execUnknownKind, State.received, RequestKind.ofCode_eq_none unknown]

/-- The two bytes of a CRC-16 spell it. -/
theorem crc16_halves (c : BitVec 16) (b : Byte) :
    c.toNat = (BitVec.ofNat 8 c.toNat).toNat + 256 * b.toNat ↔ b = BitVec.ofNat 8 (c.toNat / 256) := by
  have small : c.toNat < 65536 := c.isLt
  rw [← BitVec.toNat_inj, BitVec.toNat_ofNat, BitVec.toNat_ofNat]
  omega

theorem RequestKind.code_toNat (kind : RequestKind) : (BitVec.ofNat 8 kind.code).toNat = kind.code := by
  cases kind <;> rfl

/-- Settles O36: the bytes gathered so far are judged with the new one, length field first, then the CRC. -/
theorem linkBytesMakeRequests : Obligations.LinkBytesMakeRequests := by
  intro l b s
  refine ⟨fun idle other => ?_, fun idle => ?_, fun x gathering late => ⟨s.abandon l, execLinkFrameGap_of_due gathering (Nat.le_of_lt late), ?_⟩,
    fun last intime => ?_⟩
  · rw [exec_linkFrameByte, State.linkByte_hunting b idle, State.huntLink, if_neg other]
  · rw [exec_linkFrameByte, State.linkByte_hunting _ idle]
    rfl
  · rw [exec_linkFrameByte, exec_linkFrameByte, State.linkByte_late b gathering late, State.linkByte_hunting b (s.abandon_rx l)]
  · intro gathers
    have gathersOf {bytes : List Byte} (gathering : (s.link l).rx = some { bytes := bytes, last := last })
        (unfinished : judgeLink (bytes ++ [b]) = .unfinished) : gathers bytes := by
      show exec (.linkFrameByte l b) s = _
      rw [exec_linkFrameByte, State.linkByte_gathering b gathering intime, State.takeLink_unfinished unfinished]
    refine ⟨fun gathering => gathersOf gathering rfl, fun low gathering least most => ?_, fun low high body least most short gathering => ?_,
      fun low high tag kind first payload counts most => ?_, fun low gathering outside => ?_, fun kind tag payload most => ?_⟩
    · exact gathersOf gathering (judgeLink_unfinished (rest := []) least most (Nat.lt_of_lt_of_le Nat.zero_lt_two (Nat.le_add_right ..)))
    · refine gathersOf gathering (judgeLink_unfinished (rest := body ++ [b]) least most ?_)
      rw [List.length_append, List.length_singleton]
      omega
    · intro counted gathering
      exact linkByte_completes counts most gathering intime
    · rw [exec_linkFrameByte, State.linkByte_gathering b gathering intime]
      exact congrArg Host.Outcome.next (State.takeLink_badLength (judgeLink_outside outside))
    · intro counted low high gathering
      have counts : (BitVec.ofNat 8 (2 + payload.length)).toNat + 256 * (BitVec.ofNat 8 ((2 + payload.length) / 256)).toNat
          = 2 + payload.length := by
        rw [BitVec.toNat_ofNat, BitVec.toNat_ofNat]
        omega
      obtain ⟨wrong, right⟩ := linkByte_completes (b := b) counts most gathering intime
      have spelt := crc16_halves (crc16 counted) b
      exact ⟨fun same => (right (spelt.mpr same)).1 kind kind.code_toNat.symm, fun other => wrong fun same => other (spelt.mp same)⟩

end Sys2Proof.Machine

/-! Reader ports: the good STATUS frames, tamper and silence. -/

namespace Sys2Proof.Machine

/-! ## A port that enters TAMPERED (R168) -/

/-- The unused permits of a port leave the queue of its lane (R63). -/
def LaneState.tamperRemoved (p : Port) (l : LaneState) : LaneState := l.setPermits (l.pq.permits.filter fun x => !tamperTakes p x)

theorem tamperRemove_eq (p : Port) (w : Work) :
    tamperRemove p w = w.takes (w.lane.tamperRemoved p) ((w.lane.pq.permits.filter (tamperTakes p)).map fun x => .permitEnd x .tamper) := by
  unfold tamperRemove
  rw [foldl_emit]
  rfl

theorem State.modPort_sameDevice (s : State) (p : Port) (f : ReaderPort → ReaderPort) : s.sameDevice (s.modPort p f) :=
  ⟨LinkPort.sameButQueue_refl _, LinkPort.sameButQueue_refl _, rfl, rfl, rfl, rfl, rfl, rfl, rfl⟩

theorem State.sameDevice.trans {a b c : State} (h : a.sameDevice b) (g : b.sameDevice c) : a.sameDevice c := by
  obtain ⟨site, desk, routing, cst, tmb, ims, egress, key, pending⟩ := h
  obtain ⟨site', desk', routing', cst', tmb', ims', egress', key', pending'⟩ := g
  exact ⟨LinkPort.sameButQueue_trans site site', LinkPort.sameButQueue_trans desk desk', routing'.trans routing, cst'.trans cst,
    tmb'.trans tmb, ims'.trans ims, egress'.trans egress, key'.trans key, pending'.trans pending⟩

/-- What the entry into TAMPERED comes to: the lane's unused permits of the port, its referrals, and the alarm. -/
theorem State.tamperEntry_effect (s : State) (p : Port) :
    (s.setPort p .tampered).samePart (s.tamperEntry p)
    ∧ (s.tamperEntry p).lane (portLane p) = ((s.lane (portLane p)).tamperRemoved p).raise s.tmb.ms .tamper
    ∧ (∀ j, j ≠ portLane p → (s.tamperEntry p).lane j = s.lane j)
    ∧ (s.tamperEntry p).rfu = { s.rfu with slots := s.rfu.slots.filter fun x => !(x.reader == p) } := by
  obtain ⟨lane, others, slots, part⟩ := State.runLane_frame (s := s.setPort p .tampered) (k := portLane p) (f := fun _ w => tamperRemove p w)
    (l := (s.lane (portLane p)).tamperRemoved p) (by rw [tamperRemove_eq]; exact ⟨rfl, rfl⟩)
  have entry : s.tamperEntry p = (((((s.setPort p .tampered).runLane (portLane p) fun _ w => tamperRemove p w).closeSlots
      (fun x => x.reader == p) .tamper).modLane (portLane p) (LaneState.raise s.tmb.ms .tamper)).postReader p (.tamper (s.port p).state)) := rfl
  rw [entry]
  generalize (s.setPort p .tampered).runLane (portLane p) (fun _ w => tamperRemove p w) = a at *
  obtain ⟨lanes, closed⟩ := a.closeSlots_lanes (fun x => x.reader == p) .tamper
  have part' := part.trans (a.closeSlots_samePart (fun x => x.reader == p) .tamper)
  generalize a.closeSlots (fun x => x.reader == p) .tamper = b at *
  have same (j : Lane) : b.lane j = a.lane j := by rw [State.lane, lanes, State.lane]
  have posted (t : State) (e : ReaderEvent) (j : Lane) : (t.postReader p e).lane j = t.lane j := State.post_lane ..
  refine ⟨(part'.trans (b.modLane_samePart _ _)).trans (State.post_samePart ..), ?_, fun j other => ?_, ?_⟩
  · rw [posted, State.modLane_lane, same, lane]
  · rw [posted, State.modLane_lane_of_ne _ _ other, same, others j other]
    rfl
  · rw [State.postReader, State.post_rfu, State.modLane_rfu, closed, slots]
    rfl

theorem State.modPort_ports_congr {s t : State} (h : s.ports = t.ports) (p : Port) (f : ReaderPort → ReaderPort) :
    (s.modPort p f).ports = (t.modPort p f).ports := by
  unfold State.modPort State.port
  rw [h]

/-! ## Good STATUS frames (R164, R167 to R169) -/

/-- What a good STATUS frame records of its port. -/
def State.heard (s : State) (p : Port) (st : PortState) (flag : Bool) : State :=
  s.modPort p fun r => { r with bad := 0, lastGood := some s.tmb.ms, rx := none, tamper := flag, state := st }

/-- A port that takes a state with its notice, and then its tamper flag. -/
theorem State.heard_moved (s : State) (p : Port) (st : PortState) (flag : Bool) (e : ReaderEvent) :
    (((s.goodFrame p).setPort p st).postReader p e).modPort p (fun r => { r with tamper := flag })
      = (s.heard p st flag).post (laneNumber (portLane p)) (.reader p e st) := by
  have notice : ((s.goodFrame p).setPort p st).postReader p e
      = ((s.goodFrame p).setPort p st).post (laneNumber (portLane p)) (.reader p e st) := by
    rw [State.postReader, State.setPort, State.modPort_port]
  rw [notice, ← State.post_modPort, State.setPort, State.goodFrame, State.modPort_modPort, State.modPort_modPort]
  rfl

/-- A port that keeps its state takes its tamper flag alone. -/
theorem State.heard_kept (s : State) (p : Port) {st : PortState} (flag : Bool) (state : (s.port p).state = st) :
    (s.goodFrame p).modPort p (fun r => { r with tamper := flag }) = s.heard p st flag := by
  rw [State.goodFrame, State.modPort_modPort, ← state]
  exact State.modPort_congr rfl

theorem exec_readerStatusFrame (p : Port) (flag : Bool) (s : State) :
    exec (.readerStatusFrame p flag) s = .next (State.refresh (portLane p) (s.statusFrame p flag)) := rfl

theorem State.goodFrame_state (s : State) (p : Port) : ((s.goodFrame p).port p).state = (s.port p).state := by
  rw [State.goodFrame, State.modPort_port]
  rfl

theorem exec_readerStatusFrame_of_moved {s t : State} {p : Port} {flag : Bool} (moved : (s.goodFrame p).statusState p flag = t) :
    exec (.readerStatusFrame p flag) s = .next (State.refresh (portLane p) (t.modPort p fun r => { r with tamper := flag })) := by
  rw [exec_readerStatusFrame, State.statusFrame, moved]

theorem statusFrameMovesPort_claim : Claims.StatusFrameMovesPort := by
  intro p s k heard
  have good := s.goodFrame_state p
  refine ⟨fun absent => ?_, fun tampered => ?_, fun present => ?_, fun tampered => ?_, fun untampered => ?_⟩
  · refine (exec_readerStatusFrame_of_moved (by unfold State.statusState; rw [good, absent])).trans ?_
    exact congrArg (fun t => Host.Outcome.next (State.refresh k t)) (s.heard_moved p .present false .present)
  · refine (exec_readerStatusFrame_of_moved (by unfold State.statusState; rw [good, tampered])).trans ?_
    exact congrArg (fun t => Host.Outcome.next (State.refresh k t)) (s.heard_moved p .present false .tamperCleared)
  · refine (exec_readerStatusFrame_of_moved (by unfold State.statusState; rw [good, present])).trans ?_
    exact congrArg (fun t => Host.Outcome.next (State.refresh k t)) (s.heard_kept p false present)
  · refine (exec_readerStatusFrame_of_moved (by unfold State.statusState; rw [good, tampered])).trans ?_
    exact congrArg (fun t => Host.Outcome.next (State.refresh k t)) (s.heard_kept p true tampered)
  · have enters : exec (.readerStatusFrame p true) s
        = .next (State.refresh k (((s.goodFrame p).tamperEntry p).modPort p fun r => { r with tamper := true })) := by
      cases state : (s.port p).state with
      | absent => exact exec_readerStatusFrame_of_moved (by unfold State.statusState; rw [good, state])
      | present => exact exec_readerStatusFrame_of_moved (by unfold State.statusState; rw [good, state])
      | tampered => exact absurd state untampered
    obtain ⟨⟨ports, part⟩, lane, others, slots⟩ := (s.goodFrame p).tamperEntry_effect p
    refine ⟨_, enters, ?_⟩
    generalize (s.goodFrame p).tamperEntry p = u at *
    have flagged (f : ReaderPort → ReaderPort) (j : Lane) : (u.modPort p f).lane j = u.lane j := rfl
    have away (j : Lane) (other : j ≠ k) : (State.refresh k (u.modPort p fun r => { r with tamper := true })).lane j = s.lane j := by
      rw [State.refresh_lane_of_ne _ other, flagged, others j other]
      rfl
    have at_lane : (State.refresh k (u.modPort p fun r => { r with tamper := true })).lane k
        = (((s.lane k).tamperRemoved p).raise s.tmb.ms .tamper).withOutputs u.rfu.slots k := by
      rw [State.refresh_lane, flagged, lane]
      rfl
    rw [at_lane]
    refine ⟨?_, ?_, away, rfl, ?_, rfl, rfl, rfl, rfl, rfl, rfl, rfl, rfl⟩
    · exact (((s.modPort_sameDevice p _).trans ((State.modPort_sameDevice _ p _).trans part)).trans (u.modPort_sameDevice p _)).trans
        (State.refresh_samePart _ k).2
    · rw [State.refresh_ports, State.modPort_ports_congr ports, State.setPort, State.goodFrame, State.modPort_modPort, State.modPort_modPort]
      rfl
    · rw [State.refresh_rfu]
      refine slots.trans (congrArg (fun xs => { s.rfu with slots := xs }) (List.filter_congr fun x _ => ?_))
      rw [decide_not]
      rfl

/-! ## Silence (R167) -/

theorem silentPortGoesAbsent_claim : Claims.SilentPortGoesAbsent := by
  intro p s t good
  have ran : exec (.silenceTest p) s = .next (s.silenceTest p) := rfl
  rw [ran]
  unfold State.silenceTest
  rw [good]
  refine ⟨fun there silent => ?_, fun absent => ?_⟩
  · have isDue : due s.tmb.ms (t + (s.lane (portLane p)).timing.silenceTime * 1000) = true := decide_eq_true silent
    refine congrArg Host.Outcome.next ((if_pos ⟨there, isDue⟩).trans ?_)
    rw [State.postReader, State.setPort, State.modPort_port]
  · exact congrArg Host.Outcome.next (if_neg fun elapsed => elapsed.1 absent)

/-- Settles O32: the port's state with the frame's flag decides, and silence takes any state but ABSENT to ABSENT. -/
theorem portStateMoves : Obligations.PortStateMoves := ⟨statusFrameMovesPort_claim, silentPortGoesAbsent_claim⟩

end Sys2Proof.Machine

/-! Lane requests that change what the queue or the supervisor keeps: PULSE, CANCEL, ALARM_ACK, RESTORE, HOLD and RELEASE. -/

namespace Sys2Proof.Machine

/-! ## A lane request carried out as one event of its lane -/

@[simp] theorem State.hunt_env (s : State) (l : Link) (k : Lane) : (s.hunt l).env k = s.env k := by
  rw [State.env, State.hunt_tmb, State.hunt_clock, State.env]

@[simp] theorem State.hunt_work (s : State) (l : Link) (k : Lane) : (s.hunt l).work k = s.work k := by
  rw [State.work, State.hunt_lane, State.hunt_cst, State.work]

/-- A request carried out as one event of lane k: the lane with its outputs worked out, and the notices. -/
theorem done_runLane {s : State} {l : Link} {k : Lane} {f : Env → Work → Work} {v : Work} (h : f (s.env k) (s.work k) = v)
    (creds : v.creds = s.cst.creds) (st : Status) (body : List Byte) :
    done k st ((s.hunt l).runLane k f) body =
      { state := (s.hunt l).laneEvent k (v.lane.withOutputs s.rfu.slots k) v.out, status := st, body := body } := by
  rw [done, State.laneEvent_of_runLane (s := s.hunt l) (v := v) (by rw [State.hunt_env, State.hunt_work, h]) (by rw [State.hunt_cst, creds]),
    State.hunt_rfu]

/-! ## PULSE and CANCEL (R60, R61) -/

theorem dirOfCode_dirCode (d : Direction) : dirOfCode (dirCode d) = some d := by cases d <;> rfl

theorem pulseFields_eq {m : Mode} {p : List Byte} {d : Direction} (mode : m = .service ∨ m = .lockdown) (dir : byteAt p 1 = dirCode d)
    (least : 1 ≤ byteAt p 2) (most : byteAt p 2 ≤ 8) : pulseFields m p = some (d, byteAt p 2) := by
  have open_ : m ≠ .dark ∧ m ≠ .closed ∧ 1 ≤ byteAt p 2 ∧ byteAt p 2 ≤ 8 := by
    rcases mode with rfl | rfl
    · exact ⟨nofun, nofun, least, most⟩
    · exact ⟨nofun, nofun, least, most⟩
  rw [pulseFields, if_pos open_, dir, dirOfCode_dirCode]
  rfl

/-- A READY permit opens a lane that has no SENSOR condition. -/
theorem LaneState.opensFromShut_of_ready {l : LaneState} (ready : l.readyQueued = true) (clear : l.bsu.causes.any = false) :
    l.opensFromShut = true := by
  rw [LaneState.opensFromShut, LaneState.sensor, ready, clear, Bool.false_and, Bool.false_and, Bool.not_false, Bool.and_self, Bool.or_true]

/-- The lane of an accepted PULSE. -/
def LaneState.pulsed (now : Nat) (d : Direction) (n : Nat) (l : LaneState) : LaneState := l.queuePermit now (pulseReq d n)

theorem append_pulse {e : Env} {d : Direction} {n : Nat} {w : Work} (allows : w.lane.pq.claim = none ∨ w.lane.pq.claim = some d)
    (room : w.lane.pq.permits.length < 4) :
    append e (pulseReq d n) w =
      .accepted (evalOpen e (w.mod (LaneState.pulsed e.now d n))) (firstFree w.lane.permitNumbers 255 w.lane.pq.next) .ready :=
  append_accepted (r := pulseReq d n) allows room

/-- The barrier of a shut lane begins to open behind a PULSE, unless a SENSOR condition keeps it. -/
theorem evalOpen_pulsed_opening {e : Env} {d : Direction} {n : Nat} {w : Work} (mode : w.lane.lsv.mode = .service ∨ w.lane.lsv.mode = .lockdown)
    (shut : w.lane.bc.state = .shut) (clear : w.lane.bsu.causes.any = false) (limit : w.lane.bc.openLimit = false) :
    (evalOpen e (w.mod (LaneState.pulsed e.now d n))).lane.bc.state = .opening := by
  have ready : (w.lane.pulsed e.now d n).readyQueued = true :=
    (LaneState.readyQueued_iff _).mpr ⟨_, newPermit_mem_queuePermit e.now (pulseReq d n) w.lane, rfl⟩
  have opens : (w.lane.pulsed e.now d n).opensFromShut = true := LaneState.opensFromShut_of_ready ready clear
  have lit : (w.lane.pulsed e.now d n).lsv.mode ≠ .dark := by
    show w.lane.lsv.mode ≠ .dark
    rcases mode with m | m <;> rw [m] <;> nofun
  rw [evalOpen_of_opens (w := w.mod (LaneState.pulsed e.now d n)) shut lit opens,
    beginOpening_of_limit_off (w := w.mod (LaneState.pulsed e.now d n)) limit, Work.mod_lane, LaneState.openingAt_eq]

theorem pulse_claim {l : Link} {tag : Byte} {p : List Byte} {k : Lane} {s : State} {d : Direction} (reached : s.reachesLane l .pulse p k)
    (free : s.mayChange l k) (mode : (s.lane k).lsv.mode = .service ∨ (s.lane k).lsv.mode = .lockdown) (dir : byteAt p 1 = dirCode d)
    (least : 1 ≤ byteAt p 2) (most : byteAt p 2 ≤ 8) (allows : (s.lane k).pq.claim = none ∨ (s.lane k).pq.claim = some d)
    (room : (s.lane k).pq.permits.length < 4) :
    exec (.pulse l tag p) s =
      .next (((s.hunt l).laneEvent k
        ((evalOpen (s.env k) ((s.work k).mod (LaneState.pulsed s.tmb.ms d (byteAt p 2)))).lane.withOutputs s.rfu.slots k)
        (evalOpen (s.env k) ((s.work k).mod (LaneState.pulsed s.tmb.ms d (byteAt p 2)))).out).reply l
          (replyOf .pulse tag .ok (fld 1 (firstFree (s.lane k).permitNumbers 255 (s.lane k).pq.next)))) := by
  have lit : (s.lane k).lsv.mode ≠ .egress := by rcases mode with m | m <;> rw [m] <;> nofun
  have creds := (evalOpen_frame (s.env k) ((s.work k).mod (LaneState.pulsed s.tmb.ms d (byteAt p 2)))).2.2.2.2.2.2.2.2.2.2.2
  refine exec_of_judgedLane (judge := judgePulse l) reached tag rfl (.trans ?_
    (done_runLane (f := fun e w => evalOpen e (w.mod (LaneState.pulsed e.now d (byteAt p 2)))) rfl creds .ok
      (fld 1 (firstFree (s.lane k).permitNumbers 255 (s.lane k).pq.next))))
  rw [judgePulse, State.heldFor_of_mayChange free, State.hunt_lane, if_neg Bool.false_ne_true, if_neg lit,
    pulseFields_eq mode dir least most, State.hunt_env, State.hunt_work, State.runLane_eq, State.hunt_env, State.hunt_work]
  dsimp only
  rw [append_pulse (w := s.work k) allows room]
  rfl

theorem removePermit_eq (p : Permit) (ended : PermitEnd) (w : Work) :
    removePermit p ended w
      = w.takes (w.lane.setPermits (w.lane.pq.permits.filter fun x => decide (x.number ≠ p.number))) [.permitEnd p ended] := rfl

/-- An element that alone passes a test is the one found. -/
theorem find?_eq_of_only {α : Type} {test : α → Bool} {xs : List α} {x : α} (mem : x ∈ xs) (passes : test x = true)
    (only : ∀ y ∈ xs, test y = true → y = x) : xs.find? test = some x := by
  cases found : xs.find? test with
  | none => exact absurd passes (List.find?_eq_none.mp found x mem)
  | some y => rw [only y (List.mem_of_find?_eq_some found) (List.find?_some found)]

/-- Settles O43: each request is one event of its lane, behind the tests of its owner. -/
theorem pulseAndCancel : Obligations.PulseAndCancel := by
  intro l tag p k s old h
  refine ⟨fun d reached free mode dir least most allows room => ?_, fun reached free lit => ⟨fun whole => ?_, fun q queued number some_ only => ?_,
    fun one absent => ?_⟩⟩
  · refine ⟨_, _, pulse_claim reached free mode dir least most allows room, ?_⟩
    have opening := evalOpen_pulsed_opening (e := s.env k) (d := d) (n := byteAt p 2) (w := s.work k) mode
    obtain ⟨-, -, bsu, ot, pq, mode', -, -, -, -, reported, -⟩ :=
      evalOpen_frame (s.env k) ((s.work k).mod (LaneState.pulsed s.tmb.ms d (byteAt p 2)))
    refine ⟨?_, ?_, ot, reported, bsu, mode', fun shut clear limit => opening shut clear limit⟩
    · exact (congrArg Pq.permits pq).trans (LaneState.queuePermit_permits ..)
    · exact (congrArg Pq.next pq).trans (LaneState.queuePermit_next ..)
  · have judged : judgeCancel l k p h = done k .ok (h.runLane k fun _ w => cancelAll w) [] := by
      rw [judgeCancel, State.heldFor_of_mayChange free, State.hunt_lane, if_neg Bool.false_ne_true, if_neg lit, if_pos whole]
    refine ⟨_, exec_of_judgedLane (judge := judgeCancel l) reached tag rfl
      (judged.trans (done_runLane (f := fun _ w => cancelAll w) (cancelAll_eq _) rfl _ _)), ?_⟩
    exact ⟨rfl, rfl, rfl, rfl, rfl, rfl, rfl, rfl, rfl⟩
  · have found : old.pq.permits.find? (fun x => x.number == byteAt p 1) = some q :=
      find?_eq_of_only queued (beq_iff_eq.mpr number.symm) fun y mem test => only y mem ((beq_iff_eq.mp test).trans number)
    have judged : judgeCancel l k p h = done k .ok (h.runLane k fun _ w => removePermit q .cancelled w) [] := by
      rw [judgeCancel, State.heldFor_of_mayChange free, State.hunt_lane, if_neg Bool.false_ne_true, if_neg lit, if_neg (number ▸ some_), found]
    refine ⟨_, exec_of_judgedLane (judge := judgeCancel l) reached tag rfl
      (judged.trans (done_runLane (f := fun _ w => removePermit q .cancelled w) (removePermit_eq q .cancelled _) rfl _ _)), ?_⟩
    exact ⟨rfl, rfl, rfl, rfl, rfl, rfl, rfl, rfl⟩
  · have missing : old.pq.permits.find? (fun x => x.number == byteAt p 1) = none :=
      List.find?_eq_none.mpr fun y mem test => absent y mem (beq_iff_eq.mp test)
    refine exec_of_judgedLane (judge := judgeCancel l) reached tag rfl ?_
    rw [judgeCancel, State.heldFor_of_mayChange free, State.hunt_lane, if_neg Bool.false_ne_true, if_neg lit, if_neg one, missing]
    rfl

/-! ## ALARM_ACK (R99) -/

theorem AlarmSet.latched_putLatched (a : AlarmSet) (j k : LatchedKind) (x : LatchedAlarm) :
    (a.putLatched k x).latched j = if j = k then x else a.latched j := by
  cases k <;> cases j <;> rfl

theorem AlarmSet.condition_putLatched (a : AlarmSet) (c : ConditionKind) (k : LatchedKind) (x : LatchedAlarm) :
    (a.putLatched k x).condition c = a.condition c := by
  cases k <;> cases c <;> rfl

theorem AlarmSet.latched_putCondition (a : AlarmSet) (k : LatchedKind) (c : ConditionKind) (x : ConditionAlarm) :
    (a.putCondition c x).latched k = a.latched k := by
  cases c <;> cases k <;> rfl

theorem AlarmSet.condition_putCondition (a : AlarmSet) (j c : ConditionKind) (x : ConditionAlarm) :
    (a.putCondition c x).condition j = if j = c then x else a.condition j := by
  cases c <;> cases j <;> rfl

/-- An alarm set with the latched kinds of a list cleared, and the condition kinds of another silenced (R99). -/
def AlarmSet.acked (ks : List LatchedKind) (cs : List ConditionKind) (a : AlarmSet) : AlarmSet :=
  cs.foldl (fun a c => a.putCondition c { active := true, silenced := true }) (ks.foldl (fun a k => a.putLatched k .clear) a)

theorem AlarmSet.acked_latched (ks : List LatchedKind) (cs : List ConditionKind) (a : AlarmSet) (k : LatchedKind) :
    (a.acked ks cs).latched k = if k ∈ ks then .clear else a.latched k := by
  have silencing (b : AlarmSet) : (cs.foldl (fun a c => a.putCondition c { active := true, silenced := true }) b).latched k = b.latched k := by
    induction cs generalizing b with
    | nil => rfl
    | cons c cs ih => rw [List.foldl_cons, ih, AlarmSet.latched_putCondition]
  rw [AlarmSet.acked, silencing]
  induction ks generalizing a with
  | nil => rfl
  | cons j ks ih =>
    rw [List.foldl_cons, ih, AlarmSet.latched_putLatched]
    by_cases behind : k ∈ ks
    · rw [if_pos behind, if_pos (List.mem_cons_of_mem _ behind)]
    · rw [if_neg behind]
      simp only [List.mem_cons, behind, or_false]

theorem AlarmSet.acked_condition (ks : List LatchedKind) (cs : List ConditionKind) (a : AlarmSet) (c : ConditionKind) :
    (a.acked ks cs).condition c = if c ∈ cs then { active := true, silenced := true } else a.condition c := by
  have clearing (b : AlarmSet) : (ks.foldl (fun a k => a.putLatched k .clear) b).condition c = b.condition c := by
    induction ks generalizing b with
    | nil => rfl
    | cons k ks ih => rw [List.foldl_cons, ih, AlarmSet.condition_putLatched]
  rw [AlarmSet.acked, ← clearing a]
  generalize ks.foldl (fun a k => a.putLatched k .clear) a = b
  induction cs generalizing b with
  | nil => rfl
  | cons j cs ih =>
    rw [List.foldl_cons, ih, AlarmSet.condition_putCondition]
    by_cases behind : c ∈ cs
    · rw [if_pos behind, if_pos (List.mem_cons_of_mem _ behind)]
    · rw [if_neg behind]
      simp only [List.mem_cons, behind, or_false]

/-- The lane with its alarm set acknowledged. -/
def LaneState.acked (ks : List LatchedKind) (cs : List ConditionKind) (l : LaneState) : LaneState :=
  { l with lsv := { l.lsv with alarms := l.lsv.alarms.acked ks cs } }

theorem foldl_silence_clear (ks : List LatchedKind) (cs : List ConditionKind) (l : LaneState) :
    cs.foldl (fun m c => m.silence c) (ks.foldl (fun m k => m.clearLatched k) l) = l.acked ks cs := by
  have clearing (ks : List LatchedKind) (l : LaneState) : ks.foldl (fun m k => m.clearLatched k) l
      = { l with lsv := { l.lsv with alarms := ks.foldl (fun a k => a.putLatched k .clear) l.lsv.alarms } } := by
    induction ks generalizing l with
    | nil => rfl
    | cons k ks ih => rw [List.foldl_cons, ih]; rfl
  have silencing (cs : List ConditionKind) (l : LaneState) : cs.foldl (fun m c => m.silence c) l
      = { l with
          lsv := { l.lsv with alarms := cs.foldl (fun a c => a.putCondition c { active := true, silenced := true }) l.lsv.alarms } } := by
    induction cs generalizing l with
    | nil => rfl
    | cons c cs ih => rw [List.foldl_cons, ih]; rfl
  rw [clearing, silencing]
  rfl

theorem ackLatched_eq (codes : List Nat) :
    ackLatched codes = LatchedKind.all.filter fun k => decide (codes = [] ∨ latchedCode k ∈ codes) := by
  cases codes with
  | nil => exact (List.filter_eq_self.mpr fun _ _ => rfl).symm
  | cons c cs => exact List.filter_congr fun k _ => by simp

theorem ackConditions_eq (codes : List Nat) :
    ackConditions codes = ConditionKind.all.filter fun c => decide (codes = [] ∨ c.code ∈ codes) := by
  cases codes with
  | nil => exact (List.filter_eq_self.mpr fun _ _ => rfl).symm
  | cons c cs => exact List.filter_congr fun k _ => by simp

/-- The latched kinds that an acknowledgement clears, in code order. -/
def LaneState.ackCleared (codes : List Nat) (l : LaneState) : List LatchedKind :=
  LatchedKind.all.filter fun k => decide ((codes = [] ∨ latchedCode k ∈ codes) ∧ (l.lsv.alarms.latched k).set = true)

/-- The condition kinds that an acknowledgement silences, in code order. -/
def LaneState.ackSilenced (codes : List Nat) (l : LaneState) : List ConditionKind :=
  ConditionKind.all.filter fun c =>
    decide ((codes = [] ∨ c.code ∈ codes) ∧ (l.lsv.alarms.condition c).active = true ∧ (l.lsv.alarms.condition c).silenced = false)

theorem LaneState.mem_ackCleared {codes : List Nat} {l : LaneState} {k : LatchedKind} :
    k ∈ l.ackCleared codes ↔ (codes = [] ∨ latchedCode k ∈ codes) ∧ (l.lsv.alarms.latched k).set = true := by
  have every : k ∈ LatchedKind.all := by cases k <;> decide
  rw [LaneState.ackCleared, List.mem_filter, decide_eq_true_iff]
  exact and_iff_right every

theorem LaneState.mem_ackSilenced {codes : List Nat} {l : LaneState} {c : ConditionKind} :
    c ∈ l.ackSilenced codes ↔
      (codes = [] ∨ c.code ∈ codes) ∧ (l.lsv.alarms.condition c).active = true ∧ (l.lsv.alarms.condition c).silenced = false := by
  have every : c ∈ ConditionKind.all := by cases c <;> decide
  rw [LaneState.ackSilenced, List.mem_filter, decide_eq_true_iff]
  exact and_iff_right every

/-- An acknowledgement clears and silences what its list names, and tells of it in one notice. -/
theorem ackAlarms_eq (link : Link) (codes : List Nat) (w : Work) :
    ackAlarms link codes w =
      w.takes (w.lane.acked (w.lane.ackCleared codes) (w.lane.ackSilenced codes))
        (if w.lane.ackCleared codes = [] ∧ w.lane.ackSilenced codes = [] then []
         else [.lane (.alarmsAcked (w.lane.ackCleared codes) (w.lane.ackSilenced codes) link) w.lane.lsv.mode w.lane.lsv.policy]) := by
  have clears : (ackLatched codes).filter (fun k => (w.lane.lsv.alarms.latched k).set) = w.lane.ackCleared codes := by
    rw [ackLatched_eq, List.filter_filter, LaneState.ackCleared]
    refine List.filter_congr fun k _ => ?_
    rw [Bool.decide_and, Bool.decide_eq_true, Bool.and_comm]
  have silences : (ackConditions codes).filter (fun c => (w.lane.lsv.alarms.condition c).active && !(w.lane.lsv.alarms.condition c).silenced)
      = w.lane.ackSilenced codes := by
    rw [ackConditions_eq, List.filter_filter, LaneState.ackSilenced]
    refine List.filter_congr fun c _ => ?_
    rw [Bool.decide_and, Bool.decide_and, Bool.decide_eq_true, Bool.decide_eq_false, Bool.and_comm]
  unfold ackAlarms
  dsimp only
  rw [clears, silences]
  by_cases none : w.lane.ackCleared codes = [] ∧ w.lane.ackSilenced codes = []
  · rw [if_pos none, if_pos (by rw [none.1, none.2]; rfl), Work.mod_eq_takes, foldl_silence_clear]
  · rw [if_neg none, if_neg (by rwa [Bool.and_eq_true, List.isEmpty_iff, List.isEmpty_iff])]
    simp only [foldl_silence_clear]
    rfl

theorem ConditionAlarm.eq_of_silenced {a : ConditionAlarm} (active : a.active = true) (silenced : a.silenced = true) :
    a = { active := true, silenced := true } := by
  cases a
  cases active
  cases silenced
  rfl

/-- Settles O44: the kinds named are cleared or silenced in the alarm set, and nothing else is changed. -/
theorem alarmAckClears : Obligations.AlarmAckClears := by
  intro l tag p k s reached free codes inRange old listed cleared silenced
  have known : ((ackCodes p).all fun c => decide (1 ≤ c ∧ c ≤ 9)) = true := List.all_eq_true.mpr fun c mem => decide_eq_true (inRange c mem)
  have event := done_runLane (s := s) (l := l) (k := k) (f := fun _ w => ackAlarms l (ackCodes p) w) (ackAlarms_eq l (ackCodes p) _) rfl .ok
  have lane : (((s.hunt l).runLane k fun _ w => ackAlarms l (ackCodes p) w).lane k)
      = (s.lane k).acked ((s.lane k).ackCleared codes) ((s.lane k).ackSilenced codes) :=
    (State.runLane_frame (f := fun _ w => ackAlarms l (ackCodes p) w) (by
      rw [State.hunt_work, ackAlarms_eq, State.hunt_cst]
      exact ⟨rfl, rfl⟩)).1
  have judged : judgeAlarmAck l k p (s.hunt l) = done k .ok ((s.hunt l).runLane k fun _ w => ackAlarms l (ackCodes p) w)
      (((s.lane k).acked ((s.lane k).ackCleared codes) ((s.lane k).ackSilenced codes)).lsv.alarms.bytes s.tmb.ms) := by
    rw [judgeAlarmAck, State.heldFor_of_mayChange free, if_neg Bool.false_ne_true, if_pos known]
    dsimp only
    rw [lane, State.hunt_tmb]
  refine ⟨_, exec_of_judgedLane (judge := judgeAlarmAck l) reached tag rfl (judged.trans (event _)), fun a named => ?_, fun a other => ?_,
    fun c named => ?_, fun c other => ?_, rfl, rfl, rfl, rfl, rfl, rfl, rfl, rfl, rfl, rfl, rfl⟩
  · refine (AlarmSet.acked_latched _ _ _ a).trans (if_congr ?_ rfl rfl)
    rw [LaneState.mem_ackCleared]
    exact and_iff_right named
  · exact (AlarmSet.acked_latched _ _ _ a).trans (if_neg fun mem => other (LaneState.mem_ackCleared.mp mem).1)
  · refine (AlarmSet.acked_condition _ _ _ c).trans ?_
    by_cases active : (old.lsv.alarms.condition c).active = true
    · rw [if_pos active]
      by_cases silent : (old.lsv.alarms.condition c).silenced = true
      · refine (if_neg fun mem => Bool.false_ne_true ((LaneState.mem_ackSilenced.mp mem).2.2.symm.trans silent)).trans ?_
        exact ConditionAlarm.eq_of_silenced active silent
      · exact if_pos (LaneState.mem_ackSilenced.mpr ⟨named, active, Bool.eq_false_of_not_eq_true silent⟩)
    · rw [if_neg active]
      exact if_neg fun mem => active (LaneState.mem_ackSilenced.mp mem).2.1
  · exact (AlarmSet.acked_condition _ _ _ c).trans (if_neg fun mem => other (LaneState.mem_ackSilenced.mp mem).1)

end Sys2Proof.Machine

/-! Lane requests that take the lane to a mode or back to its start: RESTORE, HOLD, RELEASE, LANE_RESET and LANE_MODE. -/

namespace Sys2Proof.Machine

/-! ## RESTORE, HOLD and RELEASE (R117, R118, R120) -/

theorem Mode.ofCode_code (m : Mode) : Mode.ofCode m.code = some m := by cases m <;> rfl

theorem Setting.ofCode_code (x : Setting) : Setting.ofCode x.code = some x := by cases x <;> rfl

theorem policyOfBytes_code (pol : Policy) : policyOfBytes pol.entry.code pol.exit.code = some pol := by
  rw [policyOfBytes, Setting.ofCode_code, Setting.ofCode_code]

theorem restoreFields_eq {p : List Byte} {m : Mode} {pol : Policy} (mode : m = .closed ∨ m = .service ∨ m = .lockdown)
    (code : byteAt p 1 = Mode.code m) (entry : byteAt p 2 = Setting.code pol.entry) (exit : byteAt p 3 = Setting.code pol.exit) :
    restoreFields .egress p = some (m, pol) := by
  have may : restorable m = true := by rcases mode with rfl | rfl | rfl <;> rfl
  rw [restoreFields, code, entry, exit, Mode.ofCode_code, policyOfBytes_code]
  exact if_pos ⟨may, rfl⟩

theorem applyMode_eq (m : Mode) (pol : Policy) (cause : ModeCause) (link : Option Link) (w : Work) :
    applyMode m pol cause link w
      = w.takes (w.lane.applyMode m pol) [.lane (.modeApplied cause link) m pol] := rfl

theorem takeRestore_eq (link : Link) {m : Mode} (pol : Policy) (w : Work) (unlocked : m ≠ .lockdown) :
    takeRestore link m pol w = w.takes (w.lane.exemptAll.applyMode m pol) [.lane (.modeApplied .restore (some link)) m pol] := by
  unfold takeRestore
  dsimp only
  rw [if_neg unlocked]
  rfl

theorem takeRestore_lockdown (link : Link) (pol : Policy) (w : Work) :
    takeRestore link .lockdown pol w =
      w.takes (w.lane.exemptAll.cancelled.applyMode .lockdown pol)
        ((w.lane.pq.permits.map fun q => .permitEnd q .cancelled) ++ [.lane (.modeApplied .restore (some link)) .lockdown pol]) := by
  unfold takeRestore
  dsimp only
  rw [if_pos rfl, cancelAll_eq, applyMode_eq]
  exact Work.takes_takes (w.mod LaneState.exemptAll) _ _ _ _

theorem judgeRestore_eq {l : Link} {p : List Byte} {k : Lane} {s : State} {m : Mode} {pol : Policy} (free : s.mayChange l k)
    (egress : (s.lane k).lsv.mode = .egress) (fields : restoreFields .egress p = some (m, pol)) :
    judgeRestore l k p (s.hunt l) = if s.egressLine then refused (s.hunt l) .egress
      else done k .ok ((s.hunt l).runLane k fun _ w => takeRestore l m pol w) [] := by
  rw [judgeRestore, State.heldFor_of_mayChange free, State.hunt_lane, if_neg Bool.false_ne_true, egress, fields, State.hunt_egressLine]

/-- What a RESTORE leaves of a lane: all but its mode, its EXEMPT marks, and the queue of a LOCKDOWN. -/
structure LaneState.restored (m : Mode) (pol : Policy) (a b : LaneState) : Prop where
  mode : b.lsv.mode = m
  policy : b.lsv.policy = pol
  bc : b.bc = a.bc
  bsu : b.bsu = a.bsu
  alarms : b.lsv.alarms = a.lsv.alarms
  hold : b.lsv.hold = a.lsv.hold
  tallies : b.lsv.tallies = a.lsv.tallies
  ot : b.ot = { a.ot with tracks := a.ot.tracks.map fun y => { y with exempt := true } }
  reported : b.reported = a.reported

theorem LaneState.restored_unlocked (l : LaneState) (m : Mode) (pol : Policy) (slots : List Slot) (k : Lane) :
    l.restored m pol ((l.exemptAll.applyMode m pol).withOutputs slots k) ∧ ((l.exemptAll.applyMode m pol).withOutputs slots k).pq = l.pq :=
  ⟨⟨rfl, rfl, rfl, rfl, rfl, rfl, rfl, rfl, rfl⟩, rfl⟩

theorem LaneState.restored_lockdown (l : LaneState) (m : Mode) (pol : Policy) (slots : List Slot) (k : Lane) :
    l.restored m pol ((l.exemptAll.cancelled.applyMode m pol).withOutputs slots k) := ⟨rfl, rfl, rfl, rfl, rfl, rfl, rfl, rfl, rfl⟩

/-- A RESTORE carried out: the lane it leaves, and its notice behind others. -/
theorem exec_restore {l : Link} {tag : Byte} {p : List Byte} {k : Lane} {s : State} {m : Mode} {pol : Policy} {x : LaneState}
    {bodies : List NoticeBody} (reached : s.reachesLane l .restore p k) (free : s.mayChange l k) (egress : (s.lane k).lsv.mode = .egress)
    (fields : restoreFields .egress p = some (m, pol)) (low : s.egressLine = false)
    (taken : takeRestore l m pol (s.work k) = (s.work k).takes x (bodies ++ [.lane (.modeApplied .restore (some l)) m pol])) :
    exec (.restore l tag p) s =
      .next (((s.hunt l).laneEvent k (x.withOutputs s.rfu.slots k) (bodies ++ [.lane (.modeApplied .restore (some l)) m pol])).reply l
        (replyOf .restore tag .ok [])) := by
  have judged := judgeRestore_eq free egress fields
  rw [if_neg (by rw [low]; exact Bool.false_ne_true)] at judged
  exact exec_of_judgedLane (judge := judgeRestore l) reached tag rfl
    (judged.trans (done_runLane (f := fun _ w => takeRestore l m pol w) taken rfl _ _))

theorem holdMinutes_lt (n : Nat) : holdMinutes n < 256 ^ 1 := by
  unfold holdMinutes
  split <;> omega

/-- Settles O45: a RESTORE is the lane out of EGRESS and its notice behind what a LOCKDOWN cancels; HOLD and RELEASE change the hold. -/
theorem restoreHoldRelease : Obligations.RestoreHoldRelease := by
  intro l tag p k s old h
  refine ⟨fun m pol reached free egress mode code entry exit => ?_, fun reached => ?_, fun reached => ⟨fun held => ?_, fun free => ?_⟩,
    fun reached => ?_, fun reached => ?_⟩
  · have fields := restoreFields_eq mode code entry exit
    refine ⟨fun high => ?_, fun low => ?_⟩
    · exact exec_of_judgedLane (judge := judgeRestore l) reached tag rfl ((judgeRestore_eq free egress fields).trans (if_pos high))
    · by_cases locked : m = .lockdown
      · subst locked
        have event := exec_restore (tag := tag) reached free egress fields low (takeRestore_lockdown l pol (s.work k))
        obtain ⟨mode, policy, bc, bsu, alarms, hold, tallies, ot, reported⟩ := old.restored_lockdown .lockdown pol s.rfu.slots k
        exact ⟨_, _, event, mode, policy, bc, bsu, alarms, hold, tallies, ot, reported,
          fun other => absurd rfl other, fun _ => ⟨rfl, rfl, rfl, rfl⟩⟩
      · have event := exec_restore (bodies := []) (tag := tag) reached free egress fields low (takeRestore_eq l pol (s.work k) locked)
        obtain ⟨⟨mode, policy, bc, bsu, alarms, hold, tallies, ot, reported⟩, pq⟩ := old.restored_unlocked m pol s.rfu.slots k
        exact ⟨_, _, event, mode, policy, bc, bsu, alarms, hold, tallies, ot, reported, fun _ => ⟨rfl, pq⟩, fun same => absurd same locked⟩
  · have bytes : b1 (holdMinutes (byteAt p 1)) = [BitVec.ofNat 8 (holdMinutes (byteAt p 1))] := fld_of_fits (holdMinutes_lt _)
    have event := done_runLane (s := s) (l := .desk) (k := k) (f := fun e w => setHold e (holdMinutes (byteAt p 1)) w) rfl rfl
      (if 60 < byteAt p 1 then .clamped else .ok) (b1 (holdMinutes (byteAt p 1)))
    exact exec_of_judgedLane (judge := judgeHold .desk) reached tag rfl (event.trans (by rw [bytes]; rfl))
  · have judged : judgeRelease .desk k p (s.hunt .desk) = done k .ok ((s.hunt .desk).runLane k fun _ w => dropHold .holdReleased w) [] :=
      if_pos (by rw [State.hunt_lane]; exact Option.isSome_iff_ne_none.mpr held)
    exact exec_of_judgedLane (judge := judgeRelease .desk) reached tag rfl
      (judged.trans (done_runLane (f := fun _ w => dropHold .holdReleased w) rfl rfl _ _))
  · have judged : judgeRelease .desk k p (s.hunt .desk) = refused (s.hunt .desk) .notFound :=
      if_neg (by rw [State.hunt_lane]; exact fun held => Option.isSome_iff_ne_none.mp held free)
    exact exec_of_judgedLane (judge := judgeRelease .desk) reached tag rfl judged
  · exact exec_of_judgedLane (judge := judgeHold .site) reached tag rfl rfl
  · exact exec_of_judgedLane (judge := judgeRelease .site) reached tag rfl rfl

/-! ## A lane request that closes the lane's referrals -/

/-- A request carried out by closing lane k's referrals between two events of it. -/
theorem exec_of_closing {s u : State} {l : Link} {kind : RequestKind} {p body : List Byte} {k : Lane} {st : Status} {m : LaneState}
    {judge : Lane → List Byte → State → Judged} (reached : s.reachesLane l kind p k) (tag : Byte) (owner : judgeOf l kind = onLane judge)
    (judged : judge k p (s.hunt l) = done k st u body)
    (closed : u.lane k = m ∧ (∀ j, j ≠ k → u.lane j = (s.hunt l).lane j)
      ∧ u.rfu = { (s.hunt l).rfu with slots := (s.hunt l).rfu.slots.filter fun x => !(portLane x.reader == k) }
      ∧ (s.hunt l).samePart u) :
    ∃ t, exec (Instr.ofRequest l tag p kind) s = .next t ∧ t.lane k = m.withOutputs t.rfu.slots k
      ∧ t.rfu = { s.rfu with slots := s.rfu.slots.filter fun x => decide (portLane x.reader ≠ k) }
      ∧ (∀ j, j ≠ k → t.lane j = s.lane j) ∧ t.ports = s.ports ∧ t.cst = s.cst ∧ t.tmb = s.tmb ∧ t.ims = s.ims
      ∧ t.routing = s.routing ∧ (t.link l).tx = (s.link l).tx ++ [replyOf kind tag st body] := by
  obtain ⟨lane, others, slots, ports, site, desk, routing, cst, tmb, ims, -, -, -⟩ := closed
  rw [State.hunt_rfu] at slots
  rw [State.hunt_ports] at ports
  rw [State.hunt_routing] at routing
  rw [State.hunt_cst] at cst
  rw [State.hunt_tmb] at tmb
  rw [State.hunt_ims] at ims
  refine ⟨_, exec_of_judgedLane reached tag owner judged, ?_, ?_, fun j other => ?_, ?_, ?_, ?_, ?_, ?_, ?_⟩
  · rw [State.reply_lane, State.refresh_lane, State.reply_rfu, State.refresh_rfu, lane]
  · rw [State.reply_rfu, State.refresh_rfu, slots]
    refine congrArg (fun xs => { s.rfu with slots := xs }) (List.filter_congr fun x _ => ?_)
    rw [decide_not]
    rfl
  · rw [State.reply_lane, State.refresh_lane_of_ne _ other, others j other, State.hunt_lane]
  · rw [State.reply_ports, State.refresh_ports, ports]
  · rw [State.reply_cst, State.refresh_cst, cst]
  · rw [State.reply_tmb, State.refresh_tmb, tmb]
  · rw [State.reply_ims, State.refresh_ims, ims]
  · rw [State.reply_routing, State.refresh_routing, routing]
  · cases l with
    | site => exact congrArg (· ++ _) site.2.1
    | desk => exact congrArg (· ++ _) desk.2.1

/-! ## LANE_RESET (R121) -/

/-- The lane with its queue reset. -/
def LaneState.queueReset (l : LaneState) : LaneState := l.cancelled.modPq fun q => { q with next := 1 }

theorem stuckBeams_replicate_clear (n : Nat) : stuckBeams (List.replicate n .clear) = [] := by
  unfold stuckBeams
  refine List.filterMap_eq_nil_iff.mpr fun x mem => ?_
  have clear : x.1 = .clear := List.eq_of_mem_replicate (List.fst_mem_of_mem_zipIdx mem)
  rw [clear]
  rfl

/-- What a lane reset leaves of a lane, and what it makes of the rest (R121). -/
structure LaneState.afterReset (a b : LaneState) : Prop where
  geo : b.geo = a.geo
  timing : b.timing = a.timing
  ot : b.ot = { tracks := [], shadows := [], untracked := false, next := 1 }
  reported : b.reported = a.reported
  permits : b.pq.permits = []
  entryWindow : b.pq.entryWindow = none
  exitWindow : b.pq.exitWindow = none
  next : b.pq.next = 1
  claim : b.pq.claim = none
  beams : b.bsu.beams = List.replicate a.geo.nb { occluded := false, counter := 0, timer := none, stuck := false }
  result : b.bsu.result = { valid := false, vector := List.replicate a.geo.nb false, guardOccupied := false }
  chainFault : b.bsu.chainFault = a.bsu.chainFault
  read : b.bsu.read = a.bsu.read
  frameTimer : b.bsu.frameTimer = a.bsu.frameTimer
  causes : b.bsu.causes.any = a.bsu.chainFault
  state : b.bc.state = (positionOf a.bc.openLimit a.bc.shutLimit).1
  reversals : b.bc.reversals = 0
  jam : b.bc.jam = false
  stall : b.bc.stall = false
  jamHoldEnd : b.bc.jamHoldEnd = none
  last : b.bc.last = none
  risk : b.bc.risk = false
  mode : b.lsv.mode = .closed
  policy : b.lsv.policy = a.lsv.policy
  pending : b.lsv.pending = none
  hold : b.lsv.hold = a.lsv.hold
  tallies : b.lsv.tallies = a.lsv.tallies
  startMode : b.lsv.startMode = a.lsv.startMode
  startPolicy : b.lsv.startPolicy = a.lsv.startPolicy
  latched : ∀ x, b.lsv.alarms.latched x = { set := false, deadline := none, raises := 0 }

/-- The lane with no motion count, JAM, STALL or evaluation of its barrier. -/
def LaneState.barrierQuiet (alarms : AlarmSet) (l : LaneState) : LaneState :=
  { l with
    bc := { l.bc with reversals := 0, jam := false, jamHoldEnd := none, stall := false, last := none, risk := false }
    lsv := { l.lsv with riskLobby := false, riskSecure := false, alarms := alarms } }

theorem LaneState.barrierQuiet_of_reset (l : LaneState) :
    ∃ alarms, (((l.modBc fun c => { c with reversals := 0, jamHoldEnd := none }).setJam false).setStall false).dropEvaluation
      = l.barrierQuiet alarms := by
  have jam (m : LaneState) : m.setJam false = { m with
      bc := { m.bc with jam := false }
      lsv := { m.lsv with alarms := m.lsv.alarms.putCondition .jam ((m.lsv.alarms.condition .jam).follow false) } } := rfl
  have stall (m : LaneState) : m.setStall false = { m with
      bc := { m.bc with stall := false }
      lsv := { m.lsv with alarms := m.lsv.alarms.putCondition .stall ((m.lsv.alarms.condition .stall).follow false) } } := rfl
  rw [stall, jam]
  exact ⟨_, rfl⟩

/-- The barrier part of a reset: the position as the limits give it, and nothing left of motions, evaluations and counts (R89). -/
theorem LaneState.resetBarrier_eq (l : LaneState) : ∃ alarms, l.resetBarrier =
    { l with
      bc :=
        { l.bc with
          state := (positionOf l.bc.openLimit l.bc.shutLimit).1
          driveOpen := decide ((positionOf l.bc.openLimit l.bc.shutLimit).1 = .opening)
          driveShut := decide ((positionOf l.bc.openLimit l.bc.shutLimit).1 = .shutting), motionEnd := none, reversals := 0
          jam := false, jamHoldEnd := none, stall := false, last := none, risk := false
          positionUnknown := (positionOf l.bc.openLimit l.bc.shutLimit).2 }
      lsv :=
        { l.lsv with
          barrierMark := decide ((positionOf l.bc.openLimit l.bc.shutLimit).1 = .stalled), riskLobby := false, riskSecure := false
          alarms := alarms } } := by
  obtain ⟨alarms, quiet⟩ := l.barrierQuiet_of_reset
  refine ⟨alarms, ?_⟩
  rw [LaneState.resetBarrier, quiet, LaneState.readPosition]
  show ((l.barrierQuiet alarms).setBarrier (positionOf l.bc.openLimit l.bc.shutLimit).1).modBc (fun c =>
    { c with positionUnknown := (positionOf l.bc.openLimit l.bc.shutLimit).2, motionEnd := none }) = _
  generalize positionOf l.bc.openLimit l.bc.shutLimit = position
  by_cases opened : position.1 = .opened
  · rw [opened, LaneState.setBarrier_opened]
    rfl
  · rw [LaneState.setBarrier_eq opened]
    rfl

/-- The lane with its tracks and scan reset. -/
def LaneState.scanReset (l : LaneState) : LaneState := (({ l with ot := Ot.reset } : LaneState).reclaim).resetScan

theorem LaneState.resetLane_eq (l : LaneState) :
    l.resetLane = l.scanReset.resetBarrier.modLsv fun v => { v with alarms := v.alarms.laneReset, pending := none, mode := .closed } := rfl

/-- The scan of a reset lane, and the condition that it is then judged to be in. -/
theorem LaneState.resetScan_eq (l : LaneState) : ∃ causes mark alarms, causes.any = l.bsu.chainFault ∧ l.resetScan =
    { l with
      bsu := { l.bsu with beams := List.replicate l.geo.nb .clear, result := .reset l.geo.nb, causes := causes }
      lsv := { l.lsv with sensorMark := mark, alarms := alarms } } := by
  have judged : (sensorCauses l.geo l.timing.stuckLimit (l.bsu.clearBeams l.geo.nb)).any = l.bsu.chainFault := by
    show (l.bsu.chainFault || (stuckBeams (List.replicate l.geo.nb Beam.clear)).any l.geo.inGuard
      || decide (l.timing.stuckLimit < (stuckBeams (List.replicate l.geo.nb Beam.clear)).length)) = _
    rw [stuckBeams_replicate_clear]
    simp
  have scanned : (l.modBsu (Bsu.clearBeams l.geo.nb)).withCauses = { l with
      bsu :=
        { l.bsu with
          beams := List.replicate l.geo.nb .clear, result := .reset l.geo.nb
          causes := sensorCauses l.geo l.timing.stuckLimit (l.bsu.clearBeams l.geo.nb) } } := rfl
  rw [LaneState.resetScan, scanned]
  generalize sensorCauses l.geo l.timing.stuckLimit (l.bsu.clearBeams l.geo.nb) = causes at judged
  exact ⟨causes, causes.any, l.lsv.alarms.putCondition .sensor ((l.lsv.alarms.condition .sensor).follow causes.any), judged, rfl⟩

/-- The lane without permits, windows and tracks. -/
def LaneState.emptied (l : LaneState) : LaneState :=
  { l with
    ot := Ot.reset
    pq := { permits := [], entryWindow := none, exitWindow := none, next := 1, claim := none, frameClaim := l.pq.frameClaim } }

/-- The queue, the tracks and the scan of a reset lane. -/
theorem LaneState.scanReset_eq (l : LaneState) : ∃ causes mark alarms, causes.any = l.bsu.chainFault ∧ l.queueReset.scanReset =
    { l with
      ot := Ot.reset
      pq := { permits := [], entryWindow := none, exitWindow := none, next := 1, claim := none, frameClaim := l.pq.frameClaim }
      bsu := { l.bsu with beams := List.replicate l.geo.nb .clear, result := .reset l.geo.nb, causes := causes }
      lsv := { l.lsv with sensorMark := mark, alarms := alarms } } := by
  have tracked : ({ l.queueReset with ot := Ot.reset } : LaneState).reclaim = l.emptied := rfl
  rw [LaneState.scanReset, tracked]
  exact l.emptied.resetScan_eq

theorem AlarmSet.laneReset_latched (a : AlarmSet) (k : LatchedKind) : a.laneReset.latched k = { set := false, deadline := none, raises := 0 } := by
  cases k <;> rfl

theorem LaneState.afterReset_resetLane (l : LaneState) : l.afterReset l.queueReset.resetLane := by
  obtain ⟨alarms, barrier⟩ := l.queueReset.scanReset.resetBarrier_eq
  obtain ⟨causes, mark, alarms', judged, scanned⟩ := l.scanReset_eq
  rw [LaneState.resetLane_eq, barrier, scanned]
  exact ⟨rfl, rfl, rfl, rfl, rfl, rfl, rfl, rfl, rfl, rfl, rfl, rfl, rfl, rfl, judged, rfl, rfl, rfl, rfl, rfl, rfl, rfl, rfl, rfl, rfl,
    rfl, rfl, rfl, rfl, AlarmSet.laneReset_latched _⟩

theorem LaneState.afterReset.withOutputs {a b : LaneState} (h : a.afterReset b) (slots : List Slot) (k : Lane) :
    a.afterReset (b.withOutputs slots k) := by
  obtain ⟨h1, h2, h3, h4, h5, h6, h7, h8, h9, h10, h11, h12, h13, h14, h15, h16, h17, h18, h19, h20, h21, h22, h23, h24, h25, h26, h27, h28,
    h29, h30⟩ := h
  exact ⟨h1, h2, h3, h4, h5, h6, h7, h8, h9, h10, h11, h12, h13, h14, h15, h16, h17, h18, h19, h20, h21, h22, h23, h24, h25, h26, h27, h28,
    h29, h30⟩

theorem State.resetLane_closes (s : State) (k : Lane) :
    (s.resetLane k).lane k = (s.lane k).queueReset.resetLane
      ∧ (∀ j, j ≠ k → (s.resetLane k).lane j = s.lane j)
      ∧ (s.resetLane k).rfu = { s.rfu with slots := s.rfu.slots.filter fun x => !(portLane x.reader == k) }
      ∧ s.samePart (s.resetLane k) := by
  refine State.closeBetween (cause := .laneReset) (f := fun _ w => resetQueue w) (g := fun _ w => reportReset (w.mod LaneState.resetLane))
    (l := (s.lane k).queueReset) (by rw [resetQueue, cancelAll_eq]; exact ⟨rfl, rfl⟩) fun e w _ lane => ?_
  rw [← lane]
  exact ⟨rfl, rfl⟩

/-- Settles O42: the reset lane, part by part, between the closure of its referrals and the RESET notice. -/
theorem laneResetClears : Obligations.LaneResetClears := by
  intro l tag p k s reached free lit opening shutting old
  have still : (s.lane k).bc.state.motion.isSome = false := by
    cases state : (s.lane k).bc.state with
    | opening => exact absurd state opening
    | shutting => exact absurd state shutting
    | shut => rfl
    | opened => rfl
    | stalled => rfl
  have judged : judgeLaneReset l k p (s.hunt l) = done k .ok ((s.hunt l).resetLane k) [] := by
    rw [judgeLaneReset, State.heldFor_of_mayChange free, State.hunt_lane, if_neg Bool.false_ne_true, if_neg lit, still,
      if_neg Bool.false_ne_true]
  obtain ⟨t, ran, lane, slots, others, ports, cst, tmb, ims, routing, tx⟩ :=
    exec_of_closing (judge := judgeLaneReset l) reached tag rfl judged ((s.hunt l).resetLane_closes k)
  rw [State.hunt_lane] at lane
  have cleared : old.afterReset (t.lane k) := by
    rw [lane]
    exact old.afterReset_resetLane.withOutputs ..
  obtain ⟨h1, h2, h3, h4, h5, h6, h7, h8, h9, h10, h11, h12, h13, h14, h15, h16, h17, h18, h19, h20, h21, h22, h23, h24, h25, h26, h27, h28,
    h29, h30⟩ := cleared
  refine ⟨t, ran, h1, h2, h3, h4, h5, h6, h7, h8, h9, h10, h11, h12, h13, h14, h15, ?_, h17, h18, h19, h20, h21, h22, h23, h24, h25, h26, h27,
    h28, h29, h30, slots, others, ports, cst, tmb, ims, routing, tx⟩
  rw [h16]
  cases old.bc.openLimit <;> cases old.bc.shutLimit <;> rfl

end Sys2Proof.Machine

/-! LANE_MODE in its three scopes, the pending mode, and the claim at a frame event. -/

namespace Sys2Proof.Machine

/-! ## The request (R110) -/

/-- The bytes of a LANE_MODE. -/
def modePayload (k : Lane) (scope : Byte) (m : Mode) (pol : Policy) (force : Bool) : List Byte :=
  [BitVec.ofNat 8 (laneNumber k), scope, BitVec.ofNat 8 m.code, BitVec.ofNat 8 pol.entry.code, BitVec.ofNat 8 pol.exit.code,
    if force then 1#8 else 0#8]

theorem laneNumber_byte (k : Lane) : (BitVec.ofNat 8 (laneNumber k)).toNat = laneNumber k := by
  rw [BitVec.toNat_ofNat]
  exact Nat.mod_eq_of_lt (by have := k.isLt; unfold laneNumber; omega)

theorem Mode.code_byte (m : Mode) : (BitVec.ofNat 8 m.code).toNat = m.code := by cases m <;> rfl

theorem Setting.code_byte (x : Setting) : (BitVec.ofNat 8 x.code).toNat = x.code := by cases x <;> rfl

theorem modePayload_reaches {s : State} {l : Link} (room : (s.link l).tx.length < 4) (k : Lane) (scope : Byte) (m : Mode) (pol : Policy)
    (force : Bool) : s.reachesLane l .laneMode (modePayload k scope m pol force) k :=
  ⟨⟨room, rfl⟩, laneNumber_byte k⟩

theorem modeRequest_modePayload {k : Lane} {scope : Byte} {m : Mode} {pol : Policy} {force : Bool} (known : scope.toNat ≤ 2) (mode : m ≠ .egress)
    (lit : m = .dark → scopeCurrent scope.toNat = false) :
    modeRequest (modePayload k scope m pol force) =
      some { start := scopeStart scope.toNat, current := scopeCurrent scope.toNat, mode := m, policy := pol, force := force } := by
  have flag : flagOf (byteAt (modePayload k scope m pol force) 5) = some force := by cases force <;> rfl
  have target : Mode.ofCode (byteAt (modePayload k scope m pol force) 2) = some m :=
    (congrArg Mode.ofCode m.code_byte).trans m.ofCode_code
  have policy : policyOfBytes (byteAt (modePayload k scope m pol force) 3) (byteAt (modePayload k scope m pol force) 4) = some pol :=
    (congrArg₂ policyOfBytes pol.entry.code_byte pol.exit.code_byte).trans (policyOfBytes_code pol)
  rw [modeRequest, flag, target, policy]
  exact if_pos ⟨known, mode, lit⟩

/-- A LANE_MODE that passes the tests of its owner: the start settings, then the running lane, as its scope says. -/
theorem judgeLaneMode_eq {s : State} {l : Link} {k : Lane} {p : List Byte} {r : ModeRequest} (free : s.heldFor l k = false)
    (lit : scopeCurrent (byteAt p 1) = true → (s.lane k).lsv.mode ≠ .egress) (idle : scopeStart (byteAt p 1) = true → s.saving = false)
    (request : modeRequest p = some r) :
    judgeLaneMode l k p s =
      (let started := if r.start then s.modLane k (LaneState.setStart r.mode r.policy) else s
       let x := if r.current then started.changeMode k l r else (started, .ok)
       done k x.2 x.1 (x.1.lane k).lsv.modeBytes) := by
  rw [judgeLaneMode, free, if_neg Bool.false_ne_true, if_neg fun both => lit both.1 both.2,
    if_neg fun both => Bool.false_ne_true ((idle both.1).symm.trans both.2), request]

/-- The request of a CURRENT scope. -/
def currentRequest (m : Mode) (pol : Policy) (force : Bool) : ModeRequest :=
  { start := false, current := true, mode := m, policy := pol, force := force }

/-- A LANE_MODE of scope CURRENT handles its target for the running lane. -/
theorem judgeLaneMode_current {s : State} {l : Link} {k : Lane} {m : Mode} {pol : Policy} {force : Bool} (free : s.mayChange l k)
    (mode : m ≠ .egress) (dark : m ≠ .dark) (lit : (s.lane k).lsv.mode ≠ .egress) {u : State} {st : Status}
    (changed : (s.hunt l).changeMode k l (currentRequest m pol force) = (u, st)) :
    judgeLaneMode l k (modePayload k 0#8 m pol force) (s.hunt l) = done k st u (u.lane k).lsv.modeBytes := by
  have request := modeRequest_modePayload (k := k) (scope := 0#8) (pol := pol) (force := force) (Nat.zero_le 2) mode fun h => absurd h dark
  refine (judgeLaneMode_eq (p := modePayload k 0#8 m pol force) (State.heldFor_of_mayChange free)
    (fun _ => by rwa [State.hunt_lane]) (fun start => absurd start Bool.false_ne_true) request).trans ?_
  show done k ((s.hunt l).changeMode k l (currentRequest m pol force)).2 ((s.hunt l).changeMode k l (currentRequest m pol force)).1
    ((((s.hunt l).changeMode k l (currentRequest m pol force)).1).lane k).lsv.modeBytes = _
  rw [changed]

/-- A target carried out as one event of the lane. -/
theorem exec_laneMode_event {s : State} {l : Link} {k : Lane} {m : Mode} {pol : Policy} {force : Bool} {f : Env → Work → Work} {st : Status}
    {x : LaneState} {bodies : List NoticeBody} (tag : Byte) (room : (s.link l).tx.length < 4) (free : s.mayChange l k) (mode : m ≠ .egress)
    (dark : m ≠ .dark) (lit : (s.lane k).lsv.mode ≠ .egress)
    (changed : (s.hunt l).changeMode k l (currentRequest m pol force) = ((s.hunt l).runLane k f, st))
    (event : f (s.env k) (s.work k) = (s.work k).takes x bodies) :
    exec (.laneMode l tag (modePayload k 0#8 m pol force)) s =
      .next (((s.hunt l).laneEvent k (x.withOutputs s.rfu.slots k) bodies).reply l (replyOf .laneMode tag st x.lsv.modeBytes)) := by
  have lane : ((s.hunt l).runLane k f).lane k = x :=
    (State.runLane_frame (by rw [State.hunt_env, State.hunt_work, State.hunt_cst, event]; exact ⟨rfl, rfl⟩)).1
  have judged := judgeLaneMode_current free mode dark lit changed
  rw [lane] at judged
  exact exec_of_judgedLane (judge := judgeLaneMode l) (modePayload_reaches room k 0#8 m pol force) tag rfl
    (judged.trans (done_runLane event rfl _ _))

theorem holdPending_eq (link : Link) (m : Mode) (pol : Policy) (w : Work) :
    holdPending link m pol w =
      w.takes { w.lane with lsv := { w.lane.lsv with pending := some { mode := m, policy := pol, link := link } } }
        [.lane (.modePending m pol w.lane.lsv.pending.isSome) w.lane.lsv.mode w.lane.lsv.policy] := rfl

/-- The notice of a pending mode that is dropped. -/
def discardNotices (cause : ModeCause) (l : LaneState) : List NoticeBody :=
  match l.lsv.pending with
  | none => []
  | some q => [.lane (.pendingDiscarded q.mode q.policy cause) l.lsv.mode l.lsv.policy]

theorem discardPending_eq (cause : ModeCause) (w : Work) :
    discardPending cause w = w.takes { w.lane with lsv := { w.lane.lsv with pending := none } } (discardNotices cause w.lane) := by
  cases pending : w.lane.lsv.pending with
  | none =>
    have same : ({ w.lane with lsv := { w.lane.lsv with pending := none } } : LaneState) = w.lane := by rw [← pending]
    have quiet : discardNotices cause w.lane = [] := by rw [discardNotices, pending]
    have kept : discardPending cause w = w := by rw [discardPending, pending]
    rw [same, quiet, kept]
    exact w.mod_eq_takes id
  | some q =>
    rw [discardPending, discardNotices, pending]
    rfl

theorem LaneState.empty_iff (l : LaneState) : l.empty = true ↔ l.pq.permits = [] ∧ l.ot.tracks = [] := by
  rw [LaneState.empty, Bool.and_eq_true, List.isEmpty_iff, List.isEmpty_iff]

/-! ## The cancellation and closure of FORCE and LOCKDOWN (R113, R114) -/

/-- The lane that a FORCE or a LOCKDOWN leaves. -/
def LaneState.forced (m : Mode) (pol : Policy) (force : Bool) (l : LaneState) : LaneState :=
  let cancelled := l.cancelled
  let marked := if force then cancelled.exemptAll else cancelled
  { marked with lsv := { marked.lsv with mode := m, policy := pol, pending := none } }

theorem takeLockdown_lane (link : Link) (r : ModeRequest) (w : Work) :
    (takeLockdown link r w).lane
        = { (if r.force then w.lane.exemptAll else w.lane) with
            lsv := { (if r.force then w.lane.exemptAll else w.lane).lsv with mode := .lockdown, policy := r.policy, pending := none } }
      ∧ (takeLockdown link r w).creds = w.creds := by
  unfold takeLockdown
  dsimp only
  rw [discardPending_eq]
  cases r.force <;> exact ⟨rfl, rfl⟩

theorem State.changeMode_closes {s : State} {k : Lane} {l : Link} {r : ModeRequest} (r_lockdown : r.mode = .lockdown ∨
    (r.force = true ∧ (r.mode ≠ (s.lane k).lsv.mode ∨ r.policy ≠ (s.lane k).lsv.policy))) :
    (s.changeMode k l r).2 = .ok ∧ (s.changeMode k l r).1.lane k = (s.lane k).forced r.mode r.policy r.force
      ∧ (∀ j, j ≠ k → (s.changeMode k l r).1.lane j = s.lane j)
      ∧ (s.changeMode k l r).1.rfu = { s.rfu with slots := s.rfu.slots.filter fun x => !(portLane x.reader == k) }
      ∧ s.samePart (s.changeMode k l r).1 := by
  by_cases locks : r.mode = .lockdown
  · have changed : s.changeMode k l r = (s.lockdown k l r, .ok) := if_pos locks
    rw [changed]
    refine ⟨rfl, State.closeBetween (cause := .lockdown) (f := fun _ w => cancelAll w) (g := fun _ w => takeLockdown l r w)
      (l := (s.lane k).cancelled) (by rw [cancelAll_eq]; exact ⟨rfl, rfl⟩) fun e w _ lane => ?_⟩
    rw [LaneState.forced, locks, ← lane]
    exact takeLockdown_lane l r w
  · obtain ⟨force, differs⟩ := r_lockdown.resolve_left locks
    have other : ¬(r.mode = (s.lane k).lsv.mode ∧ r.policy = (s.lane k).lsv.policy) := fun same =>
      differs.elim (absurd same.1) (absurd same.2)
    have changed : s.changeMode k l r = (s.forceMode k l r, .ok) := by
      rw [State.changeMode, if_neg locks, if_neg other, if_pos force]
    rw [changed]
    refine ⟨rfl, State.closeBetween (cause := .forced) (f := fun _ w => cancelAll w)
      (g := fun _ w => applyMode r.mode r.policy .forced (some l) (w.mod LaneState.exemptAll))
      (l := (s.lane k).cancelled) (by rw [cancelAll_eq]; exact ⟨rfl, rfl⟩) fun e w _ lane => ?_⟩
    rw [LaneState.forced, force, ← lane]
    exact ⟨rfl, rfl⟩

/-- What a FORCE or a LOCKDOWN leaves of a lane. -/
structure LaneState.cleared (m : Mode) (pol : Policy) (force : Bool) (a b : LaneState) : Prop where
  mode : b.lsv.mode = m
  policy : b.lsv.policy = pol
  pending : b.lsv.pending = none
  permits : b.pq.permits = []
  entryWindow : b.pq.entryWindow = none
  exitWindow : b.pq.exitWindow = none
  ot : b.ot = { a.ot with tracks := if force then a.ot.tracks.map fun x => { x with exempt := true } else a.ot.tracks }
  reported : b.reported = a.reported
  bc : b.bc = a.bc
  bsu : b.bsu = a.bsu
  alarms : b.lsv.alarms = a.lsv.alarms

theorem LaneState.cleared_forced (l : LaneState) (m : Mode) (pol : Policy) (force : Bool) (slots : List Slot) (k : Lane) :
    l.cleared m pol force ((l.forced m pol force).withOutputs slots k) := by
  cases force <;> exact ⟨rfl, rfl, rfl, rfl, rfl, rfl, rfl, rfl, rfl, rfl, rfl⟩

theorem LaneState.withOutputs_modeBytes (l : LaneState) (slots : List Slot) (k : Lane) :
    (l.withOutputs slots k).lsv.modeBytes = l.lsv.modeBytes := rfl

/-! ## The start settings (R109) -/

/-- The lane with its start settings set. -/
def LaneState.withStart (m : Mode) (pol : Policy) (l : LaneState) : LaneState :=
  { l with lsv := { l.lsv with startMode := m, startPolicy := pol } }

theorem State.hunt_setLane (s : State) (l : Link) (k : Lane) (x : LaneState) : (s.setLane k x).hunt l = (s.hunt l).setLane k x := by
  cases l <;> rfl

theorem State.setLane_refresh (s : State) (k : Lane) (x : LaneState) : (s.setLane k x).refresh k = s.setLane k (x.withOutputs s.rfu.slots k) := by
  rw [State.refresh, State.modLane, State.setLane_lane, State.setLane_setLane]
  rfl

theorem laneMode_start {s : State} {l : Link} {k : Lane} {m : Mode} {pol : Policy} {force : Bool} (tag : Byte)
    (room : (s.link l).tx.length < 4) (free : s.mayChange l k) (mode : m ≠ .egress) (idle : s.saving = false) :
    exec (.laneMode l tag (modePayload k 1#8 m pol force)) s =
      .next (((s.hunt l).setLane k (((s.lane k).withStart m pol).withOutputs s.rfu.slots k)).reply l
        (replyOf .laneMode tag .ok (((s.lane k).withStart m pol).withOutputs s.rfu.slots k).lsv.modeBytes)) := by
  have request := modeRequest_modePayload (k := k) (scope := 1#8) (pol := pol) (force := force) (by decide) mode fun _ => rfl
  have judged := judgeLaneMode_eq (p := modePayload k 1#8 m pol force) (State.heldFor_of_mayChange free)
    (fun current => absurd current Bool.false_ne_true) (fun _ => by rwa [State.hunt_saving]) request
  refine exec_of_judgedLane (judge := judgeLaneMode l) (modePayload_reaches room k 1#8 m pol force) tag rfl (judged.trans ?_)
  show done k .ok ((s.hunt l).modLane k (LaneState.setStart m pol)) (((s.hunt l).modLane k (LaneState.setStart m pol)).lane k).lsv.modeBytes = _
  rw [State.modLane_lane, State.hunt_lane, done, State.modLane, State.hunt_lane, State.setLane_refresh, State.hunt_rfu]
  rfl

theorem laneMode_both {s : State} {l : Link} {k : Lane} {m : Mode} {pol : Policy} {force : Bool} (tag : Byte)
    (room : (s.link l).tx.length < 4) (free : s.mayChange l k) (mode : m ≠ .egress) (idle : s.saving = false)
    (lit : (s.lane k).lsv.mode ≠ .egress) (dark : m ≠ .dark) :
    exec (.laneMode l tag (modePayload k 2#8 m pol force)) s =
      exec (.laneMode l tag (modePayload k 0#8 m pol force)) (s.setLane k ((s.lane k).withStart m pol)) := by
  have request := modeRequest_modePayload (k := k) (scope := 2#8) (pol := pol) (force := force) (by decide) mode fun h => absurd h dark
  have judged := judgeLaneMode_eq (p := modePayload k 2#8 m pol force) (State.heldFor_of_mayChange free)
    (fun _ => by rwa [State.hunt_lane]) (fun _ => by rwa [State.hunt_saving]) request
  have free' : (s.setLane k ((s.lane k).withStart m pol)).mayChange l k := by
    rw [State.mayChange, State.setLane_lane]
    exact free
  have lit' : ((s.setLane k ((s.lane k).withStart m pol)).lane k).lsv.mode ≠ .egress := by
    rw [State.setLane_lane]
    exact lit
  have room' : ((s.setLane k ((s.lane k).withStart m pol)).link l).tx.length < 4 := by cases l <;> exact room
  have judged' := judgeLaneMode_current (pol := pol) (force := force) free' mode dark lit' rfl
  rw [State.hunt_setLane] at judged'
  have started : (s.hunt l).modLane k (LaneState.setStart m pol) = (s.hunt l).setLane k ((s.lane k).withStart m pol) := by
    rw [State.modLane, State.hunt_lane]
    rfl
  refine (exec_of_judgedLane (judge := judgeLaneMode l) (modePayload_reaches room k 2#8 m pol force) tag rfl (judged.trans ?_)).trans
    (exec_of_judgedLane (judge := judgeLaneMode l) (modePayload_reaches room' k 0#8 m pol force) tag rfl
      ((congrArg (judgeLaneMode l k _) (s.hunt_setLane l k _)).trans judged')).symm
  show done k (((s.hunt l).modLane k (LaneState.setStart m pol)).changeMode k l
    { start := true, current := true, mode := m, policy := pol, force := force }).2 _ _ = _
  rw [started]
  rfl

/-! ## The running lane (R111 to R114) -/

theorem State.changeMode_same {s : State} {k : Lane} {l : Link} {r : ModeRequest} (unlocked : r.mode ≠ .lockdown)
    (same : r.mode = (s.lane k).lsv.mode ∧ r.policy = (s.lane k).lsv.policy) :
    s.changeMode k l r = (s.runLane k fun _ w => applyMode r.mode r.policy .request (some l) (discardPending .request w), .ok) := by
  rw [State.changeMode, if_neg unlocked, if_pos same]

theorem State.changeMode_applies {s : State} {k : Lane} {l : Link} {r : ModeRequest} (unlocked : r.mode ≠ .lockdown)
    (other : r.mode ≠ (s.lane k).lsv.mode ∨ r.policy ≠ (s.lane k).lsv.policy) (gentle : r.force = false)
    (empty : (s.lane k).pq.permits = [] ∧ (s.lane k).ot.tracks = []) :
    s.changeMode k l r = (s.runLane k fun _ w => applyMode r.mode r.policy .request (some l) w, .ok) := by
  rw [State.changeMode, if_neg unlocked, if_neg fun same => other.elim (absurd same.1) (absurd same.2), gentle, if_neg Bool.false_ne_true,
    if_pos ((LaneState.empty_iff _).mpr empty)]

theorem State.changeMode_holds {s : State} {k : Lane} {l : Link} {r : ModeRequest} (unlocked : r.mode ≠ .lockdown)
    (other : r.mode ≠ (s.lane k).lsv.mode ∨ r.policy ≠ (s.lane k).lsv.policy) (gentle : r.force = false)
    (occupied : ¬((s.lane k).pq.permits = [] ∧ (s.lane k).ot.tracks = [])) :
    s.changeMode k l r = (s.runLane k fun _ w => holdPending l r.mode r.policy w, .pending) := by
  rw [State.changeMode, if_neg unlocked, if_neg fun same => other.elim (absurd same.1) (absurd same.2), gentle, if_neg Bool.false_ne_true,
    if_neg fun empty => occupied ((LaneState.empty_iff _).mp empty)]

theorem laneModeApplied_claim : Claims.LaneModeApplied := by
  intro l tag k m pol force s room free mode lane payload old h answer
  refine ⟨fun idle => laneMode_start tag room free mode idle, fun idle lit dark => laneMode_both tag room free mode idle lit dark,
    fun lit dark unlocked differs gentle => ⟨fun permits tracks => ?_, fun occupied => ?_⟩, fun sameMode samePol dark unlocked => ?_,
    fun lit dark forces => ?_⟩
  · have changed := State.changeMode_applies (s := h) (l := l) (r := currentRequest m pol force) unlocked (by rwa [State.hunt_lane]) gentle
      (by rw [State.hunt_lane]; exact ⟨permits, tracks⟩)
    have ran := exec_laneMode_event tag room free mode dark lit changed (applyMode_eq m pol .request (some l) (s.work k))
    exact ran
  · have changed := State.changeMode_holds (s := h) (l := l) (r := currentRequest m pol force) unlocked (by rwa [State.hunt_lane]) gentle
      (by rwa [State.hunt_lane])
    have ran := exec_laneMode_event tag room free mode dark lit changed (holdPending_eq l m pol (s.work k))
    exact ran
  · have lit : (s.lane k).lsv.mode ≠ .egress := sameMode ▸ mode
    have changed := State.changeMode_same (s := h) (l := l) (r := currentRequest m pol force) unlocked
      (by rw [State.hunt_lane]; exact ⟨sameMode, samePol⟩)
    have event : applyMode m pol .request (some l) (discardPending .request (s.work k)) =
        (s.work k).takes { s.lane k with lsv := { (s.lane k).lsv with pending := none } }
          (discardNotices .request (s.lane k) ++ [.lane (.modeApplied .request (some l)) m pol]) := by
      rw [discardPending_eq, applyMode_eq, Work.takes_takes, sameMode, samePol]
      rfl
    refine (exec_laneMode_event tag room free mode dark lit changed event).trans ?_
    rw [discardNotices, sameMode, samePol]
    rfl
  · obtain ⟨ok, closes⟩ := State.changeMode_closes (s := h) (k := k) (l := l) (r := currentRequest m pol force)
      (by rw [State.hunt_lane]; exact forces)
    have judged := judgeLaneMode_current (pol := pol) (force := force) free mode dark lit (u := (h.changeMode k l (currentRequest m pol force)).1)
      (st := .ok) (Prod.ext rfl ok)
    obtain ⟨t, ran, cleared, slots, others, ports, cst, tmb, ims, routing, tx⟩ :=
      exec_of_closing (judge := judgeLaneMode l) (modePayload_reaches room k 0#8 m pol force) tag rfl judged closes
    rw [State.hunt_lane] at cleared
    rw [closes.1, State.hunt_lane] at tx
    obtain ⟨h1, h2, h3, h4, h5, h6, h7, h8, h9, h10, h11⟩ := cleared ▸ old.cleared_forced m pol force t.rfu.slots k
    refine ⟨t, ran, h1, h2, h3, h4, h5, h6, h7, h8, h9, h10, h11, slots, others, ports, cst, tmb, ims, routing, ?_⟩
    rw [tx, cleared]
    rfl

/-! ## The pending mode and the claim at a frame event (R48, R112) -/

theorem pendingMode_claim : Claims.PendingModeAppliedAtFrame := by
  intro w l
  refine ⟨fun none => ?_, fun q held => ⟨fun permits tracks => ?_, fun occupied => ?_⟩⟩
  · rw [pendingFrame, none]
  · rw [pendingFrame, held]
    exact if_pos ((LaneState.empty_iff _).mpr ⟨permits, tracks⟩)
  · rw [pendingFrame, held]
    exact if_neg fun empty => occupied ((LaneState.empty_iff _).mp empty)

theorem claimWorkedOut_claim : Claims.ClaimWorkedOutAtFrame := by
  refine ⟨fun l => ⟨fun p head => ?_, fun none ahead x behind tracks unbound bound => ?_, fun none unbound => ?_⟩, fun e w => ?_,
    fun e order before f w => ?_⟩
  · cases permits : l.pq.permits with
    | nil =>
      rw [permits] at head
      exact absurd head nofun
    | cons q qs =>
      rw [permits] at head
      rw [LaneState.claimNow, permits, ← Option.mem_some.mp head]
  · have found : l.ot.tracks.find? (fun t => t.bound.isSome) = some x := by
      refine List.find?_eq_some_iff_append.mpr ⟨Option.isSome_iff_ne_none.mpr bound, ahead, behind, tracks, fun y mem => ?_⟩
      rw [unbound y mem]
      rfl
    rw [LaneState.claimNow, none]
    exact congrArg (Option.bind · _) found
  · have found : l.ot.tracks.find? (fun t => t.bound.isSome) = .none := by
      refine List.find?_eq_none.mpr fun x mem => ?_
      rw [unbound x mem]
      exact Bool.false_ne_true
    rw [LaneState.claimNow, none]
    exact congrArg (Option.bind · _) found
  · intro l noted
    refine ⟨fun cleared before => if_pos ⟨cleared, before⟩, fun kept => if_neg fun both => ?_⟩
    exact kept.elim (absurd both.1) (absurd · both.2)
  · intro left served
    have births (n : Nat) (v : Work) : handBirths e n v = (freeService e)^[n] v := by
      induction n generalizing v with
      | zero => rfl
      | succ n ih => rw [handBirths, ih, Function.iterate_succ_apply]
    rw [handEvents, births]
    rfl

/-- Settles O39: the three scopes by the cases of the running lane, and the frame event's part. -/
theorem laneModeApplied : Obligations.LaneModeApplied := ⟨laneModeApplied_claim, pendingMode_claim, claimWorkedOut_claim⟩

end Sys2Proof.Machine

/-! LANE_GEOMETRY and LANE_TIMING: the settings of a lane, and what they clear and shorten at once. -/

namespace Sys2Proof.Machine

/-! ## LANE_GEOMETRY (R5, R6) -/

theorem toNat_ofNat_of_lt {n : Nat} (h : n < 256) : (BitVec.ofNat 8 n).toNat = n := by
  rw [BitVec.toNat_ofNat]
  exact Nat.mod_eq_of_lt h

theorem b1_of_lt {n : Nat} (h : n < 256) : b1 n = [BitVec.ofNat 8 n] := fld_of_fits h

theorem Orientation.ofCode_code (o : Orientation) : Orientation.ofCode (BitVec.ofNat 8 o.code).toNat = some o := by cases o <;> rfl

theorem Orientation.code_lt (o : Orientation) : o.code < 256 := by cases o <;> decide

/-- The bytes of a LANE_GEOMETRY. -/
def geometryPayload (k : Lane) (g : Geometry) (written : Nat) : List Byte :=
  [BitVec.ofNat 8 (laneNumber k), BitVec.ofNat 8 g.bars, BitVec.ofNat 8 g.nb, BitVec.ofNat 8 g.orientation.code, BitVec.ofNat 8 g.p,
    BitVec.ofNat 8 written, BitVec.ofNat 8 g.sz]

theorem geometryOfBytes_payload (k : Lane) {g : Geometry} {written : Nat} (bars : g.bars < 256) (nb : g.nb < 256) (p : g.p < 256)
    (f : written < 256) (sz : g.sz < 256) : geometryOfBytes ((geometryPayload k g written).drop 1) = some { g with f := written } := by
  have fields : geometryOfBytes ((geometryPayload k g written).drop 1) =
      (Orientation.ofCode (BitVec.ofNat 8 g.orientation.code).toNat).map fun o =>
        { bars := (BitVec.ofNat 8 g.bars).toNat, nb := (BitVec.ofNat 8 g.nb).toNat, orientation := o, p := (BitVec.ofNat 8 g.p).toNat
          f := (BitVec.ofNat 8 written).toNat, sz := (BitVec.ofNat 8 g.sz).toNat } := rfl
  rw [fields, Orientation.ofCode_code, toNat_ofNat_of_lt bars, toNat_ofNat_of_lt nb, toNat_ofNat_of_lt p, toNat_ofNat_of_lt f,
    toNat_ofNat_of_lt sz]
  rfl

theorem Geometry.resolved_written {g : Geometry} {written : Nat} (some_ : 2 ≤ g.f) (h : written = g.f ∨ (written = 0 ∧ g.f = g.nb / 2)) :
    ({ g with f := written } : Geometry).resolved = g := by
  have placed : (if written = 0 then g.nb / 2 else written) = g.f := by
    rcases h with same | ⟨zero, half⟩
    · rw [same, if_neg (by omega)]
    · rw [if_pos zero, half]
  rw [Geometry.resolved]
  dsimp only
  rw [placed]

/-- The geometry in its reply, each setting in one byte. -/
theorem geometryReply_eq (k : Lane) {g : Geometry} (bars : g.bars < 256) (nb : g.nb < 256) (p : g.p < 256) (f : g.f < 256) (sz : g.sz < 256) :
    b1 (laneNumber k) ++ g.bytes = geometryPayload k g g.f := by
  have lane : laneNumber k < 256 := by have := k.isLt; unfold laneNumber; omega
  rw [Geometry.bytes, b1_of_lt lane, b1_of_lt bars, b1_of_lt nb, b1_of_lt g.orientation.code_lt, b1_of_lt p, b1_of_lt f, b1_of_lt sz]
  rfl

/-- What a new geometry leaves of a lane, and what it clears. -/
structure LaneState.regauged (g : Geometry) (a b : LaneState) : Prop where
  geo : b.geo = g
  timing : b.timing = a.timing
  beams : b.bsu.beams = List.replicate g.nb { occluded := false, counter := 0, timer := none, stuck := false }
  result : b.bsu.result = { valid := false, vector := List.replicate g.nb false, guardOccupied := false }
  read : b.bsu.read = if a.bsu.read = .reading then .discarding else a.bsu.read
  chainFault : b.bsu.chainFault = a.bsu.chainFault
  frameTimer : b.bsu.frameTimer = a.bsu.frameTimer
  ot : b.ot = { a.ot with shadows := [] }
  reported : b.reported = a.reported
  pq : b.pq = a.pq
  bc : b.bc = a.bc
  mode : b.lsv.mode = a.lsv.mode
  policy : b.lsv.policy = a.lsv.policy

theorem ChainRead.discard_eq (r : ChainRead) : r.discard = if r = .reading then .discarding else r := by cases r <;> rfl

/-- The lane with a new geometry, its SENSOR condition judged again. -/
def LaneState.withGeometry (g : Geometry) (l : LaneState) : LaneState := (l.applyGeometry g).withCauses.handSensor

theorem LaneState.regauged_withGeometry (l : LaneState) (g : Geometry) (slots : List Slot) (k : Lane) :
    l.regauged g ((l.withGeometry g).withOutputs slots k) :=
  ⟨rfl, rfl, rfl, rfl, l.bsu.read.discard_eq, rfl, rfl, rfl, rfl, rfl, rfl, rfl, rfl⟩

theorem judgeSensor_geometry (g : Geometry) (w : Work) :
    judgeSensor (w.mod (LaneState.applyGeometry g))
      = w.takes (w.lane.withGeometry g) (healthNotices (w.lane.applyGeometry g) (w.lane.withGeometry g)) :=
  Work.withHealth_takes (w := w.mod (LaneState.applyGeometry g)) (bs := []) (Work.mod_eq_takes ..)

theorem health_of_mem_healthNotices {a b : LaneState} {x : NoticeBody} (mem : x ∈ healthNotices a b) :
    ∃ v, x = .lane (.health v) b.lsv.mode b.lsv.policy := by
  unfold healthNotices at mem
  split at mem
  · exact absurd mem List.not_mem_nil
  · exact ⟨_, List.mem_singleton.mp mem⟩

/-- Settles O40: the bytes are read back as the geometry asked for, which passes its bounds and is applied. -/
theorem geometryApplied : Obligations.GeometryApplied := by
  intro l tag k g s room free idle mode empty bars bars' nb nb' narrow wide p p' f f' sz sz' before behind written resolves
  have small : written < 256 := by rcases resolves with rfl | ⟨rfl, -⟩ <;> omega
  have ok : g.ok = true := by
    simp only [Geometry.ok, Bool.and_eq_true, decide_eq_true_eq]
    omega
  have read := geometryOfBytes_payload k (g := g) (written := written) (by omega) (by omega) (by omega) small (by omega)
  have reached : s.reachesLane l .laneGeometry (geometryPayload k g written) k := ⟨⟨room, rfl⟩, laneNumber_byte k⟩
  have lit : (s.lane k).lsv.mode ≠ .egress := by rcases mode with m | m <;> rw [m] <;> nofun
  have closed : ¬(((s.lane k).lsv.mode ≠ .dark ∧ (s.lane k).lsv.mode ≠ .closed) ∨ (s.lane k).ot.tracks ≠ []) := fun h =>
    h.elim (fun other => mode.elim other.1 other.2) (absurd empty)
  have judged : judgeLaneGeometry l k (geometryPayload k g written) (s.hunt l) = done k .ok ((s.hunt l).setGeometry k g) (geometryPayload k g g.f) := by
    rw [judgeLaneGeometry, State.heldFor_of_mayChange free, State.hunt_lane, State.hunt_saving, idle]
    dsimp only
    rw [if_neg Bool.false_ne_true, if_neg lit, if_neg Bool.false_ne_true, if_neg closed, read]
    dsimp only
    rw [Geometry.resolved_written f resolves, if_pos ok,
      geometryReply_eq k (by omega) (by omega) (by omega) (by omega) (by omega)]
  have event := exec_of_judgedLane (judge := judgeLaneGeometry l) reached tag rfl
    (judged.trans (done_runLane (f := fun _ w => judgeSensor (w.mod (LaneState.applyGeometry g))) (judgeSensor_geometry g _) rfl _ _))
  obtain ⟨h1, h2, h3, h4, h5, h6, h7, h8, h9, h10, h11, h12, h13⟩ := (s.lane k).regauged_withGeometry g s.rfu.slots k
  exact ⟨_, _, event, h1, h2, h3, h4, h5, h6, h7, h8, h9, h10, h11, h12, h13, fun b mem =>
    health_of_mem_healthNotices (a := (s.lane k).applyGeometry g) (b := (s.lane k).withGeometry g) mem⟩

/-! ## LANE_TIMING (R180) -/

/-- A setting brought into its range: as asked where it lies in it, else the nearer end (R178). -/
theorem clamp_brought {lo hi : Nat} (range : lo ≤ hi) (n : Nat) :
    (lo ≤ n → n ≤ hi → clamp lo hi n = n) ∧ (n < lo → clamp lo hi n = lo) ∧ (hi < n → clamp lo hi n = hi) := by
  unfold clamp
  refine ⟨fun least most => ?_, fun low => if_pos low, fun high => ?_⟩
  · rw [if_neg (by omega), if_neg (by omega)]
  · rw [if_neg (by omega), if_pos high]

theorem applyTiming_tracks (n : Timing) (l : LaneState) :
    (l.applyTiming n).ot.tracks = l.ot.tracks.map fun y => { y with history := newest (if n.tf = l.bsu.period then n.k else 1) y.history } := by
  refine List.map_congr_left fun y _ => ?_
  dsimp only
  split <;> rfl

/-- Settles O41: the settings are clamped one by one, and what they shorten follows them. -/
theorem timingReplacedAndClamped : Obligations.TimingReplacedAndClamped := by
  intro l tag p k t s reached free lit idle read old n brought
  have judged : judgeLaneTiming l k p (s.hunt l) =
      done k (if n = t then .ok else .clamped) ((s.hunt l).modLane k (LaneState.applyTiming n)) (b1 (laneNumber k) ++ n.bytes) := by
    rw [judgeLaneTiming, State.heldFor_of_mayChange free, State.hunt_lane, State.hunt_saving, idle, if_neg Bool.false_ne_true, if_neg lit,
      if_neg Bool.false_ne_true, read]
  have event : done k (if n = t then .ok else .clamped) ((s.hunt l).modLane k (LaneState.applyTiming n)) (b1 (laneNumber k) ++ n.bytes)
      = { state := (s.hunt l).setLane k ((old.applyTiming n).withOutputs s.rfu.slots k), status := if n = t then .ok else .clamped
          body := b1 (laneNumber k) ++ n.bytes } := by
    rw [done, State.modLane, State.hunt_lane, State.setLane_refresh, State.hunt_rfu]
  refine ⟨⟨_, exec_of_judgedLane (judge := judgeLaneTiming l) reached tag rfl (judged.trans event), rfl, rfl, rfl, rfl, rfl, rfl, rfl,
    applyTiming_tracks n old⟩, ?_⟩
  refine ⟨clamp_brought (by decide) _, clamp_brought (by decide) _, clamp_brought (by decide) _, clamp_brought (by decide) _,
    clamp_brought (by decide) _, clamp_brought (by decide) _, clamp_brought (by decide) _, clamp_brought (by decide) _,
    clamp_brought (by decide) _, clamp_brought (by decide) _, clamp_brought (by decide) _, clamp_brought (by decide) _,
    clamp_brought (by decide) _, clamp_brought (by decide) _, clamp_brought (by decide) _, clamp_brought (by decide) _,
    fun off => if_pos off, fun on => ?_, clamp_brought (by decide) _, clamp_brought (by decide) _, clamp_brought (by decide) _, rfl, rfl, rfl⟩
  have clears : n.autoClear = clamp 5 300 t.autoClear := if_neg on
  rw [clears]
  exact clamp_brought (by decide) _

end Sys2Proof.Machine

/-! The requests that change the credential table and the class table. -/

namespace Sys2Proof.Machine

/-! ## Placing a record by its number (R126, R143) -/

/-- A record between those of lower and those of higher number. -/
theorem insertCred_between {c : Cred} {lower higher : List Cred} (below : ∀ x ∈ lower, x.number < c.number)
    (above : ∀ x ∈ higher, c.number < x.number) : insertCred c (lower ++ higher) = lower ++ c :: higher := by
  induction lower with
  | nil =>
    cases higher with
    | nil => rfl
    | cons y ys =>
      have higherThan := above y List.mem_cons_self
      rw [List.nil_append, insertCred, if_neg (by omega), if_neg (by omega), List.nil_append]
  | cons x xs ih =>
    rw [List.cons_append, insertCred, if_pos (below x List.mem_cons_self), ih fun y mem => below y (List.mem_cons_of_mem x mem),
      List.cons_append]

/-- A record in the place of the one that has its number. -/
theorem insertCred_over {c old : Cred} {lower higher : List Cred} (below : ∀ x ∈ lower, x.number < c.number)
    (same : old.number = c.number) : insertCred c (lower ++ old :: higher) = lower ++ c :: higher := by
  induction lower with
  | nil => rw [List.nil_append, insertCred, if_neg (by omega), if_pos same, List.nil_append]
  | cons x xs ih =>
    rw [List.cons_append, insertCred, if_pos (below x List.mem_cons_self), ih fun y mem => below y (List.mem_cons_of_mem x mem),
      List.cons_append]

theorem findCred_over {c old : Cred} {lower higher : List Cred} (below : ∀ x ∈ lower, x.number < c.number)
    (same : old.number = c.number) : findCred c.number (lower ++ old :: higher) = some old := by
  refine List.find?_eq_some_iff_append.mpr ⟨beq_iff_eq.mpr same, lower, higher, rfl, fun x mem => ?_⟩
  simpa using Nat.ne_of_lt (below x mem)

theorem findCred_between {c : Cred} {lower higher : List Cred} (below : ∀ x ∈ lower, x.number < c.number)
    (above : ∀ x ∈ higher, c.number < x.number) : findCred c.number (lower ++ higher) = none := by
  refine List.find?_eq_none.mpr fun x mem test => ?_
  have same : x.number = c.number := beq_iff_eq.mp test
  rcases List.mem_append.mp mem with low | high
  · exact absurd same (Nat.ne_of_lt (below x low))
  · exact absurd same (Nat.ne_of_gt (above x high))

/-- Over an ordered table that holds a record of its number, a record takes the place of that one alone. -/
theorem insertCred_of_found {c old : Cred} {cs : List Cred} (ordered : ascending cs = true) (found : findCred c.number cs = some old) :
    insertCred c cs = cs.map fun x => if x.number = c.number then c else x := by
  obtain ⟨same, lower, higher, rfl, -⟩ := List.find?_eq_some_iff_append.mp found
  have same : old.number = c.number := beq_iff_eq.mp same
  rw [ascending_iff, List.pairwise_append, List.pairwise_cons] at ordered
  obtain ⟨-, ⟨above, -⟩, between⟩ := ordered
  have below (x : Cred) (mem : x ∈ lower) : x.number < c.number := same ▸ between x mem old List.mem_cons_self
  have low : lower.map (fun x => if x.number = c.number then c else x) = lower :=
    (List.map_congr_left fun x mem => if_neg (Nat.ne_of_lt (below x mem))).trans (List.map_id lower)
  have high : higher.map (fun x => if x.number = c.number then c else x) = higher :=
    (List.map_congr_left fun x mem => if_neg (Nat.ne_of_gt (same ▸ above x mem))).trans (List.map_id higher)
  rw [insertCred_over below same, List.map_append, List.map_cons, low, high, if_pos same]

theorem insertCred_length_of_new {c : Cred} {cs : List Cred} (absent : findCred c.number cs = none) :
    (insertCred c cs).length = cs.length + 1 := by
  induction cs with
  | nil => rfl
  | cons x xs ih =>
    have other : x.number ≠ c.number := fun same => List.find?_eq_none.mp absent x List.mem_cons_self (beq_iff_eq.mpr same)
    by_cases low : x.number < c.number
    · rw [insertCred, if_pos low, List.length_cons, List.length_cons,
        ih (List.find?_eq_none.mpr fun y mem => List.find?_eq_none.mp absent y (List.mem_cons_of_mem x mem))]
    · rw [insertCred, if_neg low, if_neg other]
      rfl

/-! ## CRED_PUT (R143) -/

/-- The state with the records of its credential table replaced. -/
theorem State.setCreds_hunt (s : State) (l : Link) (cs : List Cred) :
    (s.hunt l).setCreds cs = { s.hunt l with cst := { (s.hunt l).cst with creds := cs } } := rfl

theorem judgeCredPut_new {s : State} {p : List Byte} {c : Cred} (idle : s.saving = false) (request : putRequest p = some c)
    (absent : findCred c.number s.cst.creds = none) (room : s.cst.creds.length < 8192) :
    judgeCredPut p s =
      { state := s.setCreds (insertCred c s.cst.creds), status := .ok, body := fld 1 1 ++ fld 2 (s.cst.creds.length + 1) } := by
  rw [judgeCredPut, idle, if_neg Bool.false_ne_true, request]
  dsimp only
  rw [absent]
  refine (if_neg (Nat.not_le.mpr room)).trans ?_
  rw [tableDone, State.countBytes, State.setCreds, insertCred_length_of_new absent]
  rfl

theorem judgeCredPut_full {s : State} {p : List Byte} {c : Cred} (idle : s.saving = false) (request : putRequest p = some c)
    (absent : findCred c.number s.cst.creds = none) (full : 8192 ≤ s.cst.creds.length) : judgeCredPut p s = tableRefused s .tableFull := by
  rw [judgeCredPut, idle, if_neg Bool.false_ne_true, request]
  dsimp only
  rw [absent]
  exact if_pos full

theorem judgeCredPut_over {s : State} {p : List Byte} {c old : Cred} (idle : s.saving = false) (request : putRequest p = some c)
    (found : findCred c.number s.cst.creds = some old) :
    judgeCredPut p s = tableDone (s.setCreds (insertCred (old.putOver c) s.cst.creds)) (b1 2) := by
  rw [judgeCredPut, idle, if_neg Bool.false_ne_true, request]
  dsimp only
  rw [found]

theorem tableDone_eq {s : State} {cs : List Cred} {n : Nat} (body : List Byte) (length : cs.length = n) :
    tableDone (s.setCreds cs) body = { state := s.setCreds cs, status := .ok, body := body ++ fld 2 n } := by
  rw [← length]
  rfl

/-- What a CRED_PUT asks for is a new record: presence UNKNOWN, no last passage. -/
theorem putRequest_new {p : List Byte} {c : Cred} (request : putRequest p = some c) :
    c.presence = .unknown ∧ c.lastTime = none ∧ c.lastLane = none := by
  unfold putRequest at request
  dsimp only at request
  split at request
  · split at request
    · cases request
      exact ⟨rfl, rfl, rfl⟩
    · exact absurd request nofun
  · exact absurd request nofun

theorem Cred.ok_of {c : Cred} (number : 1 ≤ c.number) (group : 1 ≤ c.group) (group' : c.group ≤ 8)
    (uses : ∀ n, c.uses = some n → 1 ≤ n ∧ n ≤ 255)
    (window : ∀ f u, c.validFrom = some f → c.validUntil = some u → f ≤ u) : c.ok = true := by
  rw [Cred.ok, Bool.and_eq_true, Bool.and_eq_true, Bool.and_eq_true]
  refine ⟨⟨⟨decide_eq_true number, decide_eq_true ⟨group, group'⟩⟩, ?_⟩, ?_⟩
  · cases some_ : c.uses with
    | none => rfl
    | some n => exact decide_eq_true (uses n some_)
  · cases from_ : c.validFrom with
    | none => rfl
    | some f =>
      cases until_ : c.validUntil with
      | none => rfl
      | some u => exact decide_eq_true (window f u from_ until_)

theorem bitSet_zero {n : Nat} : bitSet n 0 = true ↔ n % 2 = 1 := by
  rw [bitSet, beq_iff_eq, Nat.pow_zero, Nat.div_one]

theorem bitSet_one {n : Nat} : bitSet n 1 = true ↔ n / 2 % 2 = 1 := by
  rw [bitSet, beq_iff_eq, Nat.pow_one]

theorem bitSet_two {n : Nat} : bitSet n 2 = true ↔ n / 4 % 2 = 1 := by
  rw [bitSet, beq_iff_eq]
  exact Iff.rfl

theorem byteAt_lt (p : List Byte) (i : Nat) : byteAt p i < 256 := (p.getD i 0).isLt

theorem CredState.ofCode_code (v : CredState) :
    CredState.ofCode v.code = some v := by cases v <;> rfl

theorem fieldIf_eq {b : Bool} {P : Prop} [Decidable P] (h : b = true ↔ P) (n : Nat) : fieldIf b n = if P then some n else none :=
  if_congr h rfl rfl

theorem sizeIf_eq {b : Bool} {P : Prop} [Decidable P] (h : b = true ↔ P) (n : Nat) : sizeIf b n = if P then n else 0 :=
  if_congr h rfl rfl

theorem credentialTable_claim : Claims.CredentialTableChanges := by
  intro l tag p s idle h table
  have idle' : h.saving = false := by rw [State.hunt_saving, idle]
  have creds : h.cst.creds = s.cst.creds := congrArg Cst.creds (State.hunt_cst s l)
  have count : h.countBytes = fld 2 s.cst.creds.length := by rw [State.countBytes, creds]
  refine ⟨fun c reached request => ⟨fun absent room => ⟨?_, putRequest_new request⟩, fun absent full => ?_, fun old found ordered => ?_⟩,
    fun reached some_ => ?_, fun reached absent => ?_, fun reached => ?_⟩
  · have judged := judgeCredPut_new (s := h) idle' request (by rwa [creds]) (by rwa [creds])
    rw [creds] at judged
    exact exec_of_judged reached tag judged
  · have judged := judgeCredPut_full (s := h) idle' request (by rwa [creds]) (by rwa [creds])
    rw [tableRefused, count] at judged
    exact exec_of_judged reached tag judged
  · have judged := judgeCredPut_over (s := h) idle' request (by rwa [creds])
    rw [creds, insertCred_of_found (c := old.putOver c) ordered found, tableDone_eq (b1 2) (List.length_map _)] at judged
    exact exec_of_judged reached tag judged
  · intro kept
    obtain ⟨c, found⟩ := Option.ne_none_iff_exists'.mp some_
    refine exec_of_judged reached tag (.trans ?_ (tableDone_eq (s := h) (cs := kept) [] rfl))
    show judgeCredDrop p h = _
    rw [judgeCredDrop, idle', if_neg Bool.false_ne_true, creds, found]
    rfl
  · refine exec_of_judged reached tag ?_
    show judgeCredDrop p h = _
    rw [judgeCredDrop, idle', if_neg Bool.false_ne_true, creds, absent, ← count]
    rfl
  · refine exec_of_judged reached tag (.trans ?_ (tableDone_eq (s := h) (cs := []) (fld 2 s.cst.creds.length) rfl))
    show judgeCredClear p h = _
    rw [judgeCredClear, idle', if_neg Bool.false_ne_true, creds]

theorem putRecordWritten_claim : Claims.PutRecordWritten := by
  intro l tag p k v s idle reached h table fromIn untilIn usesIn untilAt usesAt c number cls state group group' flags uses window lower higher below
  have idle' : h.saving = false := by rw [State.hunt_saving, idle]
  have creds : h.cst.creds = s.cst.creds := congrArg Cst.creds (State.hunt_cst s l)
  have untilPlace : 12 + sizeIf (bitSet (byteAt p 11) 0) 4 = untilAt := by
    rw [sizeIf_eq bitSet_zero]
    show _ = if fromIn then 16 else 12
    split <;> rfl
  have usesPlace : untilAt + sizeIf (bitSet (byteAt p 11) 1) 4 = usesAt := by
    rw [sizeIf_eq bitSet_one]
    show _ = if untilIn then untilAt + 4 else untilAt
    split <;> rfl
  have sound : c.ok = true := by
    have counts (n : Nat) (some_ : c.uses = some n) : 1 ≤ n ∧ n ≤ 255 := by
      by_cases given : usesIn
      · have byte : n = byteAt p usesAt := (Option.some.inj ((if_pos given).symm.trans some_)).symm
        exact byte ▸ ⟨Nat.one_le_iff_ne_zero.mpr (uses given), Nat.le_of_lt_succ (byteAt_lt p usesAt)⟩
      · exact absurd ((if_neg given).symm.trans some_) nofun
    have ordered (f u : Nat) (from_ : c.validFrom = some f) (until_ : c.validUntil = some u) : f ≤ u := by
      by_cases first : fromIn
      · by_cases last : untilIn
        · have f_eq : f = natAt p 12 4 := (Option.some.inj ((if_pos first).symm.trans from_)).symm
          have u_eq : u = natAt p untilAt 4 := (Option.some.inj ((if_pos last).symm.trans until_)).symm
          rw [f_eq, u_eq]
          exact window first last
        · exact absurd ((if_neg last).symm.trans until_) nofun
      · exact absurd ((if_neg first).symm.trans from_) nofun
    exact Cred.ok_of (Nat.one_le_iff_ne_zero.mpr number) group group' counts ordered
  have state : byteAt p 9 = v.code := state.trans (by cases v <;> rfl)
  have request : putRequest p = some c := by
    rw [putRequest]
    dsimp only
    rw [untilPlace, usesPlace, cls, classOfByte_val, state, CredState.ofCode_code, fieldIf_eq bitSet_zero, fieldIf_eq bitSet_one,
      fieldIf_eq bitSet_two]
    exact if_pos ⟨Nat.lt_succ_of_le flags, sound⟩
  refine ⟨fun placed above room => ?_, fun old placed same => ?_⟩
  · have judged := judgeCredPut_new (s := h) idle' request (by rw [creds, placed]; exact findCred_between below above) (by rwa [creds])
    rw [creds, placed, insertCred_between below above, ← placed] at judged
    exact exec_of_judged reached tag judged
  · have judged := judgeCredPut_over (s := h) idle' request (by rw [creds, placed]; exact findCred_over below same)
    have replaced : insertCred (old.putOver c) s.cst.creds = lower ++ old.putOver c :: higher := by
      rw [placed]
      exact insertCred_over (c := old.putOver c) below same
    have length : (lower ++ old.putOver c :: higher).length = s.cst.creds.length := by rw [placed]; simp
    rw [creds, replaced, tableDone_eq (b1 2) length] at judged
    exact exec_of_judged reached tag judged

/-! ## PRESENCE_SET, PRESENCE_RESET and CLASS_SET (R127, R146) -/

theorem Presence.ofCode_code (v : Presence) : Presence.ofCode v.code = some v := by cases v <;> rfl

theorem presenceAndClass_claim : Claims.PresenceAndClassChanges := by
  intro l tag p s idle h count table
  have idle' : h.saving = false := by rw [State.hunt_saving, idle]
  have creds : h.cst.creds = s.cst.creds := congrArg Cst.creds (State.hunt_cst s l)
  refine ⟨fun c v reached found ordered code => ?_, fun reached => ?_, fun k c reached named record => ?_⟩
  · have number : c.number = natAt p 0 8 := beq_iff_eq.mp (List.find?_some (p := fun x : Cred => x.number == natAt p 0 8) found)
    have replaced := insertCred_of_found (c := { c with presence := v }) ordered (number ▸ found)
    refine exec_of_judged reached tag (.trans ?_ (tableDone_eq (s := h)
      (cs := s.cst.creds.map fun x => if x.number = c.number then { c with presence := v } else x) _ (List.length_map _)))
    show judgePresenceSet p h = _
    rw [judgePresenceSet, idle', if_neg Bool.false_ne_true, code, Presence.ofCode_code, creds]
    dsimp only
    rw [found]
    dsimp only
    rw [replaced]
  · refine exec_of_judged reached tag (.trans ?_ (tableDone_eq (s := h)
      (cs := s.cst.creds.map fun x => { x with presence := .unknown }) [] (List.length_map _)))
    show judgePresenceReset p h = _
    rw [judgePresenceReset, idle', if_neg Bool.false_ne_true, creds]
  · refine ⟨{ h with cst := { h.cst with classes := h.cst.classes.set k.val c k.isLt } }, exec_of_judged reached tag ?_, ?_, fun j other => ?_, ?_⟩
    · show judgeClassSet p h = _
      rw [judgeClassSet, idle', if_neg Bool.false_ne_true, named, classOfByte_val, record]
      show tableDone _ [] = _
      rw [tableDone, State.countBytes]
      dsimp only
      rw [creds]
      rfl
    · exact Vector.getElem_set_self k.isLt
    · exact (Vector.getElem_set_ne k.isLt j.isLt fun same => other (Fin.ext same.symm)).trans
        (congrArg (fun x : Cst => x.cls j) (State.hunt_cst s l))
    · dsimp only
      rw [creds]

/-- Settles O46: each request replaces the records or the class record that it names. -/
theorem tableRequestsApplied : Obligations.TableRequestsApplied :=
  ⟨credentialTable_claim, putRecordWritten_claim, presenceAndClass_claim⟩

end Sys2Proof.Machine

/-! ROUTE: the entries that its bytes spell, and the routing table that they make. -/

namespace Sys2Proof.Machine

/-! ## Lists of lookups, and lists without a repetition -/

theorem mapM_eq_some_iff {α β : Type} {f : α → Option β} {xs : List α} {ys : List β} : xs.mapM f = some ys ↔ xs.map f = ys.map some := by
  refine ⟨map_eq_of_mapM, fun h => ?_⟩
  induction xs generalizing ys with
  | nil =>
    obtain rfl : ys = [] := by simpa using h.symm
    rfl
  | cons x xs ih =>
    cases ys with
    | nil => exact absurd h nofun
    | cons y ys =>
      obtain ⟨first, rest⟩ := List.cons.inj h
      rw [List.mapM_cons, first, ih rest]
      rfl

theorem eraseDups_length_le {α : Type} [BEq α] (xs : List α) : xs.eraseDups.length ≤ xs.length := by
  match xs with
  | [] => exact le_rfl
  | x :: xs =>
    rw [List.eraseDups_cons, List.length_cons, List.length_cons]
    have fewer := List.length_filter_le (fun b => !b == x) xs
    exact Nat.succ_le_succ ((eraseDups_length_le _).trans fewer)
termination_by xs.length
decreasing_by exact Nat.lt_succ_of_le fewer

theorem filter_ne_of_not_mem {α : Type} [BEq α] [LawfulBEq α] {x : α} {xs : List α} (h : x ∉ xs) : xs.filter (fun b => !b == x) = xs :=
  List.filter_eq_self.mpr fun y mem => by
    have other : y ≠ x := fun same => h (same ▸ mem)
    simpa using other

/-- A list loses nothing to the erasure of repetitions when it has none. -/
theorem eraseDups_length_eq_iff {α : Type} [BEq α] [LawfulBEq α] {xs : List α} : xs.eraseDups.length = xs.length ↔ xs.Nodup := by
  induction xs with
  | nil => exact iff_of_true rfl List.nodup_nil
  | cons x xs ih =>
    rw [List.eraseDups_cons, List.length_cons, List.length_cons, Nat.add_right_cancel_iff, List.nodup_cons]
    by_cases mem : x ∈ xs
    · refine iff_of_false (fun same => ?_) fun h => h.1 mem
      have fewer : (xs.filter fun b => !b == x).length < xs.length := List.length_filter_lt_length_iff_exists.mpr ⟨x, mem, by simp⟩
      exact absurd same (Nat.ne_of_lt ((eraseDups_length_le _).trans_lt fewer))
    · rw [filter_ne_of_not_mem mem, ih, and_iff_right mem]

/-! ## The entries of a ROUTE (R182) -/

/-- The bytes of a ROUTE. -/
def routePayload (es : List (NoticeKind × Route)) : List Byte :=
  BitVec.ofNat 8 es.length :: es.flatMap fun x => [BitVec.ofNat 8 x.1.code, BitVec.ofNat 8 x.2.code]

theorem NoticeKind.ofCode_byte (kind : NoticeKind) : NoticeKind.ofCode (BitVec.ofNat 8 kind.code).toNat = some kind := by cases kind <;> rfl

theorem Route.ofCode_byte (x : Route) : Route.ofCode (BitVec.ofNat 8 x.code).toNat = some x := by cases x <;> rfl

/-- The one test of an entry whose codes are codes: REFERRAL stays at SITE. -/
def checkedEntry (e : NoticeKind × Route) : Option (NoticeKind × Route) := if e.1 = .referral ∧ e.2 ≠ .site then none else some e

theorem routePairs_getD (es : List (NoticeKind × Route)) (i : Nat) (h : i < es.length) :
    (es.flatMap fun x => [BitVec.ofNat 8 x.1.code, BitVec.ofNat 8 x.2.code]).getD (2 * i) 0#8 = BitVec.ofNat 8 es[i].1.code
    ∧ (es.flatMap fun x => [BitVec.ofNat 8 x.1.code, BitVec.ofNat 8 x.2.code]).getD (2 * i + 1) 0#8 = BitVec.ofNat 8 es[i].2.code := by
  induction es generalizing i with
  | nil => exact absurd h (Nat.not_lt_zero i)
  | cons e es ih =>
    cases i with
    | zero => exact ⟨rfl, rfl⟩
    | succ i => exact ih i (Nat.lt_of_succ_lt_succ h)

theorem routeEntry_routePayload {es : List (NoticeKind × Route)} {i : Nat} (h : i < es.length) :
    routeEntry (routePayload es) i = checkedEntry es[i] := by
  obtain ⟨first, second⟩ := routePairs_getD es i h
  have kind : byteAt (routePayload es) (1 + 2 * i) = (BitVec.ofNat 8 es[i].1.code).toNat := by
    rw [Nat.add_comm, ← first]
    rfl
  have route : byteAt (routePayload es) (2 + 2 * i) = (BitVec.ofNat 8 es[i].2.code).toNat := by
    rw [show 2 + 2 * i = (2 * i + 1) + 1 by omega, ← second]
    rfl
  rw [routeEntry, kind, route, NoticeKind.ofCode_byte, Route.ofCode_byte]
  rfl

theorem routePayload_count {es : List (NoticeKind × Route)} (few : es.length ≤ 11) : byteAt (routePayload es) 0 = es.length :=
  toNat_ofNat_of_lt (by omega)

theorem map_routeEntry {es : List (NoticeKind × Route)} (few : es.length ≤ 11) :
    (List.range (byteAt (routePayload es) 0)).map (routeEntry (routePayload es)) = es.map checkedEntry := by
  rw [routePayload_count few]
  refine List.ext_getElem (by simp) fun i h _ => ?_
  rw [List.length_map, List.length_range] at h
  rw [List.getElem_map, List.getElem_map, List.getElem_range, routeEntry_routePayload h]

theorem routePayload_length (es : List (NoticeKind × Route)) : (routePayload es).length = 1 + 2 * es.length := by
  simp only [routePayload, List.length_cons, List.length_flatMap, List.length_nil, List.map_const', List.sum_replicate, smul_eq_mul]
  omega

/-- A ROUTE names each kind once, and REFERRAL only to SITE. -/
def soundEntries (es : List (NoticeKind × Route)) : Prop := (es.map Prod.fst).Nodup ∧ ∀ x ∈ es, x.1 = .referral → x.2 = .site

theorem routeEntries_of_sound {es : List (NoticeKind × Route)} (few : es.length ≤ 11) (sound : soundEntries es) :
    routeEntries (routePayload es) = some es := by
  have entries : (List.range (byteAt (routePayload es) 0)).mapM (routeEntry (routePayload es)) = some es := by
    rw [mapM_eq_some_iff, map_routeEntry few]
    refine List.map_congr_left fun x mem => if_neg fun wrong => ?_
    exact wrong.2 (sound.2 x mem wrong.1)
  rw [routeEntries, entries]
  refine if_pos ?_
  rw [eraseDups_length_eq_iff.mpr sound.1, List.length_map]

theorem routeEntries_of_unsound {es : List (NoticeKind × Route)} (few : es.length ≤ 11) (unsound : ¬soundEntries es) :
    routeEntries (routePayload es) = none := by
  unfold routeEntries
  cases entries : (List.range (byteAt (routePayload es) 0)).mapM (routeEntry (routePayload es)) with
  | none => rfl
  | some ys =>
    rw [mapM_eq_some_iff, map_routeEntry few] at entries
    have passes (x : NoticeKind × Route) (mem : x ∈ es) : checkedEntry x = some x := by
      obtain ⟨y, -, same⟩ := List.mem_map.mp (entries ▸ List.mem_map_of_mem (f := checkedEntry) mem)
      rw [checkedEntry] at same ⊢
      split at same
      · exact absurd same nofun
      · rename_i right
        exact if_neg right
    have same : ys = es := by
      rw [List.map_congr_left passes] at entries
      exact (List.map_injective_iff.mpr (Option.some_injective _) entries).symm
    subst same
    refine if_neg fun once => unsound ⟨eraseDups_length_eq_iff.mp (once.trans (List.length_map _).symm), fun x mem referral => ?_⟩
    by_contra other
    exact absurd ((if_pos ⟨referral, other⟩).symm.trans (passes x mem)) nofun

/-! ## The table that the entries make -/

/-- Whether an entry is changed: NONE for an alarm-bearing kind (R182). -/
def routeChanged (x : NoticeKind × Route) : Bool :=
  (x.1 == .violation || x.1 == .barrier || x.1 == .reader || x.1 == .lane) && x.2 == .nowhere

theorem correctedRoute_eq {x : NoticeKind × Route} (site : x.1 = .referral → x.2 = .site) :
    correctedRoute x.1 x.2 = if routeChanged x then .both else x.2 := by
  obtain ⟨kind, route⟩ := x
  cases kind with
  | referral => rw [site rfl]; rfl
  | _ => cases route <;> rfl

theorem correctedRoute_same_iff {x : NoticeKind × Route} (site : x.1 = .referral → x.2 = .site) :
    decide (correctedRoute x.1 x.2 = x.2) = !routeChanged x := by
  rw [correctedRoute_eq site]
  cases changed : routeChanged x with
  | false => exact decide_eq_true rfl
  | true =>
    have nowhere : x.2 = .nowhere := beq_iff_eq.mp (Bool.and_eq_true_iff.mp changed).2
    rw [nowhere]
    rfl

theorem Routing.foldl_apply_get (es : List (NoticeKind × Route)) (r : Routing) (once : (es.map Prod.fst).Nodup) :
    (∀ x ∈ es, (es.foldl Routing.apply r).get x.1 = correctedRoute x.1 x.2)
    ∧ ∀ kind, kind ∉ es.map Prod.fst → (es.foldl Routing.apply r).get kind = r.get kind := by
  induction es generalizing r with
  | nil => exact ⟨fun x mem => absurd mem List.not_mem_nil, fun _ _ => rfl⟩
  | cons e es ih =>
    rw [List.map_cons, List.nodup_cons] at once
    obtain ⟨fresh, once⟩ := once
    obtain ⟨named, others⟩ := ih (r.apply e) once
    refine ⟨fun x mem => ?_, fun kind out => ?_⟩
    · rcases List.mem_cons.mp mem with rfl | later
      · rw [List.foldl_cons, others x.1 fresh, Routing.apply, Routing.get_put, if_pos rfl]
      · exact named x later
    · rw [List.map_cons, List.mem_cons, not_or] at out
      rw [List.foldl_cons, others kind out.2, Routing.apply, Routing.get_put, if_neg out.1]

/-! ## ROUTE (R182) -/

theorem judgeRoute_of_sound {s : State} {es : List (NoticeKind × Route)} (idle : s.saving = false) (few : es.length ≤ 11)
    (sound : soundEntries es) :
    judgeRoute (routePayload es) s =
      { state := { s with routing := es.foldl Routing.apply s.routing }, status := if es.any routeChanged then .clamped else .ok
        body := (es.foldl Routing.apply s.routing).bytes } := by
  have status : (es.all fun e => decide (correctedRoute e.1 e.2 = e.2)) = !es.any routeChanged := by
    rw [List.not_any_eq_all_not]
    rw [Bool.eq_iff_iff, List.all_eq_true, List.all_eq_true]
    exact forall₂_congr fun x mem => by rw [correctedRoute_same_iff (sound.2 x mem)]
  rw [judgeRoute, if_neg fun both => Bool.false_ne_true (idle.symm.trans both.2), routeEntries_of_sound few sound]
  dsimp only
  rw [status]
  cases es.any routeChanged <;> rfl

theorem judgeRoute_of_unsound {s : State} {es : List (NoticeKind × Route)} (idle : s.saving = false) (few : es.length ≤ 11)
    (unsound : ¬soundEntries es) : judgeRoute (routePayload es) s = refused s .badValue := by
  rw [judgeRoute, if_neg fun both => Bool.false_ne_true (idle.symm.trans both.2), routeEntries_of_unsound few unsound]

theorem routePayload_reaches {s : State} {l : Link} {es : List (NoticeKind × Route)} (room : (s.link l).tx.length < 4)
    (few : es.length ≤ 11) : s.reaches l .route (routePayload es) := by
  refine ⟨room, ?_⟩
  rw [routePayload_length]
  exact (congrArg (1 + 2 * ·) (routePayload_count few)).symm

theorem routeList_claim : Claims.RouteListApplied := by
  intro l tag es s room idle few h payload changed sound
  have idle' : h.saving = false := by rw [State.hunt_saving, idle]
  have routing : h.routing = s.routing := State.hunt_routing s l
  refine ⟨fun right => ⟨es.foldl Routing.apply s.routing, ?_, fun x mem => ?_, ?_⟩, fun wrong => ?_⟩
  · have judged := judgeRoute_of_sound idle' few right
    rw [routing] at judged
    exact exec_of_judged (routePayload_reaches room few) tag judged
  · exact ((Routing.foldl_apply_get es s.routing right.1).1 x mem).trans (correctedRoute_eq (right.2 x mem))
  · exact (Routing.foldl_apply_get es s.routing right.1).2
  · exact exec_of_judged (routePayload_reaches room few) tag (judgeRoute_of_unsound idle' few wrong)

theorem routeChanged_iff (kind : NoticeKind) (route : Route) :
    routeChanged (kind, route) = true ↔ (kind = .violation ∨ kind = .barrier ∨ kind = .reader ∨ kind = .lane) ∧ route = .nowhere := by
  simp [routeChanged, or_assoc]

theorem soundEntries_one {kind : NoticeKind} {route : Route} : soundEntries [(kind, route)] ↔ (kind = .referral → route = .site) := by
  simp [soundEntries]

theorem routeOne_claim : Claims.RouteApplied := by
  intro l tag kind route s room h bearing inForce
  have list (idle : s.saving = false) := routeList_claim l tag [(kind, route)] s room idle (Nat.le_add_left 1 10)
  have status : ([(kind, route)].any routeChanged = true) ↔ (bearing ∧ route = .nowhere) := by
    rw [List.any_cons, List.any_nil, Bool.or_false, routeChanged_iff]
  refine ⟨fun idle site => ?_, fun idle referral other => ?_, ?_⟩
  · obtain ⟨r, ran, named, others⟩ := (list idle).1 (soundEntries_one.mpr site)
    refine ⟨r, ran.trans ?_, (named _ List.mem_cons_self).trans ?_, fun other differs => ?_⟩
    · exact congrArg (fun st => Host.Outcome.next (({ h with routing := r } : State).reply l (replyOf .route tag st r.bytes)))
        (if_congr status rfl rfl)
    · exact if_congr (routeChanged_iff kind route) rfl rfl
    · exact others other fun mem => differs (List.mem_singleton.mp mem)
  · exact (list idle).2 fun sound => other (soundEntries_one.mp sound referral)
  · refine exec_of_judged (kind := .route) (p := [0]) ⟨room, rfl⟩ tag ?_
    show judgeRoute [0] h = _
    rw [judgeRoute, if_neg fun both => both.1 rfl]
    show ({ state := { h with routing := h.routing }, status := .ok, body := h.routing.bytes } : Judged) = _
    rw [State.hunt_routing]

/-- Settles O50: the payload spells its entries, which are put into the table one by one. -/
theorem routeApplied : Obligations.RouteApplied := ⟨routeOne_claim, routeList_claim⟩

end Sys2Proof.Machine

/-! What the owners refuse: on a held lane, while a save is in flight, and by the fields of the request. -/

namespace Sys2Proof.Machine

/-! ## Under desk hold (R119) -/

theorem heldLane_claim : Claims.HeldLaneRefusesSite := by
  intro kind tag p k s named reached hold
  have held : (s.hunt .site).heldFor .site k = true := by
    rw [State.heldFor, State.hunt_lane]
    exact Option.isSome_iff_ne_none.mpr hold
  simp only [List.mem_cons, List.not_mem_nil, or_false] at named
  rcases named with rfl | rfl | rfl | rfl | rfl | rfl | rfl | rfl
  · exact exec_of_judgedLane (judge := judgeLaneMode .site) reached tag rfl (if_pos held)
  · exact exec_of_judgedLane (judge := judgeLaneGeometry .site) reached tag rfl (if_pos held)
  · exact exec_of_judgedLane (judge := judgeLaneTiming .site) reached tag rfl (if_pos held)
  · exact exec_of_judgedLane (judge := judgeLaneReset .site) reached tag rfl (if_pos held)
  · exact exec_of_judgedLane (judge := judgePulse .site) reached tag rfl (if_pos held)
  · exact exec_of_judgedLane (judge := judgeCancel .site) reached tag rfl (if_pos held)
  · exact exec_of_judgedLane (judge := judgeRestore .site) reached tag rfl (if_pos held)
  · exact exec_of_judgedLane (judge := judgeAlarmAck .site) reached tag rfl (if_pos held)

/-! ## While a save is in flight (R142, R180, R182, R192, R197) -/

theorem State.hunt_countBytes (s : State) (l : Link) : (s.hunt l).countBytes = fld 2 s.cst.creds.length := by
  rw [State.countBytes, State.hunt_cst]

theorem savingRefuses_claim : Claims.SavingRefusesBusy := by
  intro l tag p s saving h busy
  have saving' : h.saving = true := by rw [State.hunt_saving, saving]
  have refusal (st : Status) : tableRefused h st = { state := h, status := st, body := fld 2 s.cst.creds.length } := by
    rw [tableRefused, State.hunt_countBytes]
  refine ⟨fun kind named reached => ?_, fun k reached free lit => ?_, fun k reached free lit => ?_, fun reached => ?_,
    fun reached entries => ?_, fun reached unit => ?_⟩
  · simp only [List.mem_cons, List.not_mem_nil, or_false] at named
    rcases named with rfl | rfl | rfl | rfl | rfl | rfl <;>
      exact exec_of_judged reached tag ((if_pos saving').trans (refusal .busy))
  · refine exec_of_judgedLane (judge := judgeLaneGeometry l) reached tag rfl ?_
    rw [judgeLaneGeometry, State.heldFor_of_mayChange free, State.hunt_lane]
    dsimp only
    rw [if_neg Bool.false_ne_true, if_neg lit, if_pos saving']
    rfl
  · refine exec_of_judgedLane (judge := judgeLaneTiming l) reached tag rfl ?_
    rw [judgeLaneTiming, State.heldFor_of_mayChange free, State.hunt_lane, if_neg Bool.false_ne_true, if_neg lit, if_pos saving']
    rfl
  · exact exec_of_judged reached tag (if_pos saving')
  · exact exec_of_judged reached tag (if_pos ⟨entries, saving'⟩)
  · refine exec_of_judged reached tag ((if_pos ⟨bitSet_zero.mpr unit, saving'⟩).trans ?_)
    rw [identRefused, State.hunt_ims]

/-! ## By the fields of a lane request -/

theorem byteAt_drop (p : List Byte) (n i : Nat) : byteAt (p.drop n) i = byteAt p (n + i) := by
  simp [byteAt]

theorem flagOf_eq_none {n : Nat} (h : 1 < n) : flagOf n = none := by
  match n with
  | n + 2 => rfl

theorem Mode.code_of_ofCode {n : Nat} {m : Mode} (h : Mode.ofCode n = some m) : n = m.code := by
  unfold Mode.ofCode at h
  split at h <;> cases h <;> rfl

theorem Setting.ofCode_eq_none {n : Nat} (h : 2 < n) : Setting.ofCode n = none := by
  match n with
  | n + 3 => rfl

theorem policyOfBytes_some {a b : Nat} {pol : Policy} (h : policyOfBytes a b = some pol) : a ≤ 2 ∧ b ≤ 2 := by
  refine ⟨Nat.not_lt.mp fun beyond => ?_, Nat.not_lt.mp fun beyond => ?_⟩
  · rw [policyOfBytes, Setting.ofCode_eq_none beyond] at h
    exact absurd h nofun
  · unfold policyOfBytes at h
    rw [Setting.ofCode_eq_none beyond] at h
    split at h
    · exact absurd ‹none = some _› nofun
    · exact absurd h nofun

theorem scopeCurrent_iff {n : Nat} : scopeCurrent n = true ↔ n = 0 ∨ n = 2 := by
  rw [scopeCurrent, Bool.or_eq_true, decide_eq_true_iff, decide_eq_true_iff]

theorem scopeStart_iff {n : Nat} : scopeStart n = true ↔ n = 1 ∨ n = 2 := by
  rw [scopeStart, Bool.or_eq_true, decide_eq_true_iff, decide_eq_true_iff]

theorem modeRequest_eq_none {p : List Byte} (h : 2 < byteAt p 1 ∨ 4 ≤ byteAt p 2
    ∨ (byteAt p 2 = 0 ∧ (byteAt p 1 = 0 ∨ byteAt p 1 = 2)) ∨ 2 < byteAt p 3 ∨ 2 < byteAt p 4 ∨ 1 < byteAt p 5) : modeRequest p = none := by
  unfold modeRequest
  split
  · rename_i m policy force mode settings flag
    refine if_neg fun ⟨scope, lit, dark⟩ => ?_
    have code := Mode.code_of_ofCode mode
    have settings := policyOfBytes_some settings
    have flag : byteAt p 5 ≤ 1 := Nat.not_lt.mp fun beyond => absurd (flag.symm.trans (flagOf_eq_none beyond)) nofun
    cases m with
    | egress => exact lit rfl
    | dark =>
      have unscoped : ¬(byteAt p 1 = 0 ∨ byteAt p 1 = 2) := fun current => Bool.false_ne_true ((dark rfl).symm.trans (scopeCurrent_iff.mpr current))
      rw [Mode.code] at code
      omega
    | closed | service | lockdown =>
      rw [Mode.code] at code
      omega
  · rfl

theorem Orientation.ofCode_eq_none {n : Nat} (h : 1 < n) : Orientation.ofCode n = none := by
  match n with
  | n + 2 => rfl

/-- A geometry out of its bounds is refused, whatever its orientation. -/
theorem geometry_unsound {p : List Byte} {g : Geometry} (read : geometryOfBytes (p.drop 1) = some g)
    (h : byteAt p 1 < 1 ∨ 8 < byteAt p 1 ∨ byteAt p 2 < 4 ∨ 32 < byteAt p 2 ∨ byteAt p 2 + 3 < 4 * byteAt p 1
      ∨ 4 * byteAt p 1 < byteAt p 2 ∨ 1 < byteAt p 3 ∨ byteAt p 4 < 20 ∨ 150 < byteAt p 4
      ∨ (if byteAt p 5 = 0 then byteAt p 2 / 2 else byteAt p 5) < 2
      ∨ byteAt p 2 < (if byteAt p 5 = 0 then byteAt p 2 / 2 else byteAt p 5) + 2 ∨ byteAt p 6 < 1 ∨ 4 < byteAt p 6
      ∨ (if byteAt p 5 = 0 then byteAt p 2 / 2 else byteAt p 5) < byteAt p 6 + 1
      ∨ byteAt p 2 < (if byteAt p 5 = 0 then byteAt p 2 / 2 else byteAt p 5) + byteAt p 6 + 1) : g.resolved.ok ≠ true := by
  intro ok
  obtain ⟨o, code, rfl⟩ := Option.map_eq_some_iff.mp read
  have known : byteAt p 3 ≤ 1 := Nat.not_lt.mp fun beyond =>
    absurd (code.symm.trans ((congrArg Orientation.ofCode (byteAt_drop p 1 2)).trans (Orientation.ofCode_eq_none beyond))) nofun
  simp only [Geometry.ok, Geometry.resolved, byteAt_drop, Nat.reduceAdd, Bool.and_eq_true, decide_eq_true_eq] at ok
  generalize (if byteAt p 5 = 0 then byteAt p 2 / 2 else byteAt p 5) = f at ok h
  omega

theorem timingOfBytes_eq_none {p : List Byte} (h : 1 < byteAt p 12 ∨ 1 < byteAt p 24 ∨ 1 < byteAt p 27) :
    timingOfBytes (p.drop 1) = none := by
  have posture {n : Nat} (beyond : 1 < n) : Posture.ofCode n = none := by
    match n with
    | n + 2 => rfl
  have fallback {n : Nat} (beyond : 1 < n) : Fallback.ofCode n = none := by
    match n with
    | n + 2 => rfl
  unfold timingOfBytes
  rw [byteAt_drop, byteAt_drop, byteAt_drop]
  split
  · rename_i wide post back h1 h2 h3
    rcases h with beyond | beyond | beyond
    · exact absurd (h1.symm.trans (flagOf_eq_none beyond)) nofun
    · exact absurd (h2.symm.trans (posture beyond)) nofun
    · exact absurd (h3.symm.trans (fallback beyond)) nofun
  · rfl

theorem pulseFields_eq_none {m : Mode} {p : List Byte}
    (h : m = .dark ∨ m = .closed ∨ byteAt p 1 < 1 ∨ 2 < byteAt p 1 ∨ byteAt p 2 < 1 ∨ 8 < byteAt p 2) : pulseFields m p = none := by
  unfold pulseFields
  split
  · rename_i sound
    obtain ⟨lit, unclosed, least, most⟩ := sound
    have direction : byteAt p 1 = 0 ∨ 2 < byteAt p 1 := by
      rcases h with dark | closed | h
      · exact absurd dark lit
      · exact absurd closed unclosed
      · omega
    have unknown : dirOfCode (byteAt p 1) = none := by
      rcases direction with zero | beyond
      · rw [zero]
        rfl
      · match byteAt p 1, beyond with
        | n + 3, _ => rfl
    rw [unknown]
    rfl
  · rfl

theorem restoreFields_eq_none {inForce : Mode} {p : List Byte}
    (h : byteAt p 1 < 1 ∨ 3 < byteAt p 1 ∨ 2 < byteAt p 2 ∨ 2 < byteAt p 3 ∨ inForce ≠ .egress) : restoreFields inForce p = none := by
  unfold restoreFields
  split
  · rename_i m policy mode settings
    refine if_neg fun ⟨may, egress⟩ => ?_
    have code := Mode.code_of_ofCode mode
    have settings := policyOfBytes_some settings
    have outside : byteAt p 1 < 1 ∨ 3 < byteAt p 1 := by
      rcases h with low | high | entry | exit | other
      · exact .inl low
      · exact .inr high
      · omega
      · omega
      · exact absurd egress other
    cases m with
    | dark => exact absurd may (by decide)
    | egress => exact absurd may (by decide)
    | closed | service | lockdown =>
      rw [Mode.code] at code
      omega
  · rfl

theorem claimAllows_or_other (claim : Option Direction) (d : Direction) : claimAllows claim d ∨ ∃ c, claim = some c ∧ c ≠ d := by
  cases claim with
  | none => exact .inl (.inl rfl)
  | some c =>
    by_cases same : c = d
    · exact .inl (.inr (congrArg some same))
    · exact .inr ⟨c, rfl, same⟩

/-- A lane in EGRESS refuses what would change it (R110, R5, R180, R121, R60, R61). -/
theorem egress_refuses {l : Link} {tag : Byte} {p : List Byte} {k : Lane} {s : State} (free : s.mayChange l k)
    (egress : (s.lane k).lsv.mode = .egress) {kind : RequestKind}
    (named : kind ∈ ([.laneGeometry, .laneTiming, .laneReset, .pulse, .cancel] : List RequestKind)) (reached : s.reachesLane l kind p k) :
    exec (Instr.ofRequest l tag p kind) s = .next ((s.hunt l).reply l (replyOf kind tag .egress [])) := by
  have free' := State.heldFor_of_mayChange free
  have egress' : ((s.hunt l).lane k).lsv.mode = .egress := by rw [State.hunt_lane, egress]
  have unheld : ¬(s.hunt l).heldFor l k = true := by rw [free']; exact Bool.false_ne_true
  simp only [List.mem_cons, List.not_mem_nil, or_false] at named
  rcases named with rfl | rfl | rfl | rfl | rfl
  · exact exec_of_judgedLane (judge := judgeLaneGeometry l) reached tag rfl ((if_neg unheld).trans (if_pos egress'))
  · exact exec_of_judgedLane (judge := judgeLaneTiming l) reached tag rfl ((if_neg unheld).trans (if_pos egress'))
  · exact exec_of_judgedLane (judge := judgeLaneReset l) reached tag rfl ((if_neg unheld).trans (if_pos egress'))
  · exact exec_of_judgedLane (judge := judgePulse l) reached tag rfl ((if_neg unheld).trans (if_pos egress'))
  · exact exec_of_judgedLane (judge := judgeCancel l) reached tag rfl ((if_neg unheld).trans (if_pos egress'))

theorem laneOwners_claim : Claims.LaneOwnersRefuse := by
  intro l tag p k s free old h refuses reached current start f
  have free' := State.heldFor_of_mayChange free
  have unheld : ¬h.heldFor l k = true := by rw [free']; exact Bool.false_ne_true
  have lane : h.lane k = old := State.hunt_lane s l k
  refine ⟨fun egress => ⟨fun arrived running => ?_, fun kind named arrived => egress_refuses free egress named arrived⟩,
    fun arrived lit => ⟨fun starts saving => ?_, fun idle bad => ?_⟩, fun arrived lit moving => ?_,
    fun arrived lit idle => ⟨fun closed => ?_, fun mode empty bad => ?_⟩, fun arrived lit idle bad => ?_,
    fun arrived lit => ⟨fun bad => ?_, fun d mode dir least most => ⟨fun other => ?_, fun allows full => ?_⟩⟩, fun arrived bad => ?_,
    fun arrived bad => ?_⟩
  · refine exec_of_judgedLane (judge := judgeLaneMode l) arrived tag rfl ((if_neg unheld).trans (if_pos ⟨scopeCurrent_iff.mpr running, ?_⟩))
    rw [lane, egress]
  · refine exec_of_judgedLane (judge := judgeLaneMode l) arrived tag rfl ((if_neg unheld).trans ((if_neg fun both => lit ?_).trans
      (if_pos ⟨scopeStart_iff.mpr starts, by rw [State.hunt_saving, saving]⟩)))
    exact ⟨scopeCurrent_iff.mp both.1, by rw [← lane]; exact both.2⟩
  · refine exec_of_judgedLane (judge := judgeLaneMode l) arrived tag rfl ((if_neg unheld).trans ((if_neg fun both => lit ?_).trans
      ((if_neg fun both => idle ?_).trans ?_)))
    · exact ⟨scopeCurrent_iff.mp both.1, by rw [← lane]; exact both.2⟩
    · exact ⟨scopeStart_iff.mp both.1, by rw [← State.hunt_saving s l]; exact both.2⟩
    · rw [modeRequest_eq_none bad]
      rfl
  · refine exec_of_judgedLane (judge := judgeLaneReset l) arrived tag rfl ((if_neg unheld).trans ((if_neg (by rwa [lane])).trans (if_pos ?_)))
    rw [lane]
    rcases moving with opening | shutting
    · rw [opening]
      rfl
    · rw [shutting]
      rfl
  · refine exec_of_judgedLane (judge := judgeLaneGeometry l) arrived tag rfl ((if_neg unheld).trans ((if_neg (by rwa [lane])).trans
      ((if_neg (by rw [State.hunt_saving, idle]; exact Bool.false_ne_true)).trans (if_pos ?_))))
    rw [lane]
    by_contra sound
    rw [not_or, not_and_or, not_not, not_not, not_not] at sound
    exact closed sound
  · refine exec_of_judgedLane (judge := judgeLaneGeometry l) arrived tag rfl ((if_neg unheld).trans ((if_neg (by rwa [lane])).trans
      ((if_neg (by rw [State.hunt_saving, idle]; exact Bool.false_ne_true)).trans ((if_neg ?_).trans ?_))))
    · rw [lane]
      exact fun sound => sound.elim (fun other => mode.elim other.1 other.2) (absurd empty)
    · cases read : geometryOfBytes (p.drop 1) with
      | none => rfl
      | some g => exact if_neg (geometry_unsound read bad)
  · refine exec_of_judgedLane (judge := judgeLaneTiming l) arrived tag rfl ((if_neg unheld).trans ((if_neg (by rwa [lane])).trans
      ((if_neg (by rw [State.hunt_saving, idle]; exact Bool.false_ne_true)).trans ?_)))
    rw [timingOfBytes_eq_none bad]
    rfl
  · refine exec_of_judgedLane (judge := judgePulse l) arrived tag rfl ((if_neg unheld).trans ((if_neg (by rwa [lane])).trans ?_))
    rw [lane, pulseFields_eq_none bad]
    rfl
  · obtain ⟨c, claimed, differs⟩ := (claimAllows_or_other old.pq.claim d).resolve_left other
    refine exec_of_judgedLane (judge := judgePulse l) arrived tag rfl ((if_neg unheld).trans ((if_neg (by rwa [lane])).trans ?_))
    rw [lane, pulseFields_eq mode dir least most, State.hunt_work]
    dsimp only
    rw [append_laneBusy (w := s.work k) (r := pulseReq d (byteAt p 2)) claimed differs]
    rfl
  · refine exec_of_judgedLane (judge := judgePulse l) arrived tag rfl ((if_neg unheld).trans ((if_neg (by rwa [lane])).trans ?_))
    rw [lane, pulseFields_eq mode dir least most, State.hunt_work]
    dsimp only
    rw [append_queueFull (w := s.work k) (r := pulseReq d (byteAt p 2)) allows full]
    rfl
  · obtain ⟨c, mem, outside⟩ := bad
    refine exec_of_judgedLane (judge := judgeAlarmAck l) arrived tag rfl ((if_neg unheld).trans (if_neg fun known => ?_))
    have inRange := of_decide_eq_true (List.all_eq_true.mp known c mem)
    omega
  · refine exec_of_judgedLane (judge := judgeRestore l) arrived tag rfl ((if_neg unheld).trans ?_)
    rw [lane, restoreFields_eq_none bad]
    rfl

end Sys2Proof.Machine

/-! What the owners of the tables and of the device refuse by the fields of a request. -/

namespace Sys2Proof.Machine

theorem classOfByte_eq_none {n : Nat} (h : 15 < n) : classOfByte n = none := dif_neg (Nat.not_le.mpr h)

theorem CredState.ofCode_eq_none {n : Nat} (h : 2 < n) : CredState.ofCode n = none := by
  match n with
  | n + 3 => rfl

theorem Presence.ofCode_eq_none {n : Nat} (h : 2 < n) : Presence.ofCode n = none := by
  match n with
  | n + 3 => rfl

theorem Condition.ofCode_eq_none {n : Nat} (h : 5 < n) : Condition.ofCode n = none := by
  match n with
  | n + 6 => rfl

theorem Passback.ofCode_eq_none {n : Nat} (h : 2 < n) : Passback.ofCode n = none := by
  match n with
  | n + 3 => rfl

theorem Fallback.ofCode_eq_none {n : Nat} (h : 1 < n) : Fallback.ofCode n = none := by
  match n with
  | n + 2 => rfl

/-! ## CRED_PUT (R143) -/

/-- What a record that passes the tests of R143 is known to have. -/
theorem Cred.ok_bounds {c : Cred} (h : c.ok = true) :
    1 ≤ c.number ∧ 1 ≤ c.group ∧ c.group ≤ 8 ∧ (∀ n, c.uses = some n → 1 ≤ n)
      ∧ ∀ f u, c.validFrom = some f → c.validUntil = some u → f ≤ u := by
  rw [Cred.ok, Bool.and_eq_true, Bool.and_eq_true, Bool.and_eq_true] at h
  obtain ⟨⟨⟨number, group⟩, uses⟩, window⟩ := h
  obtain ⟨group, group'⟩ := of_decide_eq_true group
  refine ⟨of_decide_eq_true number, group, group', fun n some_ => ?_, fun f u from_ until_ => ?_⟩
  · rw [some_] at uses
    exact (of_decide_eq_true uses).1
  · rw [from_, until_] at window
    exact of_decide_eq_true window

theorem putRequest_eq_none {p : List Byte}
    (h : natAt p 0 8 = 0 ∨ 15 < byteAt p 8 ∨ 2 < byteAt p 9 ∨ byteAt p 10 < 1 ∨ 8 < byteAt p 10 ∨ 7 < byteAt p 11
      ∨ (4 ≤ byteAt p 11 ∧ byteAt p (12 + 4 * (byteAt p 11 % 2) + 4 * (byteAt p 11 / 2 % 2)) = 0)
      ∨ (byteAt p 11 % 4 = 3 ∧ natAt p (12 + 4 * (byteAt p 11 % 2)) 4 < natAt p 12 4)) : putRequest p = none := by
  unfold putRequest
  dsimp only
  split
  · rename_i cls state hcls hstate
    refine if_neg fun ⟨flags, sound⟩ => ?_
    obtain ⟨number, group, group', uses, window⟩ := Cred.ok_bounds sound
    have from_ : sizeIf (bitSet (byteAt p 11) 0) 4 = 4 * (byteAt p 11 % 2) := by
      rw [sizeIf_eq bitSet_zero]
      split <;> omega
    have until_ : sizeIf (bitSet (byteAt p 11) 1) 4 = 4 * (byteAt p 11 / 2 % 2) := by
      rw [sizeIf_eq bitSet_one]
      split <;> omega
    dsimp only at number group group' uses window
    rw [from_, until_] at uses
    rw [from_] at window
    rcases h with zero | cls' | state' | low | high | beyond | ⟨given, none⟩ | ⟨both, reversed⟩
    · omega
    · exact absurd (hcls.symm.trans (classOfByte_eq_none cls')) nofun
    · exact absurd (hstate.symm.trans (CredState.ofCode_eq_none state')) nofun
    · omega
    · omega
    · omega
    · have some_ := uses _ (if_pos (bitSet_two.mpr (by omega)))
      omega
    · have ordered := window _ _ (if_pos (bitSet_zero.mpr (by omega))) (if_pos (bitSet_one.mpr (by omega)))
      omega
  · rfl

/-! ## CLASS_SET, IDENT and ROUTE (R146, R182, R197) -/

theorem classOfBytes_eq_none {p : List Byte}
    (h : 4096 ≤ natAt p 1 2 ∨ 5 < byteAt p 3 ∨ 1439 < natAt p 4 2 ∨ 1439 < natAt p 6 2 ∨ 2 < byteAt p 8
      ∨ 15 < byteAt p 9 ∨ 1 < byteAt p 10) :
    classOfBytes (p.drop 1) = none := by
  have field (i w : Nat) : natAt (p.drop 1) i w = natAt p (1 + i) w := by rw [natAt, natAt, List.drop_drop]
  unfold classOfBytes
  rw [byteAt_drop, byteAt_drop, byteAt_drop, byteAt_drop, field, field, field]
  split
  · rename_i condition passback fallback h1 h2 h3
    refine if_neg fun ⟨mask, first, last, flags⟩ => ?_
    rcases h with high | beyond | beyond | beyond | beyond | beyond | beyond
    · exact absurd mask (Nat.not_lt.mpr high)
    · exact absurd (h1.symm.trans (Condition.ofCode_eq_none beyond)) nofun
    · exact absurd first (Nat.not_le.mpr beyond)
    · exact absurd last (Nat.not_le.mpr beyond)
    · exact absurd (h2.symm.trans (Passback.ofCode_eq_none beyond)) nofun
    · exact absurd flags (Nat.not_lt.mpr beyond)
    · exact absurd (h3.symm.trans (Fallback.ofCode_eq_none beyond)) nofun
  · rfl

theorem NoticeKind.ofCode_eq_none {n : Nat} (h : n < 1 ∨ 11 < n) : NoticeKind.ofCode n = none := by
  match n with
  | 0 => rfl
  | n + 12 => rfl
  | 1 | 2 | 3 | 4 | 5 | 6 | 7 | 8 | 9 | 10 | 11 => omega

theorem NoticeKind.code_of_ofCode {n : Nat} {kind : NoticeKind} (h : NoticeKind.ofCode n = some kind) : n = kind.code := by
  unfold NoticeKind.ofCode at h
  split at h <;> cases h <;> rfl

theorem Route.ofCode_eq_none {n : Nat} (h : 3 < n) : Route.ofCode n = none := by
  match n with
  | n + 4 => rfl

theorem routeEntry_known {p : List Byte} {i : Nat} {e : NoticeKind × Route} (h : routeEntry p i = some e) :
    NoticeKind.ofCode (byteAt p (1 + 2 * i)) = some e.1 ∧ Route.ofCode (byteAt p (2 + 2 * i)) = some e.2 := by
  unfold routeEntry at h
  split at h
  · rename_i kind route hkind hroute
    split at h
    · exact absurd h nofun
    · cases h
      exact ⟨hkind, hroute⟩
  · exact absurd h nofun

theorem routeEntries_eq_none {p : List Byte} (h : ∃ i, i < byteAt p 0 ∧
    (byteAt p (1 + 2 * i) < 1 ∨ 11 < byteAt p (1 + 2 * i) ∨ 3 < byteAt p (2 + 2 * i)
      ∨ ∃ j, j < i ∧ byteAt p (1 + 2 * j) = byteAt p (1 + 2 * i))) : routeEntries p = none := by
  obtain ⟨i, inside, bad⟩ := h
  unfold routeEntries
  cases entries : (List.range (byteAt p 0)).mapM (routeEntry p) with
  | none => rfl
  | some es =>
    have length : es.length = byteAt p 0 := (length_of_mapM entries).trans List.length_range
    have known (j : Nat) (h : j < es.length) : routeEntry p j = some es[j] := by
      have entry : ((List.range (byteAt p 0)).map (routeEntry p))[j]? = (es.map some)[j]? := by rw [map_eq_of_mapM entries]
      rw [List.getElem?_map, List.getElem?_map, List.getElem?_range (length ▸ h), List.getElem?_eq_getElem h] at entry
      exact Option.some.inj entry
    rw [← length] at inside
    obtain ⟨kind, route⟩ := routeEntry_known (known i inside)
    refine if_neg fun once => ?_
    rw [← List.length_map (f := Prod.fst) (as := es), eraseDups_length_eq_iff] at once
    rcases bad with low | high | beyond | ⟨j, before, same⟩
    · exact absurd (kind.symm.trans (NoticeKind.ofCode_eq_none (.inl low))) nofun
    · exact absurd (kind.symm.trans (NoticeKind.ofCode_eq_none (.inr high))) nofun
    · exact absurd (route.symm.trans (Route.ofCode_eq_none beyond)) nofun
    · have inside' : j < es.length := before.trans inside
      obtain ⟨kind', -⟩ := routeEntry_known (known j inside')
      rw [same, kind] at kind'
      have repeated : (es.map Prod.fst)[i]'(by simpa) = (es.map Prod.fst)[j]'(by simpa) := by simpa using Option.some.inj kind'
      exact absurd ((List.Nodup.getElem_inj_iff once).mp repeated) (Nat.ne_of_gt before)

theorem tableOwners_claim : Claims.TableOwnersRefuse := by
  intro l tag p s h refuses count untilAt usesAt
  have refusal (st : Status) : tableRefused h st = { state := h, status := st, body := count } := by
    rw [tableRefused, State.hunt_countBytes]
  have ident (st : Status) : identRefused h st = { state := h, status := st, body := identBytes s.ims.unit } := by
    rw [identRefused, State.hunt_ims]
  have unsaved (idle : s.saving = false) : ¬h.saving = true := by
    rw [State.hunt_saving, idle]
    exact Bool.false_ne_true
  have creds : h.cst.creds = s.cst.creds := congrArg Cst.creds (State.hunt_cst s l)
  refine ⟨fun idle reached bad => ?_, fun idle reached => ⟨fun beyond => ?_, fun code absent => ?_⟩, fun idle reached bad => ?_,
    fun reached beyond => ?_, fun reached beyond => ?_, fun reached beyond => ?_, fun reached beyond => ?_, fun reached beyond free => ?_,
    fun idle reached bad => ?_⟩
  · refine exec_of_judged reached tag ((if_neg (unsaved idle)).trans (.trans ?_ (refusal .badValue)))
    rw [putRequest_eq_none bad]
  · refine exec_of_judged reached tag ((if_neg (unsaved idle)).trans (.trans ?_ (refusal .badValue)))
    rw [Presence.ofCode_eq_none beyond]
  · obtain ⟨v, known⟩ : ∃ v, Presence.ofCode (byteAt p 8) = some v := by
      match byteAt p 8, code with
      | 0, _ => exact ⟨_, rfl⟩
      | 1, _ => exact ⟨_, rfl⟩
      | 2, _ => exact ⟨_, rfl⟩
    refine exec_of_judged reached tag ((if_neg (unsaved idle)).trans (.trans ?_ (refusal .notFound)))
    rw [known, creds]
    dsimp only
    rw [absent]
  · refine exec_of_judged reached tag ((if_neg (unsaved idle)).trans (.trans ?_ (refusal .badValue)))
    rcases bad with cls | bad
    · rw [classOfByte_eq_none cls]
    · rw [classOfBytes_eq_none bad]
      split
      · exact absurd ‹none = some _› nofun
      · rfl
  · refine exec_of_judged reached tag (.trans ?_ (refusal .badValue))
    show judgeClassGet p h = _
    rw [judgeClassGet, classOfByte_eq_none beyond]
  · exact exec_of_judged reached tag ((if_pos beyond).trans (refusal .badValue))
  · exact exec_of_judged reached tag (if_pos beyond)
  · exact exec_of_judged reached tag ((if_neg (by omega)).trans (if_neg (by omega)))
  · refine exec_of_judged reached tag ((if_neg fun both => free ?_).trans ((if_pos beyond).trans (ident .badValue)))
    exact ⟨bitSet_zero.mp both.1, (State.hunt_saving s l).symm.trans both.2⟩
  · refine exec_of_judged reached tag ((if_neg fun both => unsaved idle both.2).trans ?_)
    rw [routeEntries_eq_none bad]
    rfl

/-- Settles O47: the first test that fails answers, from the state as it stands. -/
theorem heldAndBusyRefuse : Obligations.HeldAndBusyRefuse :=
  ⟨heldLane_claim, savingRefuses_claim, laneOwners_claim, tableOwners_claim⟩

end Sys2Proof.Machine

/-! How a read or a referral ends: the append it asks for, the verdict and the notice; and the re-check of a GRANT (R137, R140, R156, R160). -/

namespace Sys2Proof.Machine

/-! ## The append of a read or a conclusion -/

theorem permitReq_eq_appendFor (s : State) (p : Port) (o : Origin) (n : Nat) (cls : Option ClassNo) (allowance : Nat) (soft : Bool) :
    permitReq s p o n cls allowance soft = s.appendFor p o n cls allowance soft := by
  cases cls <;> rfl

theorem State.appendFor_congr {s t : State} (cst : t.cst = s.cst) (p : Port) (o : Origin) (n : Nat) (cls : Option ClassNo) (allowance : Nat)
    (soft : Bool) : t.appendFor p o n cls allowance soft = s.appendFor p o n cls allowance soft := by
  unfold State.appendFor
  rw [cst]

/-- The work of an accepted append. -/
def Work.appended (e : Env) (r : AppendReq) (w : Work) : Work :=
  if (newPermit e.now w.lane r).state = .ready then evalOpen e (w.mod (LaneState.queuePermit e.now r)) else w.mod (LaneState.queuePermit e.now r)

theorem append_eq_appended {e : Env} {r : AppendReq} {w : Work} (allows : claimAllows w.lane.pq.claim r.dir)
    (room : w.lane.pq.permits.length < 4) :
    append e r w = .accepted (w.appended e r) (newPermit e.now w.lane r).number (newPermit e.now w.lane r).state :=
  append_accepted allows room

theorem Work.appended_frame (e : Env) (r : AppendReq) (w : Work) : (w.mod (LaneState.queuePermit e.now r)).barrierFrame (w.appended e r) := by
  unfold Work.appended
  split
  · exact evalOpen_frame e _
  · exact Work.barrierFrame_refl _

theorem Work.appended_creds (e : Env) (r : AppendReq) (w : Work) : (w.appended e r).creds = w.creds :=
  (w.appended_frame e r).2.2.2.2.2.2.2.2.2.2.2

theorem Work.newPermit_mem_appended (e : Env) (r : AppendReq) (w : Work) :
    newPermit e.now w.lane r ∈ (w.appended e r).lane.pq.permits := by
  obtain ⟨-, -, -, -, pq, -⟩ := w.appended_frame e r
  rw [pq]
  exact newPermit_mem_queuePermit e.now r w.lane

/-- What an accepted append on lane k leaves of the state. -/
theorem State.absorb_appended {s : State} {k : Lane} (r : AppendReq) :
    (s.absorb k ((s.work k).appended (s.env k) r)).lane k = ((s.work k).appended (s.env k) r).lane
      ∧ (∀ j, j ≠ k → (s.absorb k ((s.work k).appended (s.env k) r)).lane j = s.lane j)
      ∧ (s.absorb k ((s.work k).appended (s.env k) r)).rfu = s.rfu ∧ s.samePart (s.absorb k ((s.work k).appended (s.env k) r)) :=
  State.runLane_frame (f := fun e w => w.appended e r) ⟨rfl, Work.appended_creds ..⟩

/-! ## The verdict and the notice -/

/-- A verdict sent and a notice posted, with the outputs of the lane: what every read and every conclusion ends with (R140, R160). -/
def State.told (s : State) (p : Port) (f : ReaderFrame) (b : NoticeBody) : State :=
  State.refresh (portLane p) (State.post (laneNumber (portLane p)) b (s.sendReader p f))

theorem State.readEnds_eq (b : ReadBody) (s : State) :
    State.readEnds b s = s.told b.reader (.verdict b.verdict b.reason b.number) (.read b) := rfl

theorem State.concluded_eq (b : ConclusionBody) (s : State) :
    State.concluded b s = s.told b.reader (.verdict b.verdict b.reason b.number) (.conclusion b) := rfl

theorem State.told_port_of_ne (s : State) {p q : Port} (f : ReaderFrame) (b : NoticeBody) (other : q ≠ p) :
    (s.told p f b).port q = s.port q := by
  rw [State.told, State.port, State.refresh_ports, State.post_ports]
  exact s.modPort_port_of_ne _ other

theorem State.told_port (s : State) (p : Port) (f : ReaderFrame) (b : NoticeBody) : (s.told p f b).port p = (s.sendReader p f).port p := by
  rw [State.told, State.port, State.refresh_ports, State.post_ports, State.port]

theorem State.told_tx {s : State} {p : Port} (f : ReaderFrame) (b : NoticeBody) (room : (s.port p).tx.length < 4) :
    ((s.told p f b).port p).tx = (s.port p).tx ++ [f] := by
  rw [State.told_port, State.sendReader_port, if_pos room]

theorem State.told_lane (s : State) (p : Port) (f : ReaderFrame) (b : NoticeBody) :
    (s.told p f b).lane (portLane p) = (s.lane (portLane p)).withOutputs s.rfu.slots (portLane p) := by
  rw [State.told, State.refresh_lane, State.post_lane, State.post_rfu]
  rfl

theorem State.told_lane_of_ne (s : State) {p : Port} {j : Lane} (f : ReaderFrame) (b : NoticeBody) (other : j ≠ portLane p) :
    (s.told p f b).lane j = s.lane j := by
  rw [State.told, State.refresh_lane_of_ne _ other, State.post_lane]
  rfl

theorem State.told_rfu (s : State) (p : Port) (f : ReaderFrame) (b : NoticeBody) : (s.told p f b).rfu = s.rfu := by
  rw [State.told, State.refresh_rfu, State.post_rfu]
  rfl

theorem State.told_sameDevice (s : State) (p : Port) (f : ReaderFrame) (b : NoticeBody) : s.sameDevice (s.told p f b) :=
  ((s.modPort_sameDevice p _).trans (State.post_samePart ..).2).trans (State.refresh_samePart ..).2

/-! ## The re-check of a GRANT (R156) -/

theorem LaneState.health_ok_iff (l : LaneState) : l.lsv.health = .ok ↔ l.healthy := by
  unfold Lsv.health LaneState.healthy
  cases l.lsv.sensorMark <;> cases l.lsv.barrierMark <;> simp

theorem healthStep_unhealthy {l : LaneState} {d : Direction} (ill : ¬l.healthy) : healthStep l.lsv d = some (deny .laneFault 3) :=
  if_pos fun ok => ill (l.health_ok_iff.mp ok)

theorem healthStep_pending {l : LaneState} {d : Direction} (healthy : l.healthy) (pending : l.lsv.pending ≠ none) :
    healthStep l.lsv d = some (deny .modeChanging 3) :=
  (if_neg (not_not.mpr (l.health_ok_iff.mpr healthy))).trans (if_pos (Option.isSome_iff_ne_none.mpr pending))

theorem healthStep_policy {l : LaneState} {d : Direction} (healthy : l.healthy) (settled : l.lsv.pending = none) :
    healthStep l.lsv d = policyStep l.lsv d :=
  (if_neg (not_not.mpr (l.health_ok_iff.mpr healthy))).trans (if_neg (by rw [settled]; exact Bool.false_ne_true))

theorem policyStep_barred {v : Lsv} {d : Direction} (mode : v.mode = .service) (setting : v.policy.setting d = .barred) :
    policyStep v d = some (deny .directionBarred 3) := by
  rw [policyStep, if_pos mode, setting]

theorem policyStep_free {v : Lsv} {d : Direction} (mode : v.mode = .service) (setting : v.policy.setting d = .free) :
    policyStep v d = some { verdict := .free, reason := .freeDirection, step := 3 } := by
  rw [policyStep, if_pos mode, setting]

theorem policyStep_badged {v : Lsv} {d : Direction} (setting : v.mode = .service → v.policy.setting d = .badged) : policyStep v d = none := by
  by_cases mode : v.mode = .service
  · rw [policyStep, if_pos mode, setting mode]
  · exact if_neg mode

theorem healthStep_passes {l : LaneState} {d : Direction} (healthy : l.healthy) (settled : l.lsv.pending = none)
    (badged : l.lsv.mode = .service → l.lsv.policy.setting d = .badged) : healthStep l.lsv d = none := by
  rw [healthStep_policy healthy settled, policyStep_badged badged]

theorem claimStep_allows {claim : Option Direction} {d : Direction} (h : claimAllows claim d) : claimStep claim d = none := if_pos h

theorem claimStep_other {claim : Option Direction} {d : Direction} (h : ¬claimAllows claim d) : claimStep claim d = some (deny .laneBusy 4) :=
  if_neg h

theorem decidedModeStep_goesOn {s : State} {p : Port} {cls : Option ClassNo} (h : s.modeGoesOn p cls) : decidedModeStep s p cls = none := by
  unfold decidedModeStep
  rcases h with service | ⟨lockdown, c, rfl, pass⟩
  · rw [if_neg (by rw [service]; nofun), service]
    rfl
  · rw [if_pos lockdown]
    exact if_pos pass

theorem decidedModeStep_unlocked {s : State} {p : Port} {cls : Option ClassNo} (h : (s.lane (portLane p)).lsv.mode ≠ .lockdown) :
    decidedModeStep s p cls = modeStep (s.lane (portLane p)).lsv.mode := if_neg h

theorem decidedModeStep_lockdown {s : State} {p : Port} {cls : Option ClassNo} (mode : (s.lane (portLane p)).lsv.mode = .lockdown)
    (unmarked : ∀ c, cls = some c → (s.cst.cls c).lockdownPass = false) : decidedModeStep s p cls = some (deny .lockdown 2) := by
  refine (if_pos mode).trans ?_
  cases cls with
  | none => rfl
  | some c => exact if_neg (by rw [unmarked c rfl]; exact Bool.false_ne_true)

/-- The steps of the re-check behind its mode step. -/
theorem recheck_goesOn {s : State} {p : Port} {n : Nat} {cls : Option ClassNo} (h : s.modeGoesOn p cls) :
    recheck s p n cls =
      (healthStep (s.lane (portLane p)).lsv (portDir p)).or
        ((claimStep (s.lane (portLane p)).pq.claim (portDir p)).or (if s.held n then some (deny .duplicate 6) else none)) := by
  rw [recheck, decidedModeStep_goesOn h]
  rfl

theorem recheck_lane {s : State} {p : Port} {n : Nat} {cls : Option ClassNo} (h : s.laneGoesOn p cls) :
    recheck s p n cls =
      (claimStep (s.lane (portLane p)).pq.claim (portDir p)).or (if s.held n then some (deny .duplicate 6) else none) := by
  obtain ⟨mode, healthy, settled, badged⟩ := h
  rw [recheck_goesOn mode, healthStep_passes healthy settled badged]
  rfl

theorem recheck_claim {s : State} {p : Port} {n : Nat} {cls : Option ClassNo} (h : s.laneGoesOn p cls)
    (allows : claimAllows (s.lane (portLane p)).pq.claim (portDir p)) :
    recheck s p n cls = if s.held n then some (deny .duplicate 6) else none := by
  rw [recheck_lane h, claimStep_allows allows]
  rfl

theorem appendStep_full {s : State} {p : Port} {q : AppendReq} (r : Reason) (allows : claimAllows (s.lane (portLane p)).pq.claim q.dir)
    (full : 4 ≤ (s.lane (portLane p)).pq.permits.length) : appendStep r q p s = (s, deny .queueFull 8, none) := by
  rw [appendStep, append_queueFull (w := s.work (portLane p)) allows full]

/-- A GRANT whose re-check fails, or which finds no room, ends with nothing appended. -/
theorem concludeGrant_ends {s : State} {x : Slot} {cls : Option ClassNo} {v : Verdict} {r : Reason} {step : Nat}
    (h : s.RecheckEnds x.reader x.number cls v r step) (granted : Reason) (allowance : Nat) :
    concludeGrant granted x cls allowance s = (s, { verdict := v, reason := r, step := step }, none) := by
  have ended {e : Ending} (check : recheck s x.reader x.number cls = some e) : concludeGrant granted x cls allowance s = (s, e, none) := by
    rw [concludeGrant, check]
  cases h with
  | closed mode =>
    refine ended ?_
    rw [recheck, decidedModeStep_unlocked (by rcases mode with m | m <;> rw [m] <;> nofun)]
    rcases mode with m | m <;> rw [m] <;> rfl
  | egress mode =>
    refine ended ?_
    rw [recheck, decidedModeStep_unlocked (by rw [mode]; nofun), mode]
    rfl
  | lockdown mode unmarked =>
    refine ended ?_
    rw [recheck, decidedModeStep_lockdown mode unmarked]
    rfl
  | health mode ill => exact ended (by rw [recheck_goesOn mode, healthStep_unhealthy ill]; rfl)
  | pending mode healthy pending => exact ended (by rw [recheck_goesOn mode, healthStep_pending healthy pending]; rfl)
  | barred healthy settled mode setting =>
    refine ended ?_
    rw [recheck_goesOn (.inl mode), healthStep_policy healthy settled, policyStep_barred mode setting]
    rfl
  | free healthy settled mode setting =>
    refine ended ?_
    rw [recheck_goesOn (.inl mode), healthStep_policy healthy settled, policyStep_free mode setting]
    rfl
  | claim goes other => exact ended (by rw [recheck_lane goes, claimStep_other other]; rfl)
  | duplicate goes allows held => exact ended (by rw [recheck_claim goes allows, if_pos held]; rfl)
  | room goes allows free full =>
    rw [concludeGrant, recheck_claim goes allows, free]
    rw [if_neg Bool.false_ne_true]
    dsimp only
    exact appendStep_full (q := permitReq s x.reader .referred x.number cls allowance false) granted allows full

theorem grantEnding_eq (r : Reason) (st : PermitState) :
    grantEnding r st = { verdict := if st = .ready then .grant else .wait, reason := if st = .ready then r else .escort, step := 9 } := by
  cases st <;> rfl

/-- Steps 8 and 9 with room for the permit. -/
theorem appendStep_accepted {s : State} {p : Port} {q : AppendReq} (r : Reason) (allows : claimAllows (s.lane (portLane p)).pq.claim q.dir)
    (room : (s.lane (portLane p)).pq.permits.length < 4) :
    appendStep r q p s =
      (s.absorb (portLane p) ((s.work (portLane p)).appended (s.env (portLane p)) q),
        grantEnding r (newPermit s.tmb.ms (s.lane (portLane p)) q).state,
        some { number := (newPermit s.tmb.ms (s.lane (portLane p)) q).number, state := (newPermit s.tmb.ms (s.lane (portLane p)) q).state
               allowance := q.allowance, soft := q.soft }) := by
  rw [appendStep, append_eq_appended allows room]
  rfl

/-- A GRANT whose re-check passes asks for its append, which is accepted. -/
theorem concludeGrant_passes {s : State} {x : Slot} {cls : Option ClassNo} (h : s.recheckPasses x.reader x.number cls) (granted : Reason)
    (allowance : Nat) :
    concludeGrant granted x cls allowance s =
      appendStep granted (s.appendFor x.reader .referred x.number cls allowance false) x.reader s := by
  obtain ⟨goes, allows, free, -⟩ := h
  rw [concludeGrant, recheck_claim goes allows, free, if_neg Bool.false_ne_true, permitReq_eq_appendFor]

/-- The end of a conclusion, indicators included. -/
theorem finishConclusion_refresh (x : Slot) (cls : Option ClassNo) (by_ : Option Link) (t : State) (e : Ending) (a : Option AppendInfo) :
    (finishConclusion x cls by_ (t, e, a)).refresh (portLane x.reader)
      = State.concluded (conclusionOf x cls by_ e.verdict e.reason a e.step) t := rfl

end Sys2Proof.Machine

/-! Referrals concluded: by their deadline and by DECIDE (R154 to R157, R160). -/

namespace Sys2Proof.Machine

/-! ## What an accepted append and its verdict leave -/

/-- What a read or a conclusion with an accepted append leaves of the state (R137, R140, R156, R160). -/
structure State.appends (s t : State) (p : Port) (r : AppendReq) (f : ReaderFrame) : Prop where
  device : s.sameDevice t
  rfu : t.rfu = s.rfu
  lanes : ∀ j, j ≠ portLane p → t.lane j = s.lane j
  ports : ∀ q, q ≠ p → t.port q = s.port q
  permit : newPermit s.tmb.ms (s.lane (portLane p)) r ∈ (t.lane (portLane p)).pq.permits
  ot : (t.lane (portLane p)).ot = (s.lane (portLane p)).ot
  reported : (t.lane (portLane p)).reported = (s.lane (portLane p)).reported
  bsu : (t.lane (portLane p)).bsu = (s.lane (portLane p)).bsu
  port : ∀ u : State, u.ports = s.ports → (t.port p) = (u.sendReader p f).port p
  tx : (s.port p).tx.length < 4 → (t.port p).tx = (s.port p).tx ++ [f]

theorem State.told_appends (s : State) (p : Port) (r : AppendReq) (f : ReaderFrame) (b : NoticeBody) :
    s.appends ((s.absorb (portLane p) ((s.work (portLane p)).appended (s.env (portLane p)) r)).told p f b) p r f := by
  obtain ⟨lane, others, slots, ports, device⟩ := State.absorb_appended (s := s) (k := portLane p) r
  have permit := Work.newPermit_mem_appended (s.env (portLane p)) r (s.work (portLane p))
  obtain ⟨-, -, bsu, ot, -, -, -, -, -, -, reported, -⟩ := Work.appended_frame (s.env (portLane p)) r (s.work (portLane p))
  generalize s.absorb (portLane p) ((s.work (portLane p)).appended (s.env (portLane p)) r) = u at *
  generalize (s.work (portLane p)).appended (s.env (portLane p)) r = w at *
  have port (q : Port) : u.port q = s.port q := by rw [State.port, ports, State.port]
  have told : (u.told p f b).lane (portLane p) = w.lane.withOutputs u.rfu.slots (portLane p) := by rw [State.told_lane, lane]
  refine ⟨device.trans (u.told_sameDevice p f b), (u.told_rfu p f b).trans slots,
    fun j other => (u.told_lane_of_ne f b other).trans (others j other), fun q other => (u.told_port_of_ne f b other).trans (port q),
    ?_, ?_, ?_, ?_, fun v same => ?_, fun room => ?_⟩
  · rw [told]
    exact permit
  · rw [told]
    exact ot
  · rw [told]
    exact reported
  · rw [told]
    exact bsu
  · rw [State.told_port, State.sendReader_port, State.sendReader_port, port, State.port, State.port, same]
  · rw [State.told_tx f b (by rwa [port]), port]

/-! ## By the deadline (R157) -/

theorem State.slotFreed_eq (s : State) (tag : Nat) : s.freeSlot tag = s.slotFreed tag := rfl

theorem exec_referralDeadline (tag : Nat) (s : State) : exec (.referralDeadline tag) s = .next (s.referralDue tag) := rfl

theorem State.referralDue_of_due {s : State} {x : Slot} (occupied : s.slot x.tag = some x) (late : x.deadline ≤ s.tmb.ms) :
    s.referralDue x.tag = (settleByDeadline x s).refresh (portLane x.reader) := by
  rw [State.referralDue, occupied]
  exact if_pos (decide_eq_true late)

theorem settleByDeadline_deny {s : State} {x : Slot} (fallback : fallbackOf s x.reader x.cls = .deny) :
    (settleByDeadline x s).refresh (portLane x.reader)
      = State.concluded (conclusionOf x x.cls none .deny .referralTimeout none 5) (s.slotFreed x.tag) := by
  rw [settleByDeadline, fallback]
  rfl

theorem settleByDeadline_grant {s : State} {x : Slot} (fallback : fallbackOf s x.reader x.cls = .grant) :
    settleByDeadline x s
      = finishConclusion x x.cls none (concludeGrant .fallback x x.cls (deadlineAllowance s x.number) (s.slotFreed x.tag)) := by
  rw [settleByDeadline, fallback]
  rfl

/-- The permit of a GRANT concluded for a slot, as the lane and the tables stand. -/
def State.grantPermit (s : State) (x : Slot) (cls : Option ClassNo) (allowance : Nat) : Permit :=
  newPermit s.tmb.ms (s.lane (portLane x.reader)) (s.appendFor x.reader .referred x.number cls allowance false)

/-- The state after the append of a GRANT concluded for a slot. -/
def State.granted (s : State) (x : Slot) (cls : Option ClassNo) (allowance : Nat) : State :=
  s.absorb (portLane x.reader)
    ((s.work (portLane x.reader)).appended (s.env (portLane x.reader)) (s.appendFor x.reader .referred x.number cls allowance false))

/-- The READ notice of a GRANT concluded with a permit. -/
def State.grantNotice (s : State) (x : Slot) (cls : Option ClassNo) (by_ : Option Link) (reason : Reason) (allowance : Nat) :
    ConclusionBody :=
  conclusionOf x cls by_ (if (s.grantPermit x cls allowance).state = .ready then .grant else .wait)
    (if (s.grantPermit x cls allowance).state = .ready then reason else .escort)
    (some { number := (s.grantPermit x cls allowance).number, state := (s.grantPermit x cls allowance).state, allowance := allowance
            soft := false }) 9

theorem concludeGrant_granted {s : State} {x : Slot} {cls : Option ClassNo} (h : s.recheckPasses x.reader x.number cls) (reason : Reason)
    (allowance : Nat) :
    concludeGrant reason x cls allowance s =
      (s.granted x cls allowance, grantEnding reason (s.grantPermit x cls allowance).state,
        some { number := (s.grantPermit x cls allowance).number, state := (s.grantPermit x cls allowance).state, allowance := allowance
               soft := false }) := by
  rw [concludeGrant_passes h, appendStep_accepted (q := s.appendFor x.reader .referred x.number cls allowance false) reason h.2.1 h.2.2.2]
  rfl

/-- A GRANT concluded with a permit, its verdict sent and its notice posted. -/
theorem finishConclusion_granted {s : State} {x : Slot} {cls : Option ClassNo} (h : s.recheckPasses x.reader x.number cls) (by_ : Option Link)
    (reason : Reason) (allowance : Nat) :
    (finishConclusion x cls by_ (concludeGrant reason x cls allowance s)).refresh (portLane x.reader)
      = State.concluded (s.grantNotice x cls by_ reason allowance) (s.granted x cls allowance) := by
  rw [concludeGrant_granted h, finishConclusion_refresh, grantEnding_eq]
  rfl

theorem append_granted {s : State} {x : Slot} {cls : Option ClassNo} (h : s.recheckPasses x.reader x.number cls) (allowance : Nat) :
    append (s.env (portLane x.reader)) (s.appendFor x.reader .referred x.number cls allowance false) (s.work (portLane x.reader))
      = .accepted
          ((s.work (portLane x.reader)).appended (s.env (portLane x.reader)) (s.appendFor x.reader .referred x.number cls allowance false))
          (s.grantPermit x cls allowance).number (s.grantPermit x cls allowance).state :=
  append_eq_appended (w := s.work (portLane x.reader)) h.2.1 h.2.2.2

theorem State.concluded_granted (s : State) (x : Slot) (cls : Option ClassNo) (by_ : Option Link) (reason : Reason) (allowance : Nat) :
    s.appends (State.concluded (s.grantNotice x cls by_ reason allowance) (s.granted x cls allowance)) x.reader
      (s.appendFor x.reader .referred x.number cls allowance false)
      (.verdict (if (s.grantPermit x cls allowance).state = .ready then .grant else .wait)
        (if (s.grantPermit x cls allowance).state = .ready then reason else .escort) x.number) :=
  s.told_appends x.reader _ _ _

/-- A lane in SERVICE that passes the tests of the re-check. -/
theorem State.recheckPasses_of_service {s : State} {p : Port} {n : Nat} {cls : Option ClassNo} (mode : (s.lane (portLane p)).lsv.mode = .service)
    (badged : (s.lane (portLane p)).lsv.policy.setting (portDir p) = .badged) (sensor : (s.lane (portLane p)).lsv.sensorMark = false)
    (barrier : (s.lane (portLane p)).lsv.barrierMark = false) (settled : (s.lane (portLane p)).lsv.pending = none)
    (claim : claimAllows (s.lane (portLane p)).pq.claim (portDir p)) (free : s.held n = false)
    (room : (s.lane (portLane p)).pq.permits.length < 4) : s.recheckPasses p n cls :=
  ⟨⟨.inl mode, ⟨sensor, barrier⟩, settled, fun _ => badged⟩, claim, free, room⟩

theorem deadlineRechecks_claim : Claims.DeadlineRechecks := by
  intro s x occupied late fallback freed allowance
  have fallback' : fallbackOf s x.reader x.cls = .grant := by
    rw [← fallback]
    unfold fallbackOf
    cases x.cls <;> rfl
  have amount : deadlineAllowance s x.number = allowance := by
    show _ = match findCred x.number s.cst.creds with | some c => c.group | none => 1
    rw [deadlineAllowance]
    cases findCred x.number s.cst.creds <;> rfl
  rw [exec_referralDeadline, State.referralDue_of_due occupied late, settleByDeadline_grant fallback', amount]
  refine ⟨fun v r step ends => ?_, fun passes => ?_⟩
  · rw [concludeGrant_ends ends]
    rfl
  · exact ⟨_, _, _, append_granted passes allowance, congrArg Host.Outcome.next (finishConclusion_granted passes none .fallback allowance)⟩

theorem referralDeadlineSettles_claim : Claims.ReferralDeadlineSettles := by
  intro s x occupied late k l fallback freed
  have fallback' : fallbackOf s x.reader x.cls = fallback := by
    show _ = match x.cls with | some c => (s.cst.cls c).fallback | none => l.timing.unknownFallback
    unfold fallbackOf
    cases x.cls <;> rfl
  refine ⟨fun denies => ?_, fun grants mode badged sensor barrier settled claim free room => ?_⟩
  · rw [exec_referralDeadline, State.referralDue_of_due occupied late, settleByDeadline_deny (fallback'.trans denies)]
    rfl
  · have passes : (s.slotFreed x.tag).recheckPasses x.reader x.number x.cls :=
      State.recheckPasses_of_service mode badged sensor barrier settled claim free room
    have ran : exec (.referralDeadline x.tag) s = .next (State.concluded
        ((s.slotFreed x.tag).grantNotice x x.cls none .fallback (deadlineAllowance s x.number))
        ((s.slotFreed x.tag).granted x x.cls (deadlineAllowance s x.number))) := by
      rw [exec_referralDeadline, State.referralDue_of_due occupied late, settleByDeadline_grant (fallback'.trans grants),
        finishConclusion_granted passes]
    obtain ⟨device, slots, lanes, ports, permit, -, -, -, -, tx⟩ :=
      (s.slotFreed x.tag).concluded_granted x x.cls none .fallback (deadlineAllowance s x.number)
    refine ⟨_, ran, device, slots, lanes, ports, _, permit, rfl, rfl, rfl, rfl, rfl, rfl, rfl, rfl, ?_, tx⟩
    show deadlineAllowance s x.number = _
    rw [deadlineAllowance]
    cases findCred x.number s.cst.creds <;> rfl

theorem earlyDeadline_claim : Claims.EarlyDeadlineChangesNothing := by
  intro s tag early
  rw [exec_referralDeadline, State.referralDue]
  cases occupied : s.slot tag with
  | none => rfl
  | some x => exact congrArg Host.Outcome.next (if_neg fun late => Nat.not_le.mpr (early x occupied) (of_decide_eq_true late))

/-- Settles O30: the slot freed, the fallback denies or the re-check decides. -/
theorem referralDeadlineSettles : Obligations.ReferralDeadlineSettles :=
  ⟨referralDeadlineSettles_claim, deadlineRechecks_claim, earlyDeadline_claim⟩

end Sys2Proof.Machine

/-! DECIDE: the decision it carries, and the slot it settles (R154 to R156). -/

namespace Sys2Proof.Machine

/-! ## The decision of a DECIDE (R154) -/

/-- The class that the class field of a DECIDE names. -/
def carriedClass (p : List Byte) : Option ClassNo := if byteAt p 3 = 1 then classOfByte (byteAt p 4) else none

/-- The fields of a GRANT that item 1 of R154 does not refuse. -/
def decideGrants (p : List Byte) : Prop :=
  byteAt p 1 = 1 ∧ 1 ≤ byteAt p 2 ∧ byteAt p 2 ≤ 8 ∧ (byteAt p 3 = 0 ∨ (byteAt p 3 = 1 ∧ byteAt p 4 ≤ 15))

theorem classOfByte_of_le {n : Nat} (h : n ≤ 15) : classOfByte n = some ⟨n, Nat.lt_succ_of_le h⟩ := dif_pos h

theorem Verdict.ofCode_eq_none {n : Nat} (h : n < 1 ∨ 4 < n) : Verdict.ofCode n = none := by
  match n with
  | 0 => rfl
  | n + 5 => rfl

theorem decidedClass_of_absent {p : List Byte} (absent : byteAt p 3 = 0) : decidedClass p = some (carriedClass p) := by
  rw [decidedClass, carriedClass, absent]
  rfl

theorem decidedClass_of_present {p : List Byte} (present : byteAt p 3 = 1) :
    decidedClass p = (classOfByte (byteAt p 4)).map some := by
  rw [decidedClass, present]
  rfl

theorem decision_deny {p : List Byte} (flag : byteAt p 3 ≤ 1) (verdict : byteAt p 1 = 2) : decision p = some .deny := by
  refine (if_neg (Nat.not_lt.mpr flag)).trans ?_
  rw [verdict]
  rfl

theorem decision_grant {p : List Byte} (grants : decideGrants p) : decision p = some (.grant (byteAt p 2) (carriedClass p)) := by
  obtain ⟨verdict, least, most, cls⟩ := grants
  have carried : decidedClass p = some (carriedClass p) := by
    rcases cls with absent | ⟨present, known⟩
    · exact decidedClass_of_absent absent
    · rw [decidedClass_of_present present, carriedClass, if_pos present, classOfByte_of_le known]
      rfl
  refine (if_neg (by omega)).trans ?_
  rw [verdict, carried]
  exact if_pos ⟨least, most⟩

theorem decision_refused {p : List Byte}
    (bad : 1 < byteAt p 3 ∨ byteAt p 1 < 1 ∨ 2 < byteAt p 1
      ∨ (byteAt p 1 = 1 ∧ (byteAt p 2 < 1 ∨ 8 < byteAt p 2 ∨ (byteAt p 3 = 1 ∧ 15 < byteAt p 4)))) : decision p = none := by
  by_cases flag : 1 < byteAt p 3
  · exact if_pos flag
  refine (if_neg flag).trans ?_
  rcases bad with high | low | unknown | ⟨verdict, allowance⟩
  · exact absurd high flag
  · rw [Verdict.ofCode_eq_none (.inl low)]
  · rcases (by omega : byteAt p 1 = 3 ∨ byteAt p 1 = 4 ∨ 4 < byteAt p 1) with wait | free | high
    · rw [wait]; rfl
    · rw [free]; rfl
    · rw [Verdict.ofCode_eq_none (.inr high)]
  · rw [verdict]
    rcases carried : decidedClass p with _ | cls
    · rfl
    · rcases allowance with none_ | many | ⟨present, high⟩
      · exact if_neg (by omega)
      · exact if_neg (by omega)
      · rw [decidedClass_of_present present, classOfByte_eq_none high] at carried
        exact absurd carried nofun

/-- The class that a GRANT is re-checked with: the one it carries, else the slot's. -/
theorem carriedClass_or {p : List Byte} (known : byteAt p 3 = 1 → byteAt p 4 ≤ 15) (cls : Option ClassNo) :
    (carriedClass p).or cls = if byteAt p 3 = 1 then classOfByte (byteAt p 4) else cls := by
  rw [carriedClass]
  split
  next present => rw [classOfByte_of_le (known present)]; rfl
  next => rfl

theorem decideGrants.known {p : List Byte} (grants : decideGrants p) (present : byteAt p 3 = 1) : byteAt p 4 ≤ 15 := by
  obtain ⟨-, -, -, absent | ⟨-, known⟩⟩ := grants
  · omega
  · exact known

/-! ## The slot a DECIDE settles -/

theorem State.hunt_slot (s : State) (l : Link) (tag : Nat) : (s.hunt l).slot tag = s.slot tag := by rw [State.slot, State.hunt_rfu, State.slot]

theorem judgeDecide_badValue {p : List Byte} (l : Link) (s : State) (bad : decision p = none) :
    judgeDecide l p s = { state := s, status := .badValue, body := b1 (byteAt p 0) } := by
  rw [judgeDecide, bad]
  rfl

theorem judgeDecide_late {p : List Byte} {s : State} {d : Decision} (l : Link) (decided : decision p = some d)
    (free : s.slot (byteAt p 0) = none) : judgeDecide l p s = { state := s, status := .late, body := b1 (byteAt p 0) } := by
  rw [judgeDecide, decided, free]
  rfl

theorem judgeDecide_settles {p : List Byte} {s : State} {d : Decision} {x : Slot} (l : Link) (decided : decision p = some d)
    (occupied : s.slot (byteAt p 0) = some x) : judgeDecide l p s = settleByDecide l x d s := by
  rw [judgeDecide, decided, occupied]

theorem settleByDecide_deny (l : Link) (x : Slot) (s : State) :
    settleByDecide l x .deny s =
      { state := State.concluded (conclusionOf x x.cls (some l) .deny .referralDenied none 5) (s.slotFreed x.tag), status := .ok
        body := fld 1 x.tag ++ [2, 25, 5, 0] } := by
  have bytes : decideBytes x.tag (deny .referralDenied 5) none = fld 1 x.tag ++ [2, 25, 5, 0] := by
    show ((b1 x.tag ++ [2]) ++ [25]) ++ [5] ++ [0] = _
    rw [List.append_assoc, List.append_assoc, List.append_assoc]
    rfl
  exact congrArg (fun body => Judged.mk _ Status.ok body) bytes

theorem settleByDecide_ends {l : Link} {x : Slot} {cls : Option ClassNo} {s : State} {v : Verdict} {r : Reason} {step : Nat}
    (h : (s.slotFreed x.tag).RecheckEnds x.reader x.number (cls.or x.cls) v r step) (allowance : Nat) :
    settleByDecide l x (.grant allowance cls) s =
      { state := State.concluded (conclusionOf x (cls.or x.cls) (some l) v r none step) (s.slotFreed x.tag), status := .ok
        body := fld 1 x.tag ++ fld 1 v.code ++ fld 1 r.code ++ fld 1 step ++ [0] } := by
  rw [settleByDecide, State.slotFreed_eq, concludeGrant_ends h]
  rfl

theorem settleByDecide_granted {l : Link} {x : Slot} {cls : Option ClassNo} {s : State}
    (h : (s.slotFreed x.tag).recheckPasses x.reader x.number (cls.or x.cls)) (allowance : Nat) :
    settleByDecide l x (.grant allowance cls) s =
      { state :=
          State.concluded ((s.slotFreed x.tag).grantNotice x (cls.or x.cls) (some l) .referred allowance)
            ((s.slotFreed x.tag).granted x (cls.or x.cls) allowance)
        status := .ok
        body :=
          fld 1 x.tag
            ++ fld 1 (if ((s.slotFreed x.tag).grantPermit x (cls.or x.cls) allowance).state = .ready then Verdict.grant else .wait).code
            ++ fld 1 (if ((s.slotFreed x.tag).grantPermit x (cls.or x.cls) allowance).state = .ready then Reason.referred else .escort).code
            ++ fld 1 9
            ++ ([1] ++ fld 1 ((s.slotFreed x.tag).grantPermit x (cls.or x.cls) allowance).number
              ++ fld 1 ((s.slotFreed x.tag).grantPermit x (cls.or x.cls) allowance).state.code) } := by
  rw [← finishConclusion_granted h, settleByDecide, State.slotFreed_eq, concludeGrant_granted h, grantEnding_eq]
  rfl

section
variable {s : State} {l : Link} {p : List Byte}

theorem exec_decide_late (reached : s.reaches l .decideReq p) (tag : Byte) {d : Decision} (decided : decision p = some d)
    (free : s.slot (byteAt p 0) = none) :
    exec (.decideReq l tag p) s = .next ((s.hunt l).reply l (replyOf .decideReq tag .late (fld 1 (byteAt p 0)))) :=
  exec_of_judged reached tag (judgeDecide_late l decided (by rw [State.hunt_slot, free]))

theorem exec_decide_settles {x : Slot} {t : State} {body : List Byte} (reached : s.reaches l .decideReq p) (tag : Byte) {d : Decision}
    (decided : decision p = some d) (occupied : s.slot (byteAt p 0) = some x)
    (settled : settleByDecide l x d (s.hunt l) = { state := t, status := .ok, body := body }) :
    exec (.decideReq l tag p) s = .next (t.reply l (replyOf .decideReq tag .ok body)) :=
  exec_of_judged reached tag ((judgeDecide_settles l decided (by rw [State.hunt_slot, occupied])).trans settled)

theorem decideRechecks_claim : Claims.DecideRechecks := by
  intro l tag p s reached h grants
  refine ⟨fun bad => exec_of_judged reached tag (judgeDecide_badValue l h (decision_refused bad)), fun fine free => ?_, ?_⟩
  · rcases fine with granted | ⟨denied, flag⟩
    · exact exec_decide_late reached tag (decision_grant granted) free
    · exact exec_decide_late reached tag (decision_deny flag denied) free
  · intro x granted occupied decided freed answers
    have class_ : (carriedClass p).or x.cls = decided := carriedClass_or (decideGrants.known granted) x.cls
    refine ⟨fun v r step ends => ?_, fun passes => ?_⟩
    · refine exec_decide_settles reached tag (decision_grant granted) occupied ((settleByDecide_ends (v := v) (r := r) (step := step) ?_ _).trans ?_)
      · rwa [class_]
      · rw [class_]
    · have passes' : (h.slotFreed x.tag).recheckPasses x.reader x.number ((carriedClass p).or x.cls) := by rwa [class_]
      have ran := exec_decide_settles reached tag (decision_grant granted) occupied (settleByDecide_granted passes' _)
      rw [class_] at ran
      have same : s.appendFor x.reader .referred x.number decided (byteAt p 2) false
          = freed.appendFor x.reader .referred x.number decided (byteAt p 2) false :=
        State.appendFor_congr (State.hunt_cst s l).symm ..
      exact ⟨_, _, _, by rw [same]; exact append_granted passes _, ran⟩

theorem decideSettles_claim : Claims.DecideSettlesSlot := by
  intro l tag p s reached flag h
  refine ⟨fun free denied => exec_decide_late reached tag (decision_deny flag denied) free, ?_⟩
  intro x occupied k old decided freed
  have freed_eq : freed = h.slotFreed x.tag := by
    show { h with rfu := { s.rfu with slots := s.rfu.slots.filter fun y => decide (y.tag ≠ x.tag) } } = _
    rw [State.slotFreed, State.hunt_rfu]
  refine ⟨fun denied => ?_, fun granted least most class_ mode badged sensor barrier settled claim free room => ?_⟩
  · rw [freed_eq]
    exact exec_decide_settles reached tag (decision_deny flag denied) occupied (settleByDecide_deny l x h)
  · have grants : decideGrants p := ⟨granted, least, most, by omega⟩
    have sameClass : (carriedClass p).or x.cls = decided := carriedClass_or grants.known x.cls
    have lane (j : Lane) : (h.slotFreed x.tag).lane j = s.lane j := State.hunt_lane s l j
    have port (q : Port) : (h.slotFreed x.tag).port q = s.port q := by
      show (s.hunt l).port q = s.port q
      rw [State.port, State.hunt_ports, State.port]
    have port_reply (t : State) (r : Reply) (q : Port) : (t.reply l r).port q = t.port q := by rw [State.port, State.reply_ports, State.port]
    rw [freed_eq] at free
    have passes : (h.slotFreed x.tag).recheckPasses x.reader x.number ((carriedClass p).or x.cls) :=
      State.recheckPasses_of_service (by rw [lane]; exact mode) (by rw [lane]; exact badged) (by rw [lane]; exact sensor)
        (by rw [lane]; exact barrier) (by rw [lane]; exact settled) (by rw [lane]; exact claim) free (by rw [lane]; exact room)
    have ran := exec_decide_settles reached tag (decision_grant grants) occupied (settleByDecide_granted passes _)
    rw [sameClass] at ran
    obtain ⟨⟨-, -, routing, cst, tmb, ims, -⟩, rfu, lanes, ports, permit, -, -, -, -, tx⟩ :=
      (h.slotFreed x.tag).concluded_granted x decided (some l) .referred (byteAt p 2)
    refine ⟨_, ran, ?_, fun j other => ?_, ?_, ?_, ?_, ?_, fun q other => ?_,
      (h.slotFreed x.tag).grantPermit x decided (byteAt p 2), ?_, ?_, rfl, rfl, rfl, rfl, rfl, rfl, rfl, rfl, fun empty => ?_⟩
    · rw [State.reply_rfu, rfu, freed_eq]
    · rw [State.reply_lane, lanes j other, lane]
    · rw [State.reply_cst, cst]
      exact State.hunt_cst s l
    · rw [State.reply_tmb, tmb]
      exact State.hunt_tmb s l
    · rw [State.reply_ims, ims]
      exact State.hunt_ims s l
    · rw [State.reply_routing, routing]
      exact State.hunt_routing s l
    · rw [port_reply, ports q other, port]
    · rw [State.reply_lane]
      exact permit
    · rw [State.grantPermit, lane]
      rfl
    · rw [port_reply, tx (by rwa [port]), port]

/-- Settles O48: the decision of the payload, then the slot freed and DENY sent, or the re-check and the append. -/
theorem decideSettlesSlot : Obligations.DecideSettlesSlot := ⟨decideSettles_claim, decideRechecks_claim⟩

end

end Sys2Proof.Machine

/-! A CARD frame heard, and steps 1 to 4 of its read (R132, R133, R164). -/

namespace Sys2Proof.Machine

/-! ## A CARD frame heard (R164, R167) -/

theorem State.cardHeard_eq (s : State) (p : Port) : (s.goodFrame p).cardState p = s.cardHeard p := by
  have good := s.goodFrame_state p
  unfold State.cardState State.cardHeard
  rw [good]
  cases state : (s.port p).state with
  | absent =>
    show ((s.goodFrame p).setPort p .present).postReader p .present = _
    rw [if_pos rfl, State.postReader, State.setPort, State.modPort_port, State.goodFrame, State.modPort_modPort]
    exact congrArg (fun t => State.post _ _ t) (State.modPort_congr (by rw [state]; rfl))
  | present =>
    refine (State.modPort_congr ?_).trans (if_neg nofun).symm
    simp [ReaderPort.idle, state]
  | tampered =>
    refine (State.modPort_congr ?_).trans (if_neg nofun).symm
    simp [ReaderPort.idle, state]

/-- Recording the good frame leaves all but the port and the notice queues. -/
theorem State.cardHeard_same (s : State) (p : Port) :
    (s.cardHeard p).lanes = s.lanes ∧ (s.cardHeard p).cst = s.cst ∧ (s.cardHeard p).rfu = s.rfu ∧ (s.cardHeard p).tmb = s.tmb
      ∧ (s.cardHeard p).deskKey = s.deskKey := by
  unfold State.cardHeard
  split <;> simp

theorem State.cardHeard_lane (s : State) (p : Port) (k : Lane) : (s.cardHeard p).lane k = s.lane k := by
  obtain ⟨lanes, -⟩ := s.cardHeard_same p
  rw [State.lane, lanes, State.lane]

theorem State.cardHeard_cst (s : State) (p : Port) : (s.cardHeard p).cst = s.cst := (s.cardHeard_same p).2.1

theorem State.cardHeard_rfu (s : State) (p : Port) : (s.cardHeard p).rfu = s.rfu := (s.cardHeard_same p).2.2.1

theorem State.cardHeard_tmb (s : State) (p : Port) : (s.cardHeard p).tmb = s.tmb := (s.cardHeard_same p).2.2.2.1

theorem State.cardHeard_deskKey (s : State) (p : Port) : (s.cardHeard p).deskKey = s.deskKey := (s.cardHeard_same p).2.2.2.2

theorem State.cardHeard_clock (s : State) (p : Port) : (s.cardHeard p).clock = s.clock := by
  rw [State.clock, s.cardHeard_tmb p, State.clock]

theorem State.cardHeard_held (s : State) (p : Port) (n : Nat) : (s.cardHeard p).held n = s.held n := by
  rw [State.held, s.cardHeard_rfu p, State.held]
  simp only [s.cardHeard_lane p]

theorem State.cardHeard_port_of_ne (s : State) {p q : Port} (other : q ≠ p) : (s.cardHeard p).port q = s.port q := by
  unfold State.cardHeard
  split
  · exact (State.post_port ..).trans (s.modPort_port_of_ne _ other)
  · exact s.modPort_port_of_ne _ other

theorem State.cardHeard_port (s : State) (p : Port) :
    (s.cardHeard p).port p =
      { s.port p with
        bad := 0, lastGood := some s.tmb.ms, rx := none, state := if (s.port p).state = .absent then .present else (s.port p).state } := by
  have ports : (s.cardHeard p).ports = (s.modPort p fun r =>
      { r with bad := 0, lastGood := some s.tmb.ms, rx := none, state := if r.state = .absent then .present else r.state }).ports := by
    unfold State.cardHeard
    split
    · exact State.post_ports ..
    · rfl
  rw [State.port, ports]
  exact s.modPort_port p _

theorem State.cardHeard_tampered (s : State) (p : Port) : ((s.cardHeard p).port p).state = .tampered ↔ (s.port p).state = .tampered := by
  rw [s.cardHeard_port p]
  cases state : (s.port p).state <;> simp

theorem State.cardHeard_of_present {s : State} {p : Port} (present : (s.port p).state = .present) :
    s.cardHeard p
      = s.modPort p fun r =>
          { r with bad := 0, lastGood := some s.tmb.ms, rx := none, state := if r.state = .absent then .present else r.state } := by
  unfold State.cardHeard
  rw [present]
  exact if_neg nofun

/-! ## The read of a CARD frame -/

section
variable {s : State} {p : Port} {n : Nat}

theorem exec_readerCardFrame (low : 1 ≤ n) (high : n < 2 ^ 64) :
    exec (.readerCardFrame p n) s = .next ((State.read p n (s.cardHeard p)).refresh (portLane p)) := by
  have ran : exec (.readerCardFrame p n) s = .next ((s.cardFrame p n).refresh (portLane p)) := rfl
  rw [ran, State.cardFrame, if_pos ⟨low, high⟩, State.cardHeard_eq]

theorem earlySteps_cardHeard (s : State) (p : Port) : earlySteps (s.cardHeard p) p = earlySteps s p := by
  unfold earlySteps
  simp only [State.cardHeard_lane, State.cardHeard_tampered]

theorem exec_read_early {e : Ending} (low : 1 ≤ n) (high : n < 2 ^ 64) (ends : earlySteps s p = some e) :
    exec (.readerCardFrame p n) s
      = .next (State.readEnds (plainRead p n none e.verdict e.reason e.step) (s.cardHeard p)) := by
  rw [exec_readerCardFrame low high, State.read, earlySteps_cardHeard, ends]
  rfl

theorem exec_read_late {r : ReadResult} (low : 1 ≤ n) (high : n < 2 ^ 64) (goesOn : earlySteps s p = none)
    (late : lateSteps p n (findCred n s.cst.creds) (s.cardHeard p) = r) :
    exec (.readerCardFrame p n) s
      = .next (State.readEnds (readBody p n ((findCred n s.cst.creds).map (·.cls)) r) r.state) := by
  rw [exec_readerCardFrame low high, State.read, earlySteps_cardHeard, goesOn]
  dsimp only
  rw [State.cardHeard_cst, late]
  rfl

/-! ## Steps 1 to 4 (R133) -/

theorem earlySteps_tampered (tampered : (s.port p).state = .tampered) : earlySteps s p = some (deny .readerTamper 1) := if_pos tampered

theorem earlySteps_open (untampered : (s.port p).state ≠ .tampered) :
    earlySteps s p =
      (modeStep (s.lane (portLane p)).lsv.mode).or
        ((healthStep (s.lane (portLane p)).lsv (portDir p)).or (claimStep (s.lane (portLane p)).pq.claim (portDir p))) :=
  if_neg untampered

theorem modeStep_goesOn {m : Mode} (h : m = .service ∨ m = .lockdown) : modeStep m = none := by
  rcases h with rfl | rfl <;> rfl

/-- Behind step 2. -/
theorem earlySteps_mode (untampered : (s.port p).state ≠ .tampered)
    (mode : (s.lane (portLane p)).lsv.mode = .service ∨ (s.lane (portLane p)).lsv.mode = .lockdown) :
    earlySteps s p =
      (healthStep (s.lane (portLane p)).lsv (portDir p)).or (claimStep (s.lane (portLane p)).pq.claim (portDir p)) := by
  rw [earlySteps_open untampered, modeStep_goesOn mode]
  rfl

/-- A read that the mode, or the health, the pending mode and the policy of the lane, do not stop. -/
theorem earlySteps_health (untampered : (s.port p).state ≠ .tampered)
    (mode : (s.lane (portLane p)).lsv.mode = .service ∨ (s.lane (portLane p)).lsv.mode = .lockdown)
    (healthy : (s.lane (portLane p)).healthy) (settled : (s.lane (portLane p)).lsv.pending = none)
    (badged : (s.lane (portLane p)).lsv.mode = .service → (s.lane (portLane p)).lsv.policy.setting (portDir p) = .badged) :
    earlySteps s p = claimStep (s.lane (portLane p)).pq.claim (portDir p) := by
  rw [earlySteps_mode untampered mode, healthStep_passes healthy settled badged]
  rfl

theorem earlySteps_passes (untampered : (s.port p).state ≠ .tampered) (admits : (s.lane (portLane p)).admitsRead (portDir p)) :
    earlySteps s p = none := by
  obtain ⟨mode, healthy, settled, claim⟩ := admits
  have badged (service : (s.lane (portLane p)).lsv.mode = .service) : (s.lane (portLane p)).lsv.policy.setting (portDir p) = .badged := by
    rcases mode with ⟨-, badged⟩ | lockdown
    · exact badged
    · exact absurd (lockdown.symm.trans service) nofun
  rw [earlySteps_health untampered (mode.imp_left (·.1)) healthy settled badged, claimStep_allows claim]

end

/-- Settles O28: the good frame recorded, and each of steps 1 to 4 behind those before it. -/
theorem cardReadEarlySteps : Obligations.CardReadEarlySteps := by
  intro p n s low high k d l heard began ends setting healthy open_
  have early {v : Verdict} {r : Reason} {step : Nat} (stops : earlySteps s p = some { verdict := v, reason := r, step := step }) :
      ends v r step := by
    have ran := exec_read_early low high stops
    exact ran
  have policy : setting = l.lsv.policy.setting (portDir p) := by
    show (match portDir p with | .entry => l.lsv.policy.entry | .exit => l.lsv.policy.exit) = _
    cases portDir p <;> rfl
  clear_value ends setting
  subst policy
  refine ⟨fun tampered => early (earlySteps_tampered tampered), fun untampered closed => early ?_, fun untampered egress => early ?_, ?_⟩
  · exact (earlySteps_open untampered).trans (by rcases closed with m | m <;> rw [m] <;> rfl)
  · exact (earlySteps_open untampered).trans (by rw [egress]; rfl)
  intro untampered mode
  have step3 := earlySteps_mode untampered mode
  refine ⟨fun ill => early (step3.trans ?_), fun fine pending => early (step3.trans ?_), fun fine settled service barred => early (step3.trans ?_),
    fun fine settled service free => early (step3.trans ?_), fun fine settled badged => ?_⟩
  · rw [healthStep_unhealthy ill]
    rfl
  · rw [healthStep_pending fine pending]
    rfl
  · rw [healthStep_policy fine settled, policyStep_barred service barred]
    rfl
  · rw [healthStep_policy fine settled, policyStep_free service free]
    rfl
  · rintro ⟨c, claimed, opposite⟩
    refine early ((earlySteps_health untampered mode fine settled badged).trans (claimStep_other ?_))
    rw [claimed]
    rintro (none_ | same)
    · exact absurd none_ nofun
    · exact opposite (Option.some.inj same)

end Sys2Proof.Machine

/-! Steps 5 to 9 of the read of a CARD frame (R134 to R140). -/

namespace Sys2Proof.Machine

/-! ## Step 5 (R134) -/

/-- Items 8 and 9 of step 5: the validity window against the clock. -/
def windowStep (s : State) (c : Cred) : Lookup :=
  match s.clock with
  | none => if c.hasWindow then .refer .noClock else .found c
  | some t => if c.notYet t then .denied .notYet else if c.expired t then .denied .expired else .found c

section
variable {s : State} {p : Port} {c : Cred}

theorem lockdownDenies_iff : ((s.lane (portLane p)).lsv.mode = .lockdown ∧ (s.cst.cls c.cls).lockdownPass = false) ↔ ¬s.classPasses p c.cls := by
  rw [State.classPasses, Classical.not_imp, Bool.not_eq_true]

theorem recordStep_lockdown (barred : ¬s.classPasses p c.cls) : recordStep s p c = .denied .lockdown := if_pos (lockdownDenies_iff.mpr barred)

theorem recordStep_suspended (passes : s.classPasses p c.cls) (state : c.state = .suspended) : recordStep s p c = .denied .suspended :=
  (if_neg fun h => lockdownDenies_iff.mp h passes).trans (if_pos state)

theorem recordStep_spent (passes : s.classPasses p c.cls) (state : c.state = .spent) : recordStep s p c = .denied .spent :=
  (if_neg fun h => lockdownDenies_iff.mp h passes).trans ((if_neg (by rw [state]; nofun)).trans (if_pos state))

theorem recordStep_active (passes : s.classPasses p c.cls) (state : c.state = .active) :
    recordStep s p c =
      if (s.cst.cls c.cls).alwaysRefer then .refer .classRefer
      else if !(s.cst.cls c.cls).allows (portLane p) (portDir p) then .denied .notPermitted
      else if !(s.cst.cls c.cls).holds s.clock s.deskKey then .denied .condition
      else windowStep s c :=
  (if_neg fun h => lockdownDenies_iff.mp h passes).trans
    ((if_neg (by rw [state]; nofun)).trans (if_neg (by rw [state]; nofun)))

theorem recordStep_judged (judged : s.judgedHere p c) :
    recordStep s p c =
      if !(s.cst.cls c.cls).allows (portLane p) (portDir p) then .denied .notPermitted
      else if !(s.cst.cls c.cls).holds s.clock s.deskKey then .denied .condition
      else windowStep s c := by
  obtain ⟨passes, state, unreferred⟩ := judged
  exact (recordStep_active passes state).trans (if_neg (by rw [unreferred]; exact Bool.false_ne_true))

theorem recordStep_admitted (judged : s.judgedHere p c) (admits : s.classAdmits p c) : recordStep s p c = windowStep s c := by
  obtain ⟨allows, holds⟩ := admits
  rw [recordStep_judged judged, allows, holds]
  rfl

theorem notYet_iff {t : Nat} : c.notYet t = true ↔ ∃ first, c.validFrom = some first ∧ t < first := by
  unfold Cred.notYet
  cases c.validFrom <;> simp

theorem expired_iff {t : Nat} : c.expired t = true ↔ ∃ last, c.validUntil = some last ∧ last < t := by
  unfold Cred.expired
  cases c.validUntil <;> simp

theorem hasWindow_iff : c.hasWindow = true ↔ ¬(c.validFrom = none ∧ c.validUntil = none) := by
  unfold Cred.hasWindow
  cases c.validFrom <;> cases c.validUntil <;> simp

theorem windowStep_unset (unset : s.clock = none) : windowStep s c = if c.hasWindow then .refer .noClock else .found c := by
  rw [windowStep, unset]

theorem windowStep_set {t : Nat} (set_ : s.clock = some t) :
    windowStep s c = if c.notYet t then .denied .notYet else if c.expired t then .denied .expired else .found c := by
  rw [windowStep, set_]

theorem windowStep_passes
    (within : (c.validFrom = none ∧ c.validUntil = none)
      ∨ ∃ t, s.clock = some t ∧ (∀ f, c.validFrom = some f → f ≤ t) ∧ ∀ u, c.validUntil = some u → t ≤ u) :
    windowStep s c = .found c := by
  have inside {t : Nat} (begun : ∀ f, c.validFrom = some f → f ≤ t) (lasts : ∀ u, c.validUntil = some u → t ≤ u) (set_ : s.clock = some t) :
      windowStep s c = .found c := by
    refine (windowStep_set set_).trans ((if_neg fun early => ?_).trans (if_neg fun late => ?_))
    · obtain ⟨first, from_, before⟩ := notYet_iff.mp early
      exact absurd (begun first from_) (by omega)
    · obtain ⟨last, until_, after⟩ := expired_iff.mp late
      exact absurd (lasts last until_) (by omega)
  rcases within with open_ | ⟨t, set_, begun, lasts⟩
  · cases clock : s.clock with
    | none => exact (windowStep_unset clock).trans (if_neg fun bounded => hasWindow_iff.mp bounded open_)
    | some t =>
      exact inside (fun f h => absurd (open_.1.symm.trans h) nofun) (fun u h => absurd (open_.2.symm.trans h) nofun) clock
  · exact inside begun lasts set_

theorem lookupStep_refers {record : Option Cred} {reason : ReferralReason} (refers : s.refersRead p record reason) :
    lookupStep s p record = .refer reason := by
  cases reason with
  | notInTable =>
    obtain ⟨rfl, unlocked⟩ := refers
    exact if_neg unlocked
  | classRefer =>
    obtain ⟨c, rfl, passes, state, marked⟩ := refers
    exact (recordStep_active passes state).trans (if_pos marked)
  | noClock =>
    obtain ⟨c, rfl, judged, admits, unset, bounded⟩ := refers
    exact (recordStep_admitted judged admits).trans ((windowStep_unset unset).trans (if_pos (hasWindow_iff.mpr bounded)))

theorem lookupStep_found (passes : s.passesLookup p c) : lookupStep s p (some c) = .found c := by
  obtain ⟨judged, admits, within⟩ := passes
  exact (recordStep_admitted judged admits).trans (windowStep_passes within)

end

theorem lookupStep_cardHeard (s : State) (p : Port) (record : Option Cred) : lookupStep (s.cardHeard p) p record = lookupStep s p record := by
  unfold lookupStep recordStep
  rw [State.cardHeard_cst, State.cardHeard_lane, State.cardHeard_clock, State.cardHeard_deskKey]

/-! ## The end of a read behind step 5 -/

section
variable {s : State} {p : Port} {n : Nat}

theorem lateSteps_denied {record : Option Cred} {r : Reason} (h : lookupStep s p record = .denied r) :
    lateSteps p n record (s.cardHeard p) = plainEnd (s.cardHeard p) (deny r 5) := by
  rw [lateSteps, lookupStep_cardHeard, h]

theorem lateSteps_refer {record : Option Cred} {r : ReferralReason} (h : lookupStep s p record = .refer r) :
    lateSteps p n record (s.cardHeard p) =
      if s.held n then plainEnd (s.cardHeard p) (deny .duplicate 6) else referRead p n record r (s.cardHeard p) := by
  rw [lateSteps, lookupStep_cardHeard, h, ← State.cardHeard_held s p]

theorem lateSteps_found {record : Option Cred} {c : Cred} (h : lookupStep s p record = .found c) :
    lateSteps p n record (s.cardHeard p) =
      if s.held n then plainEnd (s.cardHeard p) (deny .duplicate 6) else grantRead p n c (s.cardHeard p) := by
  rw [lateSteps, lookupStep_cardHeard, h, ← State.cardHeard_held s p]

theorem exec_read_plain {record : Option Cred} {e : Ending} (low : 1 ≤ n) (high : n < 2 ^ 64) (goesOn : earlySteps s p = none)
    (found : findCred n s.cst.creds = record) (late : lateSteps p n record (s.cardHeard p) = plainEnd (s.cardHeard p) e) :
    exec (.readerCardFrame p n) s
      = .next (State.readEnds (plainRead p n (record.map (·.cls)) e.verdict e.reason e.step) (s.cardHeard p)) := by
  rw [exec_read_late low high goesOn (by rw [found, late]), found]
  rfl

end

theorem lookupDenies_claim : Claims.LookupDenies := by
  intro p n s low high untampered admits denied
  have goesOn := earlySteps_passes untampered admits
  have ended {record : Option Cred} {r : Reason} (found : findCred n s.cst.creds = record) (h : lookupStep s p record = .denied r) :
      denied (record.map (·.cls)) r := by
    have ran := exec_read_plain low high goesOn found (lateSteps_denied h)
    exact ran
  clear_value denied
  refine ⟨fun unknown lockdown => ended (record := none) unknown (if_pos lockdown), fun c found => ?_⟩
  have ended' {r : Reason} (h : recordStep s p c = .denied r) : denied (some c.cls) r := ended (record := some c) found h
  refine ⟨fun barred => ended' (recordStep_lockdown barred), fun passes state => ended' (recordStep_suspended passes state),
    fun passes state => ended' (recordStep_spent passes state), fun judged forbids => ended' ?_, fun judged allows fails => ended' ?_, ?_⟩
  · rw [recordStep_judged judged, forbids]
    rfl
  · rw [recordStep_judged judged, allows, fails]
    rfl
  · intro t judged admits set_
    have window := (recordStep_admitted judged admits).trans (windowStep_set set_)
    refine ⟨fun first from_ before => ended' (window.trans (if_pos (notYet_iff.mpr ⟨first, from_, before⟩))),
      fun last begun until_ after => ended' (window.trans ((if_neg fun early => ?_).trans (if_pos (expired_iff.mpr ⟨last, until_, after⟩))))⟩
    obtain ⟨first, from_, before⟩ := notYet_iff.mp early
    exact absurd (begun first from_) (by omega)

end Sys2Proof.Machine

/-! Reads that step 5 refers, and reads whose record passes it: duplicates, the fallback, anti-passback, room and the append (R135 to R139). -/

namespace Sys2Proof.Machine

/-! ## The append of a read -/

/-- A read that ends with what an append came to. -/
def ReadResult.ofAppend (x : State × Ending × Option AppendInfo) (cause : Option FallbackCause) : ReadResult where
  state := x.1
  ending := x.2.1
  append := x.2.2
  referral := none
  fallback := cause

/-- The permit that a read appends. -/
def State.readPermit (s : State) (p : Port) (q : AppendReq) : Permit := newPermit s.tmb.ms (s.lane (portLane p)) q

/-- The READ notice of a read with a permit (R137, R140). -/
def State.appendNotice (s : State) (p : Port) (n : Nat) (cls : Option ClassNo) (q : AppendReq) (r : Reason) (cause : Option FallbackCause) :
    ReadBody :=
  { plainRead p n cls (if (s.readPermit p q).state = .ready then .grant else .wait) (if (s.readPermit p q).state = .ready then r else .escort) 9
    with
    append := some { number := (s.readPermit p q).number, state := (s.readPermit p q).state, allowance := q.allowance, soft := q.soft }
    fallback := cause }

/-- The state after the append of a read. -/
def State.readAppended (s : State) (p : Port) (q : AppendReq) : State :=
  s.absorb (portLane p) ((s.work (portLane p)).appended (s.env (portLane p)) q)

section
variable {s : State} {p : Port} {n : Nat}

/-- A read whose append finds no room (R137). -/
theorem exec_read_full {record : Option Cred} {q : AppendReq} {r : Reason} {cause : Option FallbackCause} (low : 1 ≤ n) (high : n < 2 ^ 64)
    (goesOn : earlySteps s p = none) (allows : claimAllows (s.lane (portLane p)).pq.claim q.dir)
    (full : 4 ≤ (s.lane (portLane p)).pq.permits.length) (found : findCred n s.cst.creds = record)
    (late : lateSteps p n record (s.cardHeard p) = .ofAppend (appendStep r q p (s.cardHeard p)) cause) :
    exec (.readerCardFrame p n) s
      = .next (State.readEnds { plainRead p n (record.map (·.cls)) .deny .queueFull 8 with fallback := cause } (s.cardHeard p)) := by
  rw [appendStep_full r (by rwa [State.cardHeard_lane]) (by rwa [State.cardHeard_lane])] at late
  rw [exec_read_late low high goesOn (by rw [found, late]), found]
  rfl

/-- A read whose append is accepted (R137). -/
theorem exec_read_append {record : Option Cred} {q : AppendReq} {r : Reason} {cause : Option FallbackCause} (low : 1 ≤ n) (high : n < 2 ^ 64)
    (goesOn : earlySteps s p = none) (allows : claimAllows (s.lane (portLane p)).pq.claim q.dir)
    (room : (s.lane (portLane p)).pq.permits.length < 4) (found : findCred n s.cst.creds = record)
    (late : lateSteps p n record (s.cardHeard p) = .ofAppend (appendStep r q p (s.cardHeard p)) cause) :
    exec (.readerCardFrame p n) s
      = .next (State.readEnds ((s.cardHeard p).appendNotice p n (record.map (·.cls)) q r cause) ((s.cardHeard p).readAppended p q)) := by
  rw [appendStep_accepted r (by rwa [State.cardHeard_lane]) (by rwa [State.cardHeard_lane])] at late
  rw [exec_read_late low high goesOn (by rw [found, late]), found]
  show Host.Outcome.next (State.readEnds (readBody p n _
    (ReadResult.ofAppend (_, grantEnding r ((s.cardHeard p).readPermit p q).state, _) cause)) _) = _
  rw [grantEnding_eq]
  rfl

theorem append_cardHeard {q : AppendReq} (allows : claimAllows (s.lane (portLane p)).pq.claim q.dir)
    (room : (s.lane (portLane p)).pq.permits.length < 4) :
    append ((s.cardHeard p).env (portLane p)) q ((s.cardHeard p).work (portLane p))
      = .accepted (((s.cardHeard p).work (portLane p)).appended ((s.cardHeard p).env (portLane p)) q)
          ((s.cardHeard p).readPermit p q).number ((s.cardHeard p).readPermit p q).state :=
  append_eq_appended (w := (s.cardHeard p).work (portLane p)) (by rw [← State.cardHeard_lane s p] at allows; exact allows)
    (by rw [← State.cardHeard_lane s p] at room; exact room)

/-! ## A record that passed step 5 (R136, R137) -/

theorem passback_iff (x : Presence) (d : Direction) : x.passback d = true ↔ passbackRead x d := by
  cases x <;> cases d <;> simp [Presence.passback, passbackRead]

theorem softPassback_iff {mode : Passback} {x : Presence} {d : Direction} :
    (decide (mode = .soft) && x.passback d) = true ↔ mode = .soft ∧ passbackRead x d := by
  rw [Bool.and_eq_true, decide_eq_true_iff, passback_iff]

theorem grantRead_hard {c : Cred} (hard : (s.cst.cls c.cls).passback = .hard) (passback : passbackRead c.presence (portDir p)) :
    grantRead p n c s = plainEnd s (deny .passback 7) := by
  rw [grantRead, hard, (passback_iff ..).mpr passback]

theorem grantRead_goesOn {c : Cred} {soft : Bool} (soft_iff : soft = true ↔ (s.cst.cls c.cls).passback = .soft ∧ passbackRead c.presence (portDir p))
    (goesOn : ¬((s.cst.cls c.cls).passback = .hard ∧ passbackRead c.presence (portDir p))) :
    grantRead p n c s = .ofAppend (appendStep .local_ (s.appendFor p .badge n (some c.cls) c.group soft) p s) none := by
  rw [← softPassback_iff] at soft_iff
  rw [← permitReq_eq_appendFor, Bool.eq_iff_iff.mpr soft_iff]
  unfold grantRead
  cases mode : (s.cst.cls c.cls).passback with
  | hard =>
    have quiet : c.presence.passback (portDir p) = false :=
      Bool.eq_false_iff.mpr fun passback => goesOn ⟨mode, (passback_iff ..).mp passback⟩
    rw [quiet]
    rfl
  | off => rfl
  | soft => rfl

end

theorem foundReadsJudged_claim : Claims.FoundReadsJudged := by
  intro p n s c low high untampered admits found passes l h mode ends
  have goesOn := earlySteps_passes untampered admits
  have allows : claimAllows l.pq.claim (portDir p) := admits.2.2.2
  have step5 := lookupStep_found passes
  have free (held : s.held n = false) : lateSteps p n (some c) h = grantRead p n c h :=
    (lateSteps_found step5).trans (if_neg (by rw [held]; exact Bool.false_ne_true))
  have mode_eq : ((s.cardHeard p).cst.cls c.cls).passback = mode := by rw [State.cardHeard_cst]
  have request (soft : Bool) : h.appendFor p .badge n (some c.cls) c.group soft = s.appendFor p .badge n (some c.cls) c.group soft :=
    State.appendFor_congr (State.cardHeard_cst s p) ..
  have judged {soft : Bool} (soft_iff : soft = true ↔ mode = .soft ∧ passbackRead c.presence (portDir p)) (held : s.held n = false)
      (lenient : ¬(mode = .hard ∧ passbackRead c.presence (portDir p))) :
      lateSteps p n (some c) h = .ofAppend (appendStep .local_ (s.appendFor p .badge n (some c.cls) c.group soft) p h) none := by
    rw [free held, grantRead_goesOn (by rw [mode_eq]; exact soft_iff) (by rw [mode_eq]; exact lenient), request]
  refine ⟨fun held => ?_, fun held hard passback => ?_, fun held lenient full => ?_, fun soft soft_iff held lenient room => ?_⟩
  · have ran := exec_read_plain low high goesOn found
      ((lateSteps_found step5).trans (if_pos held) : _ = plainEnd (s.cardHeard p) (deny .duplicate 6))
    exact ran
  · have ran := exec_read_plain low high goesOn found ((free held).trans (grantRead_hard (mode_eq.trans hard) passback))
    exact ran
  · have ran := exec_read_full low high goesOn allows full found
      (judged softPassback_iff held lenient)
    exact ran
  · have ran := exec_read_append low high goesOn allows room found (judged soft_iff held lenient)
    exact ⟨_, _, _, append_cardHeard allows room, ran⟩

/-! ## A read that step 5 refers (R138, R139, R152) -/

/-- Why a referral finds no place, as the slots and the site queue stand. -/
theorem State.noReferral_of_room {s : State} (slot : s.rfu.slots.length < 8) (queue : s.site.queue.length < 64) : s.noReferral = none :=
  (if_neg (Nat.not_le.mpr slot)).trans (if_neg (Nat.not_le.mpr queue))

theorem State.noReferral_of_full {s : State} (full : 8 ≤ s.rfu.slots.length ∨ 64 ≤ s.site.queue.length) :
    s.noReferral = some (if 8 ≤ s.rfu.slots.length then .noSlot else .siteQueueFull) := by
  by_cases slots : 8 ≤ s.rfu.slots.length
  · rw [if_pos slots]
    exact if_pos slots
  · rw [if_neg slots]
    exact (if_neg slots).trans (if_pos (full.resolve_left slots))

/-- The slot that a read opens, as the lane and the slots stand before it. -/
def State.readSlot (s : State) (p : Port) (n : Nat) (cls : Option ClassNo) (reason : ReferralReason) : Slot where
  tag := firstFree (s.rfu.slots.map (·.tag)) 255 s.rfu.tagCounter
  reader := p
  number := n
  cls := cls
  reason := reason
  opened := s.tmb.ms
  deadline := s.tmb.ms + (s.lane (portLane p)).timing.referralTimeout

/-- The state after a read has opened its slot. -/
def State.readReferred (s : State) (p : Port) (n : Nat) (cls : Option ClassNo) (reason : ReferralReason) : State :=
  State.post (laneNumber (portLane p))
    (.referralOpened (s.readSlot p n cls reason).tag p n cls reason (s.lane (portLane p)).timing.referralTimeout)
    { s.cardHeard p with
      rfu := { slots := s.rfu.slots ++ [s.readSlot p n cls reason], tagCounter := next255 (s.readSlot p n cls reason).tag } }

theorem newSlot_cardHeard (s : State) (p : Port) (n : Nat) (cls : Option ClassNo) (reason : ReferralReason) :
    newSlot (s.cardHeard p) p n cls reason = s.readSlot p n cls reason := by
  rw [newSlot, State.cardHeard_rfu, State.cardHeard_tmb, State.cardHeard_lane, State.readSlot]

theorem openSlot_cardHeard (s : State) (p : Port) (n : Nat) (cls : Option ClassNo) (reason : ReferralReason) :
    (s.cardHeard p).openSlot (s.readSlot p n cls reason) = s.readReferred p n cls reason := by
  have timeout : ((s.cardHeard p).lane (portLane p)).timing.referralTimeout = (s.lane (portLane p)).timing.referralTimeout := by
    rw [State.cardHeard_lane]
  rw [State.readReferred, ← timeout, ← State.cardHeard_rfu s p]
  rfl

section
variable {s : State} {p : Port} {n : Nat} {record : Option Cred} {reason : ReferralReason}

theorem lateSteps_referred (refers : s.refersRead p record reason) (free : s.held n = false) :
    lateSteps p n record (s.cardHeard p) = referRead p n record reason (s.cardHeard p) :=
  (lateSteps_refer (lookupStep_refers refers)).trans (if_neg (by rw [free]; exact Bool.false_ne_true))

theorem exec_read_referred (low : 1 ≤ n) (high : n < 2 ^ 64) (goesOn : earlySteps s p = none) (found : findCred n s.cst.creds = record)
    (refers : s.refersRead p record reason) (free : s.held n = false) (slot : s.rfu.slots.length < 8)
    (queue : (s.cardHeard p).site.queue.length < 64) :
    exec (.readerCardFrame p n) s = .next (State.readEnds
      { plainRead p n (record.map (·.cls)) .wait .referral 5 with
        referral := some ((s.readSlot p n (record.map (·.cls)) reason).tag, reason) }
      (s.readReferred p n (record.map (·.cls)) reason)) := by
  have opened : referRead p n record reason (s.cardHeard p) =
      { state := s.readReferred p n (record.map (·.cls)) reason, ending := { verdict := .wait, reason := .referral, step := 5 }
        append := none, referral := some ((s.readSlot p n (record.map (·.cls)) reason).tag, reason), fallback := none } := by
    rw [referRead, State.noReferral_of_room (by rwa [State.cardHeard_rfu]) queue, newSlot_cardHeard]
    dsimp only
    rw [openSlot_cardHeard]
  rw [exec_read_late low high goesOn (by rw [found, lateSteps_referred refers free, opened]), found]
  rfl

theorem lateSteps_unreferred (refers : s.refersRead p record reason) (free : s.held n = false)
    (full : 8 ≤ s.rfu.slots.length ∨ 64 ≤ (s.cardHeard p).site.queue.length) :
    lateSteps p n record (s.cardHeard p)
      = readFallback p n record (if 8 ≤ s.rfu.slots.length then .noSlot else .siteQueueFull) (s.cardHeard p) := by
  rw [lateSteps_referred refers free, referRead, State.noReferral_of_full (by rwa [State.cardHeard_rfu]), State.cardHeard_rfu]

theorem fallbackOf_cardHeard (s : State) (p : Port) (cls : Option ClassNo) : fallbackOf (s.cardHeard p) p cls = fallbackOf s p cls := by
  unfold fallbackOf
  rw [State.cardHeard_cst, State.cardHeard_lane]

theorem fallbackOf_record (s : State) (p : Port) (record : Option Cred) :
    fallbackOf s p (record.map (·.cls)) =
      match record with | some c => (s.cst.cls c.cls).fallback | none => (s.lane (portLane p)).timing.unknownFallback := by
  cases record <;> rfl

theorem allowanceOf_record (record : Option Cred) : (record.map (·.group)).getD 1 = match record with | some c => c.group | none => 1 := by
  cases record <;> rfl

theorem readFallback_deny {cause : FallbackCause} (h : fallbackOf s p (record.map (·.cls)) = .deny) :
    readFallback p n record cause (s.cardHeard p) = { plainEnd (s.cardHeard p) (deny .noReferral 5) with fallback := some cause } := by
  rw [readFallback, fallbackOf_cardHeard, h]

theorem readFallback_grant {cause : FallbackCause} (h : fallbackOf s p (record.map (·.cls)) = .grant) :
    readFallback p n record cause (s.cardHeard p) =
      .ofAppend
        (appendStep .fallback (s.appendFor p .badge n (record.map (·.cls)) ((record.map (·.group)).getD 1) false) p (s.cardHeard p))
        (some cause) := by
  rw [readFallback, fallbackOf_cardHeard, h, ← State.appendFor_congr (State.cardHeard_cst s p), ← permitReq_eq_appendFor]
  rfl

theorem exec_read_noReferral {cause : FallbackCause} (low : 1 ≤ n) (high : n < 2 ^ 64) (goesOn : earlySteps s p = none)
    (found : findCred n s.cst.creds = record) (late : lateSteps p n record (s.cardHeard p) = readFallback p n record cause (s.cardHeard p))
    (h : fallbackOf s p (record.map (·.cls)) = .deny) :
    exec (.readerCardFrame p n) s = .next (State.readEnds
      { plainRead p n (record.map (·.cls)) .deny .noReferral 5 with fallback := some cause } (s.cardHeard p)) := by
  rw [exec_read_late low high goesOn (by rw [found, late, readFallback_deny h]), found]
  rfl

end

theorem referredReadsSettled_claim : Claims.ReferredReadsSettled := by
  intro p n s reason low high untampered admits record cls l h ends refers
  have goesOn := earlySteps_passes untampered admits
  have allows : claimAllows l.pq.claim (portDir p) := admits.2.2.2
  refine ⟨fun held => ?_, fun free slot queue => ?_, ?_⟩
  · have ran := exec_read_plain low high goesOn rfl
      ((lateSteps_refer (lookupStep_refers refers)).trans (if_pos held) : _ = plainEnd (s.cardHeard p) (deny .duplicate 6))
    exact ran
  · have ran := exec_read_referred low high goesOn rfl refers free slot queue
    exact ran
  · intro free full cause fallback allowance
    have late := lateSteps_unreferred refers free full
    have inForce : fallbackOf s p cls = fallback := fallbackOf_record s p record
    have amount : (record.map (·.group)).getD 1 = allowance := allowanceOf_record record
    refine ⟨fun denies => ?_, fun grants full => ?_, fun grants room => ?_⟩
    · have ran := exec_read_noReferral low high goesOn rfl late (inForce.trans denies)
      exact ran
    · have ran := exec_read_full low high goesOn allows full rfl (late.trans (readFallback_grant (inForce.trans grants)))
      exact ran
    · have ran := exec_read_append low high goesOn allows room rfl (late.trans (readFallback_grant (inForce.trans grants)))
      rw [amount] at ran
      exact ⟨_, _, _, append_cardHeard allows room, ran⟩

end Sys2Proof.Machine

/-! A read that passes steps 1 to 4: what the permit or the referral it ends with leaves (R132 to R140). -/

namespace Sys2Proof.Machine

/-- A frame sent leaves the rest of its port. -/
theorem State.sendReader_port_same (s : State) (p : Port) (f : ReaderFrame) :
    ((s.sendReader p f).port p).state = (s.port p).state ∧ ((s.sendReader p f).port p).bad = (s.port p).bad
      ∧ ((s.sendReader p f).port p).lastGood = (s.port p).lastGood := by
  rw [State.sendReader_port]
  split
  · exact ⟨rfl, rfl, rfl⟩
  · exact ⟨rfl, rfl, rfl⟩

section
variable {s : State} {p : Port}

theorem State.cardHeard_sameDevice (present : (s.port p).state = .present) : s.sameDevice (s.cardHeard p) := by
  rw [State.cardHeard_of_present present]
  exact s.modPort_sameDevice p _

theorem State.cardHeard_tx : ((s.cardHeard p).port p).tx = (s.port p).tx := by rw [State.cardHeard_port]

theorem State.readReferred_lane (n : Nat) (cls : Option ClassNo) (reason : ReferralReason) (k : Lane) :
    (s.readReferred p n cls reason).lane k = s.lane k := by
  rw [State.readReferred, State.post_lane]
  exact s.cardHeard_lane p k

theorem State.readReferred_port (n : Nat) (cls : Option ClassNo) (reason : ReferralReason) (q : Port) :
    (s.readReferred p n cls reason).port q = (s.cardHeard p).port q := by
  rw [State.readReferred, State.post_port]
  rfl

theorem State.readReferred_rfu (n : Nat) (cls : Option ClassNo) (reason : ReferralReason) :
    (s.readReferred p n cls reason).rfu
      = { slots := s.rfu.slots ++ [s.readSlot p n cls reason], tagCounter := next255 (s.readSlot p n cls reason).tag } := by
  rw [State.readReferred, State.post_rfu]

theorem State.readReferred_sameDevice (present : (s.port p).state = .present) (n : Nat) (cls : Option ClassNo) (reason : ReferralReason) :
    s.sameDevice (s.readReferred p n cls reason) :=
  (State.cardHeard_sameDevice present).trans
    (State.sameDevice.trans ⟨LinkPort.sameButQueue_refl _, LinkPort.sameButQueue_refl _, rfl, rfl, rfl, rfl, rfl, rfl, rfl⟩
      (State.post_samePart ..).2)

/-- An active record without a window whose class admits the read passes step 5 in SERVICE. -/
theorem State.passesLookup_of_service {c : Cred} (mode : (s.lane (portLane p)).lsv.mode = .service) (state : c.state = .active)
    (unreferred : (s.cst.cls c.cls).alwaysRefer = false) (allows : (s.cst.cls c.cls).allows (portLane p) (portDir p) = true)
    (holds : (s.cst.cls c.cls).holds s.clock s.deskKey = true) (from_ : c.validFrom = none) (until_ : c.validUntil = none) :
    s.passesLookup p c :=
  ⟨⟨fun lockdown => absurd (mode.symm.trans lockdown) nofun, state, unreferred⟩, ⟨allows, holds⟩, .inl ⟨from_, until_⟩⟩

end

/-- What a read that ends with a permit leaves. -/
theorem State.readAppended_appends (s : State) (p : Port) (n : Nat) (cls : Option ClassNo) (q : AppendReq) (r : Reason)
    (cause : Option FallbackCause) :
    s.appends (State.readEnds (s.appendNotice p n cls q r cause) (s.readAppended p q)) p q
      (.verdict (if (s.readPermit p q).state = .ready then .grant else .wait) (if (s.readPermit p q).state = .ready then r else .escort) n) :=
  s.told_appends p q _ _

/-- A permit appended after a CARD frame was heard: what the lane holds of it, and what it leaves. -/
theorem State.cardHeard_appends {s t : State} {p : Port} {q : AppendReq} {f : ReaderFrame} (present : (s.port p).state = .present)
    (h : (s.cardHeard p).appends t p q f) :
    s.sameDevice t ∧ t.rfu = s.rfu ∧ (∀ j, j ≠ portLane p → t.lane j = s.lane j)
      ∧ (t.port p).state = .present ∧ (t.port p).bad = 0 ∧ (t.port p).lastGood = some s.tmb.ms
      ∧ (∀ q, q ≠ p → t.port q = s.port q) ∧ (t.lane (portLane p)).ot = (s.lane (portLane p)).ot
      ∧ (t.lane (portLane p)).reported = (s.lane (portLane p)).reported ∧ (t.lane (portLane p)).bsu = (s.lane (portLane p)).bsu := by
  obtain ⟨device, rfu, lanes, ports, -, ot, reported, bsu, port, -⟩ := h
  obtain ⟨state, bad, good⟩ := (s.cardHeard p).sendReader_port_same p f
  have heard := s.cardHeard_port p
  refine ⟨(State.cardHeard_sameDevice present).trans device, rfu.trans (s.cardHeard_rfu p),
    fun j other => (lanes j other).trans (s.cardHeard_lane p j), ?_, ?_, ?_, fun q other => (ports q other).trans (s.cardHeard_port_of_ne other),
    ?_, ?_, ?_⟩
  · rw [port _ rfl, state, heard, present]
    rfl
  · rw [port _ rfl, bad, heard]
  · rw [port _ rfl, good, heard]
  · rw [ot, s.cardHeard_lane p]
  · rw [reported, s.cardHeard_lane p]
  · rw [bsu, s.cardHeard_lane p]

theorem cardReadGrantsOrRefers_claim : Claims.CardReadGrantsOrRefers := by
  intro p n s low high k l present mode badged sensor barrier settled claim free
  have untampered : (s.port p).state ≠ .tampered := by rw [present]; nofun
  have goesOn := earlySteps_passes untampered ⟨.inl ⟨mode, badged⟩, ⟨sensor, barrier⟩, settled, claim⟩
  refine ⟨fun c found state unreferred allows holds from_ until_ off room => ?_, fun unknown slots queue => ?_⟩
  · have passes := State.passesLookup_of_service mode state unreferred allows holds from_ until_
    have off' : ((s.cardHeard p).cst.cls c.cls).passback = .off := by rw [State.cardHeard_cst, off]
    have late : lateSteps p n (some c) (s.cardHeard p)
        = .ofAppend (appendStep .local_ (s.appendFor p .badge n (some c.cls) c.group false) p (s.cardHeard p)) none := by
      rw [lateSteps_found (lookupStep_found passes), free, if_neg Bool.false_ne_true,
        grantRead_goesOn (soft := false) (by rw [off']; simp) (by rw [off']; simp), State.appendFor_congr (State.cardHeard_cst s p)]
    have ran := exec_read_append (q := s.appendFor p .badge n (some c.cls) c.group false) low high goesOn claim room found late
    have appends := (s.cardHeard p).readAppended_appends p n (some c.cls) (s.appendFor p .badge n (some c.cls) c.group false) .local_ none
    obtain ⟨device, rfu, lanes, portState, bad, good, ports, ot, reported, bsu⟩ := State.cardHeard_appends present appends
    refine ⟨_, ran, device, rfu, lanes, portState, bad, good, ports, ot, reported, bsu, _, appends.permit, ?_, rfl, rfl, rfl, rfl, rfl, rfl,
      rfl, rfl, fun empty => ?_⟩
    · rw [s.cardHeard_lane p]
      rfl
    · exact (appends.tx (by rwa [State.cardHeard_tx])).trans (by rw [State.cardHeard_tx]; rfl)
  · have refers : s.refersRead p none .notInTable := ⟨rfl, by show (s.lane (portLane p)).lsv.mode ≠ .lockdown; rw [mode]; nofun⟩
    have queue' : (s.cardHeard p).site.queue.length < 64 := by rw [State.cardHeard_of_present present]; exact queue
    have ran : exec (.readerCardFrame p n) s = .next ((s.readReferred p n none .notInTable).told p (.verdict .wait .referral n)
        (.read { plainRead p n none .wait .referral 5 with referral := some ((s.readSlot p n none .notInTable).tag, .notInTable) })) := by
      have referred := exec_read_referred low high goesOn unknown refers free slots queue'
      exact referred
    refine ⟨_, ran, (State.readReferred_sameDevice present ..).trans (State.told_sameDevice ..), fun j other => ?_, ?_, fun q other => ?_, ?_,
      fun empty => ?_⟩
    · exact (State.told_lane_of_ne _ _ _ other).trans (State.readReferred_lane ..)
    · rw [State.told_rfu]
      exact (State.told_lane ..).trans (by rw [State.readReferred_lane])
    · exact (State.told_port_of_ne _ _ _ other).trans ((State.readReferred_port ..).trans (s.cardHeard_port_of_ne other))
    · exact (State.told_rfu ..).trans (State.readReferred_rfu ..)
    · refine (State.told_tx _ _ (by rwa [State.readReferred_port, State.cardHeard_tx])).trans ?_
      rw [State.readReferred_port, State.cardHeard_tx]

/-- Settles O29: step 5 case by case, then the append, the referral or the fallback that the read ends with. -/
theorem cardReadGrantsOrRefers : Obligations.CardReadGrantsOrRefers :=
  ⟨cardReadGrantsOrRefers_claim, lookupDenies_claim, referredReadsSettled_claim, foundReadsJudged_claim⟩

end Sys2Proof.Machine

/-! The stages of a save, its failures, and what it leaves when it does not finish (R193, R203). -/

namespace Sys2Proof.Machine

/-! ## Reads of the flash that a write does not reach -/

/-- A write to one position leaves every other, whether or not the flash has that position. -/
theorem Memory.read_write_of_ne {m : Memory} (h : m.wf = true) {a i : Nat} (b : Byte) (other : i ≠ a) : (m.write a b).read i = m.read i := by
  by_cases inside : a < Config.flashSize
  · rw [Memory.read_write h inside, if_neg other]
  · rw [Memory.write, if_neg inside]

theorem Memory.read_writeBytes_of_lt {m : Memory} (h : m.wf = true) {a i : Nat} (bs : List Byte) (below : i < a) :
    (m.writeBytes a bs).read i = m.read i := by
  induction bs generalizing a m with
  | nil => rfl
  | cons b bs ih =>
    rw [Memory.writeBytes, ih (Memory.write_wf a b h) (by omega), Memory.read_write_of_ne h b (by omega)]

theorem Memory.formatCode_congr {m n : Memory} (zero : m.read 0 = n.read 0) (one : m.read 1 = n.read 1) : m.formatCode = n.formatCode := by
  show fromLe [m.read 0, m.read 1] = fromLe [n.read 0, n.read 1]
  rw [zero, one]

theorem Memory.formatCode_writeBytes {m : Memory} (h : m.wf = true) {a : Nat} (bs : List Byte) (behind : 2 ≤ a) :
    (m.writeBytes a bs).formatCode = m.formatCode :=
  Memory.formatCode_congr (Memory.read_writeBytes_of_lt h bs (by omega)) (Memory.read_writeBytes_of_lt h bs (by omega))

/-- A header written with its format code whole leaves that format code. -/
theorem Memory.formatCode_writeBytes_start {m : Memory} (h : m.wf = true) (a b : Byte) (bs : List Byte) :
    (m.writeBytes 0 (a :: b :: bs)).formatCode = fromLe [a, b] := by
  have size : (1 : Nat) < Config.flashSize := by decide
  have first : ((m.write 0 a).write 1 b).read 0 = a := by
    rw [Memory.read_write_of_ne (Memory.write_wf 0 a h) b (by decide), Memory.read_write h (by decide), if_pos rfl]
  have second : ((m.write 0 a).write 1 b).read 1 = b := by rw [Memory.read_write (Memory.write_wf 0 a h) size, if_pos rfl]
  have wf : ((m.write 0 a).write 1 b).wf = true := Memory.write_wf 1 b (Memory.write_wf 0 a h)
  show fromLe [(Memory.writeBytes 2 bs ((m.write 0 a).write 1 b)).read 0, (Memory.writeBytes 2 bs ((m.write 0 a).write 1 b)).read 1] = _
  rw [Memory.read_writeBytes_of_lt wf bs (by decide), Memory.read_writeBytes_of_lt wf bs (by decide), first, second]

/-! ## Judgements by the format code (R191) -/

theorem Memory.judge_noImage {m : Memory} (h : m.formatCode = 0xFFFF) : m.judge.1 = .noImage := by
  rw [Memory.judge, if_pos h]

theorem Memory.judge_badImage {m : Memory} (h : m.formatCode = 0x4C31) (unloaded : m.judge.1 ≠ .loaded) : m.judge.1 = .badImage := by
  have code : m.formatCode = Config.formatCode := h
  have either : m.judge.1 = .badImage ∨ m.judge.1 = .loaded := by
    unfold Memory.judge
    rw [if_neg (by rw [h]; decide), if_neg (not_not.mpr code)]
    dsimp only
    split
    · exact .inl rfl
    split
    · exact .inl rfl
    split
    · exact .inl rfl
    · exact .inr rfl
  exact either.resolve_right unloaded

/-! ## What an unfinished save leaves (R193, Log 39) -/

theorem Memory.unfinished_of_unloaded {m : Memory} (h : m.judge.1 ≠ .loaded) : m.unfinished = m := if_neg h

theorem Memory.read_unfinished {m : Memory} (h : m.wf = true) {a : Nat} (other : a ≠ m.imageBytes.length) : m.unfinished.read a = m.read a := by
  unfold Memory.unfinished
  split
  · exact Memory.read_write_of_ne h _ other
  · rfl

theorem Memory.formatCode_unfinished {m : Memory} (h : m.wf = true) : m.unfinished.formatCode = m.formatCode := by
  have size : 416 ≤ m.imageBytes.length := by
    rw [Memory.imageBytes_length]
    exact Nat.le_add_right ..
  exact Memory.formatCode_congr (Memory.read_unfinished h (by omega)) (Memory.read_unfinished h (by omega))

/-- A flash that bytes were written to and left unfinished: those bytes, but for one where they would pass for a whole image. -/
def Memory.leftBy (base left : Memory) : Prop :=
  (base.judge.1 ≠ .loaded → left = base) ∧ (base.judge.1 = .loaded → ∀ a, a ≠ base.imageBytes.length → left.read a = base.read a)

theorem Memory.leftBy_unfinished {m : Memory} (h : m.wf = true) : m.leftBy m.unfinished :=
  ⟨Memory.unfinished_of_unloaded, fun _ _ other => Memory.read_unfinished h other⟩

theorem Memory.unfinished_badImage {m : Memory} (h : m.wf = true) (code : m.formatCode = 0x4C31) : m.unfinished.judge.1 = .badImage :=
  Memory.judge_badImage ((Memory.formatCode_unfinished h).trans code) (Memory.judge_unfinished h)

theorem Memory.read_erased {m : Memory} (h : m.wf = true) (n a : Nat) :
    (m.erased (some n)).read a = if a < 2 ∨ a < n then 0xFF#8 else m.read a := by
  rw [Memory.erased, Memory.read_eraseFirst _ h]
  simp only [lt_max_iff]

theorem Memory.erased_noImage {m : Memory} (h : m.wf = true) (n : Nat) : (m.erased (some n)).judge.1 = .noImage := by
  apply Memory.judge_noImage
  show fromLe [(m.erased (some n)).read 0, (m.erased (some n)).read 1] = 0xFFFF
  rw [Memory.read_erased h, Memory.read_erased h, if_pos (.inl (by decide)), if_pos (.inl (by decide))]
  rfl

section
variable {s : State} {r : SaveRun}

theorem State.stageWritten_erase (taken : Nat) (stage : r.stage = .erase) : s.stageWritten (some taken) r = s.ims.flash.erased (some taken) := by
  rw [State.stageWritten, stage]

theorem State.stageWritten_header (taken : Nat) (stage : r.stage = .header) :
    s.stageWritten (some taken) r = (s.ims.flash.writeBytes 0 (if taken < 2 then [] else s.header.take taken)).unfinished := by
  rw [State.stageWritten, stageBytes, stage]
  rfl

theorem State.stageWritten_records (taken : Nat) (stage : r.stage = .records) :
    s.stageWritten (some taken) r
      = (s.ims.flash.writeBytes (416 + 27 * r.written)
          ((((s.cst.creds.drop r.written).take 1).flatMap Cred.packed).take taken)).unfinished := by
  rw [State.stageWritten, stageBytes, stage]
  rfl

theorem State.stageWritten_crc (taken : Nat) (stage : r.stage = .crc) :
    s.stageWritten (some taken) r
      = (s.ims.flash.writeBytes (416 + 27 * r.written)
          ((le 2 (crc16 (s.ims.flash.readBytes 0 (416 + 27 * r.written))).toNat).take taken)).unfinished := by
  rw [State.stageWritten, stageBytes, stage]
  rfl

theorem nextRecord_packed {cs : List Cred} {i : Nat} {c : Cred} (h : cs[i]? = some c) : ((cs.drop i).take 1).flatMap Cred.packed = c.packed := by
  obtain ⟨inside, rfl⟩ := List.getElem?_eq_some_iff.mp h
  rw [List.drop_eq_getElem_cons inside]
  exact List.append_nil _

theorem State.stageWritten_whole_header (stage : r.stage = .header) : s.stageWritten none r = s.ims.flash.writeBytes 0 s.header := by
  rw [State.stageWritten, stageBytes, stage]

theorem State.stageWritten_whole_records {c : Cred} (stage : r.stage = .records) (next : s.cst.creds[r.written]? = some c) :
    s.stageWritten none r = s.ims.flash.writeBytes (416 + 27 * r.written) c.packed := by
  rw [State.stageWritten, stageBytes, stage, ← nextRecord_packed next]
  rfl

theorem State.stageWritten_whole_crc (stage : r.stage = .crc) :
    s.stageWritten none r
      = s.ims.flash.writeBytes (416 + 27 * r.written) (le 2 (crc16 (s.ims.flash.readBytes 0 (416 + 27 * r.written))).toNat) := by
  rw [State.stageWritten, stageBytes, stage]
  rfl

theorem State.stageWritten_unloaded (canonical : s.flashCanonical) (taken : Nat) : (s.stageWritten (some taken) r).judge.1 ≠ .loaded := by
  have unfinished (a : Nat) (bs : List Byte) : (s.ims.flash.writeBytes a bs).unfinished.judge.1 ≠ .loaded :=
    Memory.judge_unfinished (Memory.writeBytes_wf a bs canonical)
  cases stage : r.stage with
  | erase =>
    rw [State.stageWritten_erase taken stage, Memory.erased_noImage canonical]
    nofun
  | header =>
    rw [State.stageWritten_header taken stage]
    exact unfinished _ _
  | records =>
    rw [State.stageWritten_records taken stage]
    exact unfinished _ _
  | crc =>
    rw [State.stageWritten_crc taken stage]
    exact unfinished _ _

end

/-- The first bytes of the header with the format code whole. -/
theorem State.header_take (s : State) {taken : Nat} (h : 2 ≤ taken) :
    s.header.take taken = 0x31#8 :: 0x4C#8 :: s.headerBody.take (taken - 2) := by
  obtain ⟨n, rfl⟩ := Nat.exists_eq_add_of_le' h
  rfl

theorem cutSaveLeavesNoImage_claim : Claims.CutSaveLeavesNoImage := by
  intro s r taken canonical old left finish written
  have wf (a : Nat) (bs : List Byte) : (old.writeBytes a bs).wf = true := Memory.writeBytes_wf a bs canonical
  have leaves {a : Nat} {bs : List Byte} (h : left = (old.writeBytes a bs).unfinished) : written (old.writeBytes a bs) := by
    have by_ := Memory.leftBy_unfinished (wf a bs)
    rw [← h] at by_
    exact by_
  have bad {bs : List Byte} (h : left = (old.writeBytes finish bs).unfinished) (code : old.formatCode = 0x4C31) : left.judge.1 = .badImage := by
    rw [h]
    exact Memory.unfinished_badImage (wf _ _) ((Memory.formatCode_writeBytes canonical bs (by omega)).trans code)
  refine ⟨State.stageWritten_wf _ r canonical, State.stageWritten_unloaded canonical taken, fun stage => ?_, fun stage => ?_, fun stage => ?_,
    fun stage => ?_⟩
  · have erased : left = old.erased (some taken) := State.stageWritten_erase taken stage
    rw [erased]
    exact ⟨Memory.erased_noImage canonical taken, Memory.read_erased canonical taken⟩
  · have cut : left = _ := State.stageWritten_header taken stage
    refine ⟨leaves cut, fun blank => ⟨fun few => ?_, fun enough => ?_⟩⟩
    · have nothing : (Memory.writeBytes 0 [] []).judge.1 = .noImage := Memory.judge_noImage rfl
      have same : left = Memory.writeBytes 0 [] [] := by
        rw [cut, if_pos few, show s.ims.flash = [] from blank]
        exact Memory.unfinished_of_unloaded (by rw [nothing]; nofun)
      rw [same, nothing]
    · rw [cut, if_neg (by omega), s.header_take enough]
      exact Memory.unfinished_badImage (wf _ _) (Memory.formatCode_writeBytes_start canonical ..)
  · have cut : left = _ := State.stageWritten_records taken stage
    refine ⟨fun c next => leaves (cut.trans ?_), bad cut⟩
    rw [nextRecord_packed next]
  · have cut : left = _ := State.stageWritten_crc taken stage
    exact ⟨leaves cut, bad cut⟩

/-! ## The stages of a save -/

section
variable {s : State} {r : SaveRun} {stage : SaveStage} {act : SaveRun → State → State}

theorem State.onStage_acts (saving : s.ims.saving = some r) (h : r.stage = stage) : s.onStage stage act = act r s := by
  rw [State.onStage, saving]
  exact if_pos h

theorem State.onStage_waits (h : ∀ r, s.ims.saving = some r → r.stage ≠ stage) : s.onStage stage act = s := by
  rw [State.onStage]
  cases saving : s.ims.saving with
  | none => rfl
  | some r => exact if_neg (h r saving)

theorem State.stageDone_fails {f : FlashOutcome} {cause : SaveCause} {taken : Nat} (h : flashFailure f = some (cause, taken)) :
    s.stageDone f r = (s.setFlash (s.stageWritten (some taken) r)).failSave cause r := by
  rw [State.stageDone, h]

theorem State.readBack_fails {f : FlashOutcome} {cause : SaveCause} {taken : Nat} (altered : List Host.Cell)
    (h : flashFailure f = some (cause, taken)) :
    s.readBack f altered r = (s.setFlash (s.stageWritten (some taken) r)).failSave cause r := by
  rw [State.readBack, h]

theorem State.readBack_loads {altered : List Host.Cell} {m : Memory} (h : Memory.writeCells altered (s.stageWritten none r) = m)
    (loaded : m.judge.1 = .loaded) : s.readBack .ok altered r = (s.setFlash m).finishSave r := by
  subst h
  exact if_pos loaded

theorem State.readBack_verifies {altered : List Host.Cell} {m : Memory} (h : Memory.writeCells altered (s.stageWritten none r) = m)
    (unloaded : m.judge.1 ≠ .loaded) : s.readBack .ok altered r = (s.setFlash m).failSave .verify r := by
  subst h
  exact if_neg unloaded

theorem State.stageDone_ok {m : Memory} (h : s.stageWritten none r = m) :
    s.stageDone .ok r = (s.setFlash m).setRun (r.next s.cst.creds.length) := by
  rw [State.stageDone, ← h]
  rfl

theorem exec_saveEraseDone (f : FlashOutcome) : exec (.saveEraseDone f) s = .next (s.onStage .erase (State.stageDone f)) := rfl

theorem exec_saveHeaderDone (f : FlashOutcome) : exec (.saveHeaderDone f) s = .next (s.onStage .header (State.stageDone f)) := rfl

theorem exec_saveRecordWritten (f : FlashOutcome) : exec (.saveRecordWritten f) s = .next (s.onStage .records (State.stageDone f)) := rfl

theorem exec_saveReadbackDone (f : FlashOutcome) (altered : List Host.Cell) :
    exec (.saveReadbackDone f altered) s = .next (s.onStage .crc (State.readBack f altered)) := rfl

theorem exec_saveTimeout (taken : Nat) : exec (.saveTimeout taken) s = .next (s.saveTimeout taken) := rfl

end

theorem stagesWaitTheirTurn_claim : Claims.StagesWaitTheirTurn := by
  intro s f altered taken
  refine ⟨fun h => ?_, fun h => ?_, fun h => ?_, fun h => ?_, fun h => ?_⟩
  · rw [exec_saveEraseDone, State.onStage_waits h]
  · rw [exec_saveHeaderDone, State.onStage_waits h]
  · rw [exec_saveRecordWritten, State.onStage_waits h]
  · rw [exec_saveReadbackDone, State.onStage_waits h]
  · rw [exec_saveTimeout, State.saveTimeout]
    cases saving : s.ims.saving with
    | none => rfl
    | some r => exact congrArg Host.Outcome.next (if_neg fun late => Nat.not_le.mpr (h r saving) (of_decide_eq_true late))

theorem saveFailsWithCause_claim : Claims.SaveFailsWithCause := by
  intro s r taken saving fails
  have failed {c : Instr} {cause : SaveCause} (h : exec c s = .next ((s.setFlash (s.stageWritten (some taken) r)).failSave cause r)) :
      fails c cause := h
  clear_value fails
  have done_ {f : FlashOutcome} {cause : SaveCause} (h : flashFailure f = some (cause, taken)) {stage : SaveStage} (at_ : r.stage = stage) :
      s.onStage stage (State.stageDone f) = (s.setFlash (s.stageWritten (some taken) r)).failSave cause r :=
    (State.onStage_acts saving at_).trans (State.stageDone_fails h)
  refine ⟨fun at_ => ⟨failed ?_, failed ?_⟩, fun at_ => ⟨failed ?_, failed ?_⟩, fun at_ => ⟨failed ?_, failed ?_⟩,
    fun at_ altered => ⟨failed ?_, failed ?_⟩, fun late => failed ?_⟩
  · rw [exec_saveEraseDone, done_ rfl at_]
  · rw [exec_saveEraseDone, done_ rfl at_]
  · rw [exec_saveHeaderDone, done_ rfl at_]
  · rw [exec_saveHeaderDone, done_ rfl at_]
  · rw [exec_saveRecordWritten, done_ rfl at_]
  · rw [exec_saveRecordWritten, done_ rfl at_]
  · rw [exec_saveReadbackDone, State.onStage_acts saving at_, State.readBack_fails altered rfl]
  · rw [exec_saveReadbackDone, State.onStage_acts saving at_, State.readBack_fails altered rfl]
  · rw [exec_saveTimeout, State.saveTimeout, saving]
    exact congrArg Host.Outcome.next (if_pos (decide_eq_true late))

theorem saveStagesProceed_claim : Claims.SaveStagesProceed := by
  intro s r saving store left
  obtain ⟨stage, count, timerEnd⟩ := r
  refine ⟨fun at_ => ?_, fun at_ => ?_, fun c at_ next => ?_, fun at_ altered => ?_⟩
  · obtain rfl := at_
    rw [exec_saveEraseDone, State.onStage_acts saving rfl]
    rfl
  · obtain rfl := at_
    rw [exec_saveHeaderDone, State.onStage_acts saving rfl, State.stageDone_ok (State.stageWritten_whole_header rfl)]
    generalize s.ims.flash.writeBytes 0 s.header = m
    rfl
  · obtain rfl := at_
    rw [exec_saveRecordWritten, State.onStage_acts saving rfl, State.stageDone_ok (State.stageWritten_whole_records rfl next)]
    dsimp only
    generalize s.ims.flash.writeBytes (416 + 27 * count) c.packed = m
    rfl
  · obtain rfl := at_
    rw [exec_saveReadbackDone, State.onStage_acts saving rfl]
    have whole := congrArg (Memory.writeCells altered) (State.stageWritten_whole_crc (s := s) (r := ⟨.crc, count, timerEnd⟩) rfl)
    refine ⟨fun loaded => ?_, fun unloaded => ?_⟩
    · rw [State.readBack_loads whole loaded]
      rfl
    · rw [State.readBack_verifies whole unloaded]
      rfl

/-- Settles O52: each stage writes its bytes; a failure or a cut leaves the first of them, and no good image. -/
theorem saveProceedsOrFails : Obligations.SaveProceedsOrFails :=
  ⟨saveStagesProceed_claim, saveFailsWithCause_claim, cutSaveLeavesNoImage_claim, stagesWaitTheirTurn_claim⟩

end Sys2Proof.Machine

/-! The vote filter and the stuck test of a lane beam, and what a valid frame posts and hands on of its beams (R10 to R14). -/

namespace Sys2Proof.Machine

/-! ## One beam (R11, R12) -/

theorem Beam.vote_agrees {v : Nat} {raw : Bool} {b : Beam} (h : raw = b.occluded) : b.vote v raw = { b with counter := 0 } := if_pos h

theorem Beam.vote_counts {v : Nat} {raw : Bool} {b : Beam} (differs : raw ≠ b.occluded) (few : b.counter + 1 < v) :
    b.vote v raw = { b with counter := b.counter + 1 } := (if_neg differs).trans (if_neg (by omega))

theorem Beam.vote_follows {v : Nat} {raw : Bool} {b : Beam} (differs : raw ≠ b.occluded) (enough : v ≤ b.counter + 1) :
    b.vote v raw = { b with occluded := raw, counter := 0 } := (if_neg differs).trans (if_pos enough)

theorem Beam.vote_counter_lt {v : Nat} {b : Beam} (raw : Bool) (positive : 0 < v) : (b.vote v raw).counter < v := by
  by_cases agrees : raw = b.occluded
  · rw [Beam.vote_agrees agrees]
    exact positive
  · by_cases enough : v ≤ b.counter + 1
    · rw [Beam.vote_follows agrees enough]
      exact positive
    · rw [Beam.vote_counts agrees (by omega)]
      exact Nat.lt_of_not_le enough

theorem Beam.stuckTest_timer (now stuckTime : Nat) (b : Beam) :
    (b.stuckTest now stuckTime).timer = if b.occluded then some (b.timer.getD now) else none := rfl

/-- The mark of a beam after the stuck test: occluded, and marked before or its timer the stuck time old. -/
theorem Beam.stuckTest_stuck (now stuckTime : Nat) (b : Beam) :
    (b.stuckTest now stuckTime).stuck = (b.occluded && (b.stuck || decide (stuckTime * 1000 ≤ now - b.timer.getD now))) := by
  obtain ⟨occluded, counter, timer, stuck⟩ := b
  cases occluded with
  | false => rfl
  | true => cases stuck <;> rfl

theorem stuckTestMarksBeams_claim : Claims.StuckTestMarksBeams := by
  intro now stuckTime b r
  have timer : r.timer = _ := Beam.stuckTest_timer now stuckTime b
  have stuck : r.stuck = _ := Beam.stuckTest_stuck now stuckTime b
  rw [timer, stuck]
  refine ⟨fun clear => ?_, fun occluded idle => ?_, fun start occluded runs => ?_, fun occluded marked => ?_,
    fun start occluded runs unmarked => ?_, fun occluded idle unmarked positive => ?_⟩
  · rw [clear]
    exact ⟨rfl, rfl⟩
  · rw [occluded, idle]
    rfl
  · rw [occluded, runs]
    rfl
  · rw [occluded, marked]
    rfl
  · rw [occluded, runs, unmarked]
    exact decide_eq_true_iff
  · rw [occluded, idle, unmarked]
    exact decide_eq_false (show ¬stuckTime * 1000 ≤ now - now by omega)

/-! ## The beams of a frame -/

theorem validFrame_lane (e : Env) (chain : List (Option BarAnswer)) (w : Work) :
    (validFrame e chain w).lane =
      { w.lane with
        bsu :=
          { w.lane.bsu with
            beams := filterBeams e.now w.lane.timing (w.lane.geo.laneAnswers (answering chain)) w.lane.bsu.beams
            chainFault := false
            answered := (answering chain).length
            faulting := []
            result :=
              w.lane.geo.frameResult (filterBeams e.now w.lane.timing (w.lane.geo.laneAnswers (answering chain)) w.lane.bsu.beams)
            read := .idle } } := by
  unfold validFrame
  split <;> rfl

theorem faultyFrame_lane (chain : List (Option BarAnswer)) (w : Work) :
    (faultyFrame chain w).lane =
      { w.lane with
        bsu :=
          { w.lane.bsu with
            chainFault := true
            answered := (answering chain).length
            faulting := faultingBars chain
            result := { w.lane.bsu.result with valid := false }
            read := .idle } } := by
  unfold faultyFrame
  split <;> rfl

theorem voteFilterFollowsAfterV_claim : Claims.VoteFilterFollowsAfterV := by
  refine ⟨fun v raw b => ⟨Beam.vote_agrees, Beam.vote_counts, Beam.vote_follows, fun positive _ => Beam.vote_counter_lt raw positive⟩,
    fun e chain w => ⟨?_, ?_, fun b => ⟨rfl, rfl⟩⟩⟩
  · rw [validFrame_lane]
    rfl
  · rw [faultyFrame_lane]

/-! ## What a valid frame posts (R10, R12) -/

theorem stuckNotice_eq (j : Nat) (before after : Beam) :
    stuckNotice j before after =
      if after.stuck && !before.stuck then [.beamStuck j] else if before.stuck && !after.stuck then [.beamCleared j] else [] := by
  unfold stuckNotice
  cases before.stuck <;> cases after.stuck <;> rfl

theorem stuckNotices_eq (before after : List Beam) :
    stuckNotices before after =
      (before.zip after).zipIdx.flatMap fun x =>
        if x.1.2.stuck && !x.1.1.stuck then [.beamStuck x.2] else if x.1.1.stuck && !x.1.2.stuck then [.beamCleared x.2] else [] := by
  unfold stuckNotices
  simp only [stuckNotice_eq]
  rfl

theorem validFrame_out (e : Env) (chain : List (Option BarAnswer)) (w : Work) :
    (validFrame e chain w).out = w.out ++ stuckNotices w.lane.bsu.beams (validFrame e chain w).lane.bsu.beams
      ++ (if w.lane.bsu.chainFault then [.chainRestored] else []) := by
  rw [validFrame_lane]
  unfold validFrame
  split
  · rfl
  · exact (List.append_nil _).symm

theorem Geometry.inGuard_iff (g : Geometry) (j : Nat) : g.inGuard j = true ↔ g.f ≤ j + g.sz ∧ j < g.f + g.sz := by
  rw [Geometry.inGuard, Bool.and_eq_true, decide_eq_true_iff, decide_eq_true_iff]

theorem Geometry.guardHit_iff (g : Geometry) (v : List Bool) :
    g.guardHit v = true ↔ ∃ j, v[j]? = some true ∧ g.f ≤ j + g.sz ∧ j < g.f + g.sz := by
  rw [Geometry.guardHit, List.any_eq_true]
  constructor
  · rintro ⟨⟨hit, j⟩, at_, both⟩
    obtain ⟨rfl, inside⟩ := (Bool.and_eq_true ..).mp both
    exact ⟨j, List.mem_zipIdx_iff_getElem?.mp at_, (g.inGuard_iff j).mp inside⟩
  · rintro ⟨j, at_, inside⟩
    exact ⟨(true, j), List.mem_zipIdx_iff_getElem?.mpr at_, (g.inGuard_iff j).mpr inside⟩

theorem validFrameReportsBeams_claim : Claims.ValidFrameReportsBeams := by
  intro e chain w r g vector
  have result : r.lane.bsu.result = g.frameResult r.lane.bsu.beams := by
    show (validFrame e chain w).lane.bsu.result = g.frameResult (validFrame e chain w).lane.bsu.beams
    rw [validFrame_lane]
  refine ⟨?_, ?_, ?_, ?_⟩
  · rw [← stuckNotices_eq]
    exact validFrame_out e chain w
  · rw [result]
    rfl
  · rw [result]
    rfl
  · rw [result]
    exact g.guardHit_iff vector

/-- Settles O10: one beam through the vote filter and the stuck test, then the notices and the frame result of a valid frame. -/
theorem voteFilterFollowsAfterV : Obligations.VoteFilterFollowsAfterV :=
  ⟨voteFilterFollowsAfterV_claim, stuckTestMarksBeams_claim, validFrameReportsBeams_claim⟩

end Sys2Proof.Machine

/-! What the units behind the tracker leave of a lane at its frame event, and the faulty frame (R9, R10, R13, R48, R76, R84, R112). -/

namespace Sys2Proof.Machine

/-! ## The SENSOR condition as handed on -/

/-- The sensor mark and the SENSOR condition kind stay. -/
def Work.sensorFrame (w v : Work) : Prop :=
  v.lane.lsv.sensorMark = w.lane.lsv.sensorMark ∧ v.lane.lsv.alarms.sensor = w.lane.lsv.alarms.sensor

theorem Work.sensorFrame.refl (w : Work) : w.sensorFrame w := ⟨rfl, rfl⟩

theorem Work.sensorFrame.trans {a b c : Work} (h : a.sensorFrame b) (g : b.sensorFrame c) : a.sensorFrame c :=
  ⟨g.1.trans h.1, g.2.trans h.2⟩

theorem evalShut_sensorFrame (e : Env) (w : Work) : w.sensorFrame (evalShut e w) := by
  rcases evalShut_cases e w with ⟨last, risk, lobby, secure, same⟩ | same | same
  · rw [same]
    exact ⟨rfl, rfl⟩
  · rw [same, Work.mod, LaneState.shuttingAt_eq]
    exact ⟨rfl, rfl⟩
  · rw [same, Work.takes, LaneState.shutAt_eq]
    exact ⟨rfl, rfl⟩

theorem Work.openingAt_sensorFrame (now : Nat) (w : Work) : w.sensorFrame (w.mod (LaneState.openingAt now)) := by
  rw [Work.mod, LaneState.openingAt_eq]
  exact ⟨rfl, rfl⟩

theorem Work.openedAtOnce_sensorFrame (now : Nat) (w : Work) : w.sensorFrame (w.mod (LaneState.openedAtOnce now)) := by
  rw [Work.mod, LaneState.openedAtOnce_eq]
  exact ⟨rfl, rfl⟩

theorem beginOpening_sensorFrame (e : Env) (w : Work) : w.sensorFrame (beginOpening e w) := by
  cases limit : w.lane.bc.openLimit with
  | false =>
    rw [beginOpening_of_limit_off limit]
    exact w.openingAt_sensorFrame e.now
  | true =>
    rw [beginOpening_of_limit_on limit]
    exact (w.openedAtOnce_sensorFrame e.now).trans (evalShut_sensorFrame e _)

theorem evalOpen_sensorFrame (e : Env) (w : Work) : w.sensorFrame (evalOpen e w) := by
  unfold evalOpen
  split
  · exact .refl w
  · split
    · split
      · exact beginOpening_sensorFrame e w
      · exact .refl w
    · split
      · exact beginOpening_sensorFrame e w
      · exact .refl w
    all_goals exact .refl w

theorem append_sensorFrame {e : Env} {r : AppendReq} {w w' : Work} {n : Nat} {st : PermitState} (h : append e r w = .accepted w' n st) :
    w.sensorFrame w' := by
  obtain ⟨-, -, rfl, -, -⟩ := append_accepted_inv h
  have queued : w.sensorFrame (w.mod (LaneState.queuePermit e.now r)) := ⟨rfl, rfl⟩
  split
  · exact queued.trans (evalOpen_sensorFrame e _)
  · exact queued

theorem serveFree_sensorFrame (e : Env) (d : Direction) (n : Nat) (w : Work) : w.sensorFrame (serveFree e d n w) := by
  induction n generalizing w with
  | zero => exact .refl w
  | succ n ih =>
    unfold serveFree
    split
    next accepted => exact (append_sensorFrame accepted).trans (ih _)
    · exact .refl w
    · exact .refl w

theorem foldl_serveDirection_sensorFrame (e : Env) (ds : List Direction) (w : Work) : w.sensorFrame (ds.foldl (serveDirection e) w) := by
  induction ds generalizing w with
  | nil => exact .refl w
  | cons d ds ih =>
    refine Work.sensorFrame.trans ?_ (ih _)
    unfold serveDirection
    split
    · exact serveFree_sensorFrame ..
    · exact .refl w

theorem freeService_sensorFrame (e : Env) (w : Work) : w.sensorFrame (freeService e w) := by
  unfold freeService
  split
  · exact foldl_serveDirection_sensorFrame ..
  · exact .refl w

/-! ## What the claim, the pending mode and the Barrier Controller leave -/

/-- What stays of a lane behind its tracker: all that the Beam Scan Unit and the tracker hold, and the SENSOR condition. -/
structure Work.Carries (w v : Work) : Prop where
  geo : v.lane.geo = w.lane.geo
  timing : v.lane.timing = w.lane.timing
  bsu : v.lane.bsu = w.lane.bsu
  ot : v.lane.ot = w.lane.ot
  reported : v.lane.reported = w.lane.reported
  creds : v.creds = w.creds
  posts : w.postsOn v
  sensor : w.sensorFrame v

theorem Work.Carries.refl (w : Work) : w.Carries w := ⟨rfl, rfl, rfl, rfl, rfl, rfl, .refl w, .refl w⟩

theorem Work.Carries.trans {a b c : Work} (h : a.Carries b) (g : b.Carries c) : a.Carries c :=
  ⟨g.geo.trans h.geo, g.timing.trans h.timing, g.bsu.trans h.bsu, g.ot.trans h.ot, g.reported.trans h.reported, g.creds.trans h.creds,
    h.posts.trans g.posts, h.sensor.trans g.sensor⟩

theorem Work.Carries.emit {w v : Work} (h : w.Carries v) (b : NoticeBody) : w.Carries (v.emit b) :=
  { h with posts := h.posts.emit b }

theorem Work.Carries.of_barrierFrame {w v : Work} (frame : w.barrierFrame v) (posts : w.postsOn v) (sensor : w.sensorFrame v) : w.Carries v := by
  obtain ⟨geo, timing, bsu, ot, -, -, -, -, -, -, reported, creds⟩ := frame
  exact ⟨geo, timing, bsu, ot, reported, creds, posts, sensor⟩

theorem evalShut_carries (e : Env) (w : Work) : w.Carries (evalShut e w) :=
  .of_barrierFrame (evalShut_frame e w) (evalShut_postsOn e w) (evalShut_sensorFrame e w)

theorem beginOpening_carries (e : Env) (w : Work) : w.Carries (beginOpening e w) :=
  .of_barrierFrame (beginOpening_frame e w) (beginOpening_postsOn e w) (beginOpening_sensorFrame e w)

theorem evalOpen_carries (e : Env) (w : Work) : w.Carries (evalOpen e w) :=
  .of_barrierFrame (evalOpen_frame e w) (evalOpen_postsOn e w) (evalOpen_sensorFrame e w)

theorem freeService_carries (e : Env) (w : Work) : w.Carries (freeService e w) := by
  obtain ⟨-, -, geo, timing, bsu, ot, reported, -, -, creds, posts⟩ := freeService_serves e w
  exact ⟨geo, timing, bsu, ot, reported, creds, posts, freeService_sensorFrame e w⟩

theorem claimFrame_carries (e : Env) (w : Work) : w.Carries (claimFrame e w) := by
  have noted : w.Carries (w.mod fun l => l.modPq fun q => { q with claim := w.lane.claimNow, frameClaim := w.lane.claimNow }) :=
    ⟨rfl, rfl, rfl, rfl, rfl, rfl, .refl w, rfl, rfl⟩
  unfold claimFrame
  dsimp only
  split
  · exact noted.trans (freeService_carries e _)
  · exact noted

theorem pendingFrame_carries (w : Work) : w.Carries (pendingFrame w) := by
  unfold pendingFrame
  split
  · exact .refl w
  next m _ =>
    have applied : w.Carries (w.mod (LaneState.applyMode m.mode m.policy)) := ⟨rfl, rfl, rfl, rfl, rfl, rfl, .refl w, rfl, rfl⟩
    split
    · exact applied.emit _
    · exact .refl w

theorem Work.countReversal_sensorFrame (w : Work) : w.sensorFrame (w.mod LaneState.countReversal) := by
  rw [Work.sensorFrame, Work.mod_lane, LaneState.countReversal]
  split <;> exact ⟨rfl, rfl⟩

theorem countedReversal_sensorFrame (e : Env) (cause : ReversalCause) (w : Work) : w.sensorFrame (countedReversal e cause w) := by
  have begun := w.countReversal_sensorFrame.trans (beginOpening_sensorFrame e _)
  rw [Work.sensorFrame, (countedReversal_begins e cause w).1]
  exact begun

theorem countedReversal_postsOn (e : Env) (cause : ReversalCause) (w : Work) : w.postsOn (countedReversal e cause w) := by
  have begun : w.postsOn (beginOpening e (w.mod LaneState.countReversal)) := beginOpening_postsOn e (w.mod LaneState.countReversal)
  unfold countedReversal
  dsimp only
  rw [countedReversal_counts]
  exact .ite ((begun.emit _).emit _) (begun.emit _)

theorem actOnFrame_sensorFrame (e : Env) (w : Work) : w.sensorFrame (actOnFrame e w) := by
  unfold actOnFrame
  split
  · split
    · exact countedReversal_sensorFrame ..
    · split
      · exact beginOpening_sensorFrame ..
      · exact evalOpen_sensorFrame ..
  · exact evalOpen_sensorFrame ..
  · exact evalShut_sensorFrame ..
  all_goals exact .refl w

theorem actOnFrame_postsOn (e : Env) (w : Work) : w.postsOn (actOnFrame e w) := by
  unfold actOnFrame
  split
  · exact .ite (countedReversal_postsOn ..) (.ite (beginOpening_postsOn ..) (evalOpen_postsOn ..))
  · exact evalOpen_postsOn ..
  · exact evalShut_postsOn ..
  all_goals exact .refl w

theorem barrierFrame_carries (e : Env) (w : Work) : w.Carries (barrierFrame e w) := by
  have posture : w.Carries (w.mod LaneState.takePosture) := ⟨rfl, rfl, rfl, rfl, rfl, rfl, .refl w, rfl, rfl⟩
  exact posture.trans (.of_barrierFrame (actOnFrame_frame e _) (actOnFrame_postsOn e _) (actOnFrame_sensorFrame e _))

/-! ## No shut motion survives the SENSOR condition (R75, R76, R84) -/

theorem evalShut_of_sensor {e : Env} {w : Work} (sensor : w.lane.sensor = true) : (evalShut e w).lane.bc.state = w.lane.bc.state := by
  obtain ⟨last, risk, lobby, secure, same⟩ := evalShut_rests (e := e) (w := w)
    (.inr (.inr (.inl (LaneState.keptOpen.failedPoints (.inr (.inr sensor))))))
  rw [same]
  rfl

theorem beginOpening_of_sensor {e : Env} {w : Work} (sensor : w.lane.sensor = true) : (beginOpening e w).lane.bc.state ≠ .shutting := by
  cases limit : w.lane.bc.openLimit with
  | false =>
    rw [beginOpening_of_limit_off limit, Work.mod_lane, LaneState.openingAt_eq]
    nofun
  | true =>
    have kept : (w.mod (LaneState.openedAtOnce e.now)).lane.sensor = true := by
      rw [Work.mod_lane, LaneState.openedAtOnce_eq]
      exact sensor
    have stays := evalShut_of_sensor (e := e) kept
    rw [beginOpening_of_limit_on limit]
    refine fun shutting => absurd (stays.symm.trans shutting) ?_
    rw [Work.mod_lane, LaneState.openedAtOnce_eq]
    nofun

theorem evalOpen_of_sensor {e : Env} {w : Work} (sensor : w.lane.sensor = true) (still : w.lane.bc.state ≠ .shutting) :
    (evalOpen e w).lane.bc.state ≠ .shutting := by
  unfold evalOpen
  split
  · exact still
  · split
    · split
      · exact beginOpening_of_sensor sensor
      · exact still
    next moving => exact absurd moving still
    all_goals exact still

theorem actOnFrame_of_sensor {e : Env} {w : Work} (sensor : w.lane.sensor = true) : (actOnFrame e w).lane.bc.state ≠ .shutting := by
  have counted : (w.mod LaneState.countReversal).lane.sensor = true := by
    obtain ⟨-, -, bsu, -⟩ := LaneState.countReversal_barrierFrame w
    rw [LaneState.sensor, bsu]
    exact sensor
  unfold actOnFrame
  split
  · split
    · rw [(countedReversal_begins e _ w).1]
      exact beginOpening_of_sensor counted
    · exact beginOpening_of_sensor sensor
  next shut => exact evalOpen_of_sensor sensor (by rw [shut]; nofun)
  next opened =>
    rw [evalShut_of_sensor sensor, opened]
    nofun
  next opening => rw [opening]; nofun
  next stalled => rw [stalled]; nofun

/-! ## The frame event of a lane -/

/-- The units behind the tracker at a frame event (R48, R76, R112). -/
def frameTail (e : Env) (w : Work) : Work := barrierFrame e (pendingFrame (claimFrame e w))

theorem frameTail_carries (e : Env) (w : Work) : w.Carries (frameTail e w) :=
  ((claimFrame_carries e w).trans (pendingFrame_carries _)).trans (barrierFrame_carries e _)

theorem frameTail_of_sensor {e : Env} {w : Work} (sensor : w.lane.sensor = true) : (frameTail e w).lane.bc.state ≠ .shutting := by
  have carried := (claimFrame_carries e w).trans (pendingFrame_carries _)
  refine actOnFrame_of_sensor ?_
  show (pendingFrame (claimFrame e w)).lane.sensor = true
  rw [LaneState.sensor, carried.bsu]
  exact sensor

theorem judgeSensor_eq (w : Work) :
    judgeSensor w = w.takes w.lane.withCauses.handSensor (healthNotices w.lane w.lane.withCauses.handSensor) :=
  Work.withHealth_takes (f := fun v => v.mod fun l => l.withCauses.handSensor) (w.mod_eq_takes _)

theorem exec_chainReadComplete (k : Lane) (chain : List (Option BarAnswer)) (order : FrameOrder) (s : State) :
    exec (.chainReadComplete k chain order) s = .next ((s.runLane k fun e w => frameEvent e chain order w).refresh k) := rfl

theorem Geometry.faulty_iff (g : Geometry) (chain : List (Option BarAnswer)) :
    g.faulty chain = true ↔ (answering chain).length ≠ g.bars ∨ ∃ b, some b ∈ chain ∧ b.emitterFault = true := by
  have fault : ((answering chain).any fun b => b.emitterFault) = true ↔ ∃ b, some b ∈ chain ∧ b.emitterFault = true := by
    rw [List.any_eq_true]
    exact exists_congr fun b => and_congr_left' (by simp [answering])
  rw [Geometry.faulty, Bool.or_eq_true, decide_eq_true_iff, fault]

theorem Geometry.faulty_eq_false {g : Geometry} {chain : List (Option BarAnswer)} (count : (answering chain).length = g.bars)
    (sound : ∀ b, some b ∈ chain → b.emitterFault = false) : g.faulty chain = false := by
  rw [← Bool.not_eq_true, g.faulty_iff]
  rintro (other | ⟨b, inside, faults⟩)
  · exact other count
  · exact Bool.false_ne_true ((sound b inside).symm.trans faults)

theorem scanFrame_faulty {e : Env} {chain : List (Option BarAnswer)} {w : Work} (h : w.lane.geo.faulty chain = true) :
    scanFrame e chain w = judgeSensor (faultyFrame chain w) := congrArg judgeSensor (if_pos h)

theorem scanFrame_valid {e : Env} {chain : List (Option BarAnswer)} {w : Work} (h : w.lane.geo.faulty chain = false) :
    scanFrame e chain w = judgeSensor (validFrame e chain w) := congrArg judgeSensor (if_neg (by rw [h]; exact Bool.false_ne_true))

theorem trackerFrame_invalid {e : Env} {order : FrameOrder} {w : Work} (h : w.lane.bsu.result.valid = false) : trackerFrame e order w = w :=
  if_neg (by rw [h]; exact Bool.false_ne_true)

theorem faultingBars_eq (chain : List (Option BarAnswer)) :
    faultingBars chain = chain.zipIdx.filterMap fun x =>
      match x.1 with
      | some b => if b.emitterFault then some x.2 else none
      | none => none := by
  unfold faultingBars
  congr 1
  funext ⟨bar, i⟩
  cases bar <;> rfl

/-- What a faulty frame leaves when the SENSOR condition has been judged. -/
theorem faultyScan (chain : List (Option BarAnswer)) (w : Work) :
    let l := (judgeSensor (faultyFrame chain w)).lane
    l.geo = w.lane.geo ∧ l.timing = w.lane.timing ∧ l.ot = w.lane.ot ∧ l.bsu.beams = w.lane.bsu.beams ∧ l.bsu.chainFault = true
      ∧ l.bsu.answered = (answering chain).length ∧ l.bsu.faulting = faultingBars chain ∧ l.bsu.read = .idle
      ∧ l.bsu.result = { w.lane.bsu.result with valid := false } ∧ l.bsu.frameTimer = w.lane.bsu.frameTimer ∧ l.sensor = true
      ∧ l.lsv.sensorMark = true ∧ l.lsv.alarms.sensor.active = true := by
  rw [judgeSensor_eq, faultyFrame_lane]
  exact ⟨rfl, rfl, rfl, rfl, rfl, rfl, rfl, rfl, rfl, rfl, rfl, rfl, rfl⟩

theorem faultyFrame_creds (chain : List (Option BarAnswer)) (w : Work) : (judgeSensor (faultyFrame chain w)).creds = w.creds := by
  rw [judgeSensor_eq]
  unfold faultyFrame
  dsimp only
  split <;> rfl

theorem faultyFrame_out {chain : List (Option BarAnswer)} {w : Work} (ok : w.lane.bsu.chainFault = false) (silent : w.out = []) :
    ∃ rest, (judgeSensor (faultyFrame chain w)).out
      = .chainFault (answering chain).length w.lane.geo.bars (faultingBars chain) :: rest := by
  have out : (faultyFrame chain w).out = [.chainFault (answering chain).length w.lane.geo.bars (faultingBars chain)] := by
    unfold faultyFrame
    dsimp only
    rw [if_neg (by rw [ok]; exact Bool.false_ne_true)]
    show w.out ++ _ = _
    rw [silent]
    rfl
  rw [judgeSensor_eq]
  exact ⟨_, by rw [Work.takes, out]; rfl⟩

/-- Settles O8: the faulty scan passes the tracker by, and the units behind it keep what it left. -/
theorem faultyFrameKeepsTracks : Obligations.FaultyFrameKeepsTracks := by
  intro k chain order s reading faulty faulting
  have bars : faulting = faultingBars chain := (faultingBars_eq chain).symm
  obtain ⟨geo, timing, ot, beams, fault, answered, listed, idle, result, timer, sensor, mark, alarm⟩ := faultyScan chain (s.work k)
  have scanned : scanFrame (s.env k) chain (s.work k) = judgeSensor (faultyFrame chain (s.work k)) :=
    scanFrame_faulty (((s.lane k).geo.faulty_iff chain).mpr faulty)
  have creds := faultyFrame_creds chain (s.work k)
  have out := faultyFrame_out (chain := chain) (w := s.work k)
  have ran : frameEvent (s.env k) chain order (s.work k)
      = (frameTail (s.env k) (judgeSensor (faultyFrame chain (s.work k)))).mod LaneState.recordTracks := by
    rw [frameEvent_of_reading (w := s.work k) reading, scanned, trackerFrame_invalid (by rw [result])]
    rfl
  generalize judgeSensor (faultyFrame chain (s.work k)) = w at *
  have still := frameTail_of_sensor (e := s.env k) sensor
  obtain ⟨geo', timing', bsu', ot', -, creds', posts, markFrame, alarmFrame⟩ := frameTail_carries (s.env k) w
  generalize frameTail (s.env k) w = v at *
  have event := State.next_of_runLane (f := fun e w => frameEvent e chain order w) ran (creds'.trans creds)
  have scan {α : Type} (f : Bsu → α) : f v.lane.bsu = f w.lane.bsu := congrArg f bsu'
  refine ⟨_, _, event, geo'.trans geo, timing'.trans timing, ot'.trans ot, (scan _).trans beams, ?_, (scan _).trans fault,
    (scan _).trans answered, ?_, (scan _).trans idle, (scan _).trans result, (scan _).trans timer, markFrame.trans mark,
    (congrArg ConditionAlarm.active alarmFrame).trans alarm, still, fun ok => ?_⟩
  · show TrackReport.mk v.lane.geo v.lane.ot.untracked v.lane.ot.shadows v.lane.ot.tracks = _
    rw [geo', ot', geo, ot]
    rfl
  · rw [bars]
    exact (scan _).trans listed
  · obtain ⟨rest, posted⟩ := out ok rfl
    obtain ⟨more, prefixed⟩ := posts
    rw [bars]
    show v.out.head? = _
    rw [← prefixed, posted]
    rfl

end Sys2Proof.Machine

/-! Start-up, lane by lane: what a lane becomes, and what START and the lanes post (R88, R116, R124, R194, R195). -/

namespace Sys2Proof.Machine

/-! ## One lane completes start-up -/

/-- The lane with its start mode applied, unless it is DARK (R124). -/
def LaneState.startModed (l : LaneState) : LaneState :=
  if l.lsv.startMode = .dark then l
  else (if l.lsv.startMode = .lockdown then l.cancelled else l).applyMode l.lsv.startMode l.lsv.startPolicy

/-- The lane as it samples the EGRESS line (R116). -/
def LaneState.sampled (now : Nat) (line : Bool) (l : LaneState) : LaneState :=
  if line = true ∧ l.lsv.mode ≠ .egress then l.egressAt now else l

/-- The lane as start-up leaves it, its outputs aside (R194). -/
def LaneState.startUp (now : Nat) (line : Bool) (l : LaneState) : LaneState :=
  ((l.readPosition.startModed).sampled now line).startFrames now

theorem reportPosition_lane (w : Work) : (reportPosition w).lane = w.lane.readPosition ∧ (reportPosition w).creds = w.creds := by
  unfold reportPosition
  dsimp only
  split <;> exact ⟨rfl, rfl⟩

theorem applyStart_lane (w : Work) : (applyStart w).lane = w.lane.startModed ∧ (applyStart w).creds = w.creds := by
  unfold applyStart LaneState.startModed
  dsimp only
  split
  · exact ⟨rfl, rfl⟩
  · split
    · rw [cancelAll_eq]
      exact ⟨rfl, rfl⟩
    · exact ⟨rfl, rfl⟩

/-- A lane samples the EGRESS line (R116). -/
def State.sampleLine (k : Lane) (s : State) : State := if s.egressLine then s.egressLane k else s

/-- A lane without referrals samples the line: the other lanes, the slots, and the part beside lanes and slots, stay. -/
theorem State.sampleLine_effect {s : State} (k : Lane) (idle : s.rfu.slots = []) :
    (s.sampleLine k).lane k = (s.lane k).sampled s.tmb.ms s.egressLine ∧ (∀ j, j ≠ k → (s.sampleLine k).lane j = s.lane j)
      ∧ (s.sampleLine k).rfu = s.rfu ∧ s.samePart (s.sampleLine k) := by
  have stays (h : s.sampleLine k = s) (off : ¬(s.egressLine = true ∧ (s.lane k).lsv.mode ≠ .egress)) :
      (s.sampleLine k).lane k = (s.lane k).sampled s.tmb.ms s.egressLine ∧ (∀ j, j ≠ k → (s.sampleLine k).lane j = s.lane j)
        ∧ (s.sampleLine k).rfu = s.rfu ∧ s.samePart (s.sampleLine k) := by
    rw [h, LaneState.sampled, if_neg off]
    exact ⟨rfl, fun _ _ => rfl, rfl, .refl s⟩
  by_cases line : s.egressLine = true
  · by_cases mode : (s.lane k).lsv.mode = .egress
    · exact stays ((if_pos line).trans (if_pos mode)) fun both => both.2 mode
    · obtain ⟨lane, others, slots, part⟩ := State.egressLane_of_other mode
      have taken : s.sampleLine k = s.egressLane k := if_pos line
      rw [taken, LaneState.sampled, if_pos ⟨line, mode⟩]
      refine ⟨lane, others, slots.trans ?_, part⟩
      rw [idle]
      exact congrArg (fun xs => ({ s.rfu with slots := xs } : Rfu)) idle.symm
  · exact stays (if_neg line) fun both => line both.1

theorem State.startLane_effect {s : State} (k : Lane) (idle : s.rfu.slots = []) :
    (s.startLane k).lane k = (s.lane k).startUp s.tmb.ms s.egressLine ∧ (∀ j, j ≠ k → (s.startLane k).lane j = s.lane j)
      ∧ (s.startLane k).rfu = s.rfu ∧ s.samePart (s.startLane k) := by
  obtain ⟨reported, creds⟩ := reportPosition_lane (s.work k)
  obtain ⟨applied, creds'⟩ := applyStart_lane (reportPosition (s.work k))
  obtain ⟨lane, others, slots, part⟩ := State.runLane_frame (s := s) (k := k) (f := fun _ w => applyStart (reportPosition w))
    (l := (s.lane k).readPosition.startModed) ⟨applied.trans (congrArg _ reported), creds'.trans creds⟩
  have event : s.startLane k
      = ((s.runLane k fun _ w => applyStart (reportPosition w)).sampleLine k).modLane k (LaneState.startFrames s.tmb.ms) := rfl
  rw [event]
  generalize s.runLane k (fun _ w => applyStart (reportPosition w)) = a at *
  obtain ⟨lane', others', slots', part'⟩ := a.sampleLine_effect k (by rw [slots, idle])
  obtain ⟨-, -, -, -, -, tmb, -, line, -, -⟩ := id part
  rw [lane, tmb, line] at lane'
  generalize a.sampleLine k = b at *
  refine ⟨?_, fun j other => ?_, ?_, (part.trans part').trans (b.modLane_samePart k _)⟩
  · rw [State.modLane_lane, lane']
    rfl
  · rw [State.modLane_lane_of_ne _ _ other, others' j other, others j other]
  · rw [State.modLane_rfu, slots', slots]

/-! ## Every lane in turn -/

/-- How far start-up has come, over the lanes in `done`. -/
structure State.starting (s t : State) (done : List Lane) : Prop where
  lane : ∀ k, t.lane k = if k ∈ done then (s.lane k).startUp s.tmb.ms s.egressLine else s.lane k
  slots : t.rfu = s.rfu
  part : s.samePart t

theorem State.starting.start (s : State) : s.starting s [] := ⟨fun _ => (if_neg List.not_mem_nil).symm, rfl, .refl s⟩

theorem State.starting.startLane {s t : State} {done : List Lane} (h : s.starting t done) (idle : s.rfu.slots = []) {k : Lane}
    (waiting : k ∉ done) : s.starting (t.startLane k) (k :: done) := by
  obtain ⟨lane, slots, part⟩ := h
  obtain ⟨lane', others, slots', part'⟩ := t.startLane_effect k (by rw [slots, idle])
  obtain ⟨-, -, -, -, -, tmb, -, line, -, -⟩ := id part
  refine ⟨fun j => ?_, slots'.trans slots, part.trans part'⟩
  by_cases same : j = k
  · subst same
    rw [lane', lane, if_neg waiting, if_pos List.mem_cons_self, tmb, line]
  · rw [others j same, lane]
    simp only [List.mem_cons, same, false_or]

theorem State.starting.foldl {s t : State} {done : List Lane} (h : s.starting t done) (idle : s.rfu.slots = []) (ks : List Lane)
    (distinct : ks.Nodup) (waiting : ∀ j ∈ ks, j ∉ done) : s.starting (ks.foldl State.startLane t) (ks.reverse ++ done) := by
  induction ks generalizing t done with
  | nil => exact h
  | cons k ks ih =>
    obtain ⟨once, distinct'⟩ := List.nodup_cons.mp distinct
    rw [List.foldl_cons, List.reverse_cons, List.append_assoc]
    refine ih (h.startLane idle (waiting k List.mem_cons_self)) distinct' fun j mem => ?_
    rw [List.singleton_append, List.mem_cons, not_or]
    exact ⟨fun same => once (same ▸ mem), waiting j (List.mem_cons_of_mem k mem)⟩

theorem nodup_eraseDups {α : Type} [BEq α] [LawfulBEq α] (xs : List α) : xs.eraseDups.Nodup := by
  match xs with
  | [] => exact List.nodup_nil
  | x :: xs =>
    have fewer : (xs.filter fun y => !y == x).length ≤ xs.length := List.length_filter_le ..
    rw [List.eraseDups_cons, List.nodup_cons]
    exact ⟨by simp [List.mem_eraseDups], nodup_eraseDups _⟩
  termination_by xs.length

theorem fullOrder_nodup (order : List Lane) : (fullOrder order).Nodup := nodup_eraseDups _

/-- Start-up over every lane, outputs included. -/
theorem State.startLanes_effect {s : State} (order : List Lane) (idle : s.rfu.slots = []) :
    let t := ((fullOrder order).foldl State.startLane s).refreshAll
    (∀ k, t.lane k = ((s.lane k).startUp s.tmb.ms s.egressLine).withOutputs s.rfu.slots k) ∧ t.rfu = s.rfu ∧ s.samePart t := by
  obtain ⟨lane, slots, part⟩ := (State.starting.start s).foldl idle (fullOrder order) (fullOrder_nodup order) fun _ _ => List.not_mem_nil
  generalize (fullOrder order).foldl State.startLane s = u at *
  refine ⟨fun k => ?_, ((u.refreshAll_lane 0).2).trans slots, part.trans u.refreshAll_samePart⟩
  rw [(u.refreshAll_lane k).1, slots, lane, if_pos]
  exact List.mem_append_left _ (List.mem_reverse.mpr (mem_fullOrder order k))

end Sys2Proof.Machine

/-! Full reset and start-up: the notices, and with the AUTOLOAD strap low the lanes (R88, R115, R116, R187, R194, R195). -/

namespace Sys2Proof.Machine

/-! ## How far the notice queues grow -/

/-- A queue with at most n notices more behind those that stood, none lost while the shorter queue has room for them. -/
def LinkPort.grows (n : Nat) (a b : LinkPort) : Prop :=
  a.queue <+: b.queue ∧ b.queue.length ≤ a.queue.length + n ∧ (a.queue.length + n ≤ 32 → b.overflow = a.overflow)

theorem LinkPort.grows.refl (n : Nat) (a : LinkPort) : a.grows n a := ⟨List.prefix_refl _, Nat.le_add_right .., fun _ => rfl⟩

theorem LinkPort.grows.trans {a b c : LinkPort} {m n : Nat} (h : a.grows m b) (g : b.grows n c) : a.grows (m + n) c := by
  obtain ⟨behind, longer, kept⟩ := h
  obtain ⟨behind', longer', kept'⟩ := g
  exact ⟨behind.trans behind', by omega, fun room => (kept' (by omega)).trans (kept (by omega))⟩

theorem LinkPort.grows.mono {a b : LinkPort} {m n : Nat} (h : a.grows m b) (more : m ≤ n) : a.grows n b := by
  obtain ⟨behind, longer, kept⟩ := h
  exact ⟨behind, by omega, fun room => kept (by omega)⟩

theorem LinkPort.place_grows (a : LinkPort) {cap : Nat} (large : 32 ≤ cap) (x : Notice) : a.grows 1 (LinkPort.place cap x a) := by
  by_cases room : a.queue.length < cap
  · rw [LinkPort.place_of_room room]
    exact ⟨List.prefix_append .., by simp, fun _ => rfl⟩
  · rw [LinkPort.place_of_full room]
    exact ⟨List.prefix_refl _, Nat.le_add_right .., fun few => absurd few (by omega)⟩

/-- Both queues grow by at most n notices. -/
def State.grows (n : Nat) (s t : State) : Prop := ∀ l, (s.link l).grows n (t.link l)

theorem State.grows.of_links {s t : State} (site : t.site = s.site) (desk : t.desk = s.desk) : s.grows 0 t := by
  intro l
  cases l with
  | site =>
    show s.site.grows 0 t.site
    rw [site]
    exact .refl 0 _
  | desk =>
    show s.desk.grows 0 t.desk
    rw [desk]
    exact .refl 0 _

theorem State.grows.trans {a b c : State} {m n : Nat} (h : a.grows m b) (g : b.grows n c) : a.grows (m + n) c := fun l => (h l).trans (g l)

theorem State.grows.mono {a b : State} {m n : Nat} (h : a.grows m b) (more : m ≤ n) : a.grows n b := fun l => (h l).mono more

theorem State.post_grows (s : State) (k : Nat) (b : NoticeBody) : s.grows 1 (s.post k b) := by
  intro l
  rw [State.post_eq]
  cases l with
  | site =>
    cases s.routing.get b.kind with
    | site => exact s.site.place_grows (by decide : 32 ≤ 64) _
    | both => exact s.site.place_grows (by decide : 32 ≤ 64) _
    | desk => exact .refl 1 s.site
    | nowhere => exact .refl 1 s.site
  | desk =>
    cases s.routing.get b.kind with
    | desk => exact s.desk.place_grows le_rfl _
    | both => exact s.desk.place_grows le_rfl _
    | site => exact .refl 1 s.desk
    | nowhere => exact .refl 1 s.desk

theorem State.postAll_grows (s : State) (k : Nat) (bs : List NoticeBody) : s.grows bs.length (s.postAll k bs) := by
  induction bs generalizing s with
  | nil => exact .of_links rfl rfl
  | cons b bs ih => exact ((s.post_grows k b).trans (ih _)).mono (by rw [List.length_cons]; omega)

theorem State.laneEvent_grows (s : State) (k : Lane) (l : LaneState) (bs : List NoticeBody) : s.grows bs.length (s.laneEvent k l bs) :=
  (State.grows.trans (State.grows.of_links (t := s.setLane k l) rfl rfl) ((s.setLane k l).postAll_grows _ bs)).mono (by omega)

/-- An event of a lane that touches no record grows the queues by what it posts. -/
theorem State.runLane_grows {s : State} {k : Lane} {f : Env → Work → Work} {n : Nat}
    (h : (f (s.env k) (s.work k)).creds = s.cst.creds ∧ (f (s.env k) (s.work k)).out.length ≤ n) : s.grows n (s.runLane k f) := by
  rw [State.laneEvent_of_runLane_plain rfl h.1]
  exact (s.laneEvent_grows k _ _).mono h.2

theorem State.modLane_grows (s : State) (k : Lane) (f : LaneState → LaneState) : s.grows 0 (s.modLane k f) := .of_links rfl rfl

theorem State.refreshAll_grows (s : State) : s.grows 0 s.refreshAll := by
  have worked (ks : List Lane) (t : State) : t.grows 0 (ks.foldl (fun u j => u.refresh j) t) := by
    induction ks generalizing t with
    | nil => exact .of_links rfl rfl
    | cons k ks ih => exact (t.modLane_grows k _).trans (ih _)
  exact worked allLanes s

/-! ## What a lane posts at start-up -/

theorem reportPosition_out (w : Work) : (reportPosition w).out.length ≤ w.out.length + 1 := by
  unfold reportPosition
  dsimp only
  split
  · exact le_of_eq List.length_append
  · exact Nat.le_succ _

theorem Work.withHealth_out (f : Work → Work) (w : Work) : (w.withHealth f).out.length ≤ (f w).out.length + 1 := by
  unfold Work.withHealth
  dsimp only
  split
  · exact Nat.le_succ _
  · exact le_of_eq List.length_append

theorem enterEgress_out (e : Env) {w : Work} (mode : w.lane.lsv.mode = .egress) : (enterEgress e w).out.length ≤ w.out.length + 1 := by
  have unevaluated : shutMode (w.mod LaneState.dropEvaluation).lane.lsv.mode = false := by
    rw [Work.mod_lane, LaneState.dropEvaluation, LaneState.modLsv_lsv, LaneState.modBc_lsv, mode]
    rfl
  have opens := beginOpening_unevaluated e unevaluated
  refine (Work.withHealth_out ..).trans (Nat.succ_le_succ (le_of_eq ?_))
  dsimp only
  rw [opens]
  cases (w.mod LaneState.dropEvaluation).lane.bc.state <;> rfl

/-- A lane without a pending mode that takes EGRESS posts the mode, and its health when that changes. -/
theorem takeEgress_out (e : Env) {w : Work} (settled : w.lane.lsv.pending = none) : (takeEgress e w).out.length ≤ w.out.length + 2 := by
  have kept : discardPending .egressLine w = w := by rw [discardPending, settled]
  unfold takeEgress
  dsimp only
  rw [kept]
  refine (enterEgress_out e rfl).trans (Nat.succ_le_succ (le_of_eq ?_))
  exact List.length_append

/-- A lane with nothing queued or pending posts at most two notices as it takes EGRESS. -/
theorem State.egressLane_grows {s : State} {k : Lane} (idle : s.rfu.slots = []) (empty : (s.lane k).pq.permits = [])
    (settled : (s.lane k).lsv.pending = none) : s.grows 2 (s.egressLane k) := by
  by_cases mode : (s.lane k).lsv.mode = .egress
  · rw [State.egressLane, if_pos mode]
    exact (State.grows.of_links (t := s) rfl rfl).mono (by decide)
  have event : s.egressLane k = ((s.runLane k fun _ w => cancelAll w).closeLane k .egressLine).runLane k fun e w => takeEgress e w :=
    if_neg mode
  have cancels : (cancelAll (s.work k)).lane = (s.lane k).cancelled ∧ (cancelAll (s.work k)).creds = s.cst.creds := by
    rw [cancelAll_eq]
    exact ⟨rfl, rfl⟩
  have silent : (cancelAll (s.work k)).out.length ≤ 0 := by
    rw [cancelAll_eq]
    show ((s.lane k).pq.permits.map fun p => NoticeBody.permitEnd p .cancelled).length ≤ 0
    rw [empty]
    rfl
  have first := State.runLane_grows (s := s) (k := k) (f := fun _ w => cancelAll w) ⟨cancels.2, silent⟩
  obtain ⟨lane, -, slots, -⟩ := State.runLane_frame (s := s) (k := k) (f := fun _ w => cancelAll w) cancels
  rw [event]
  generalize s.runLane k (fun _ w => cancelAll w) = a at *
  have closes : a.grows 0 (a.closeLane k .egressLine) := by
    have none : a.rfu.slots.filter (fun x => portLane x.reader == k) = [] := by rw [slots, idle]; rfl
    unfold State.closeLane State.closeSlots
    rw [none]
    exact .of_links rfl rfl
  have same : (a.closeLane k .egressLine).lane k = a.lane k := by rw [State.lane, (a.closeLane_lanes k .egressLine).1, State.lane]
  generalize a.closeLane k .egressLine = b at *
  have settled' : (b.work k).lane.lsv.pending = none := by
    show (b.lane k).lsv.pending = none
    rw [same, lane]
    exact settled
  have last := State.runLane_grows (s := b) (k := k) (f := fun e w => takeEgress e w) (n := 2)
    ⟨(takeEgress_lane (b.env k) (b.work k)).2, takeEgress_out (b.env k) settled'⟩
  exact ((first.trans closes).trans last).mono (by decide)

/-- A lane as a full reset leaves it for start-up when no image is loaded: nothing queued or pending, start mode DARK. -/
def LaneState.quiet (l : LaneState) : Prop := l.lsv.startMode = .dark ∧ l.pq.permits = [] ∧ l.lsv.pending = none

theorem LaneState.readPosition_quiet (l : LaneState) (h : l.quiet) : l.readPosition.quiet := by
  unfold LaneState.readPosition LaneState.setBarrier
  dsimp only
  split <;> exact h

theorem State.startLane_grows {s : State} {k : Lane} (idle : s.rfu.slots = []) (quiet : (s.lane k).quiet) : s.grows 3 (s.startLane k) := by
  obtain ⟨reported, creds⟩ := reportPosition_lane (s.work k)
  obtain ⟨dark, empty, settled⟩ := LaneState.readPosition_quiet _ quiet
  have unmoded : applyStart (reportPosition (s.work k)) = reportPosition (s.work k) := by
    refine if_pos ?_
    rw [reported]
    exact dark
  have first := State.runLane_grows (s := s) (k := k) (f := fun _ w => applyStart (reportPosition w)) (n := 1) (by
    rw [unmoded]
    exact ⟨creds, reportPosition_out (s.work k)⟩)
  obtain ⟨lane, -, slots, -⟩ := State.runLane_frame (s := s) (k := k) (f := fun _ w => applyStart (reportPosition w))
    (l := (s.lane k).readPosition) (by
      rw [unmoded]
      exact ⟨reported, creds⟩)
  have event : s.startLane k
      = ((s.runLane k fun _ w => applyStart (reportPosition w)).sampleLine k).modLane k (LaneState.startFrames s.tmb.ms) := rfl
  rw [event]
  generalize s.runLane k (fun _ w => applyStart (reportPosition w)) = a at *
  have sampled : a.grows 2 (a.sampleLine k) := by
    unfold State.sampleLine
    split
    · exact State.egressLane_grows (by rw [slots, idle]) (by rw [lane]; exact empty) (by rw [lane]; exact settled)
    · exact (State.grows.of_links (t := a) rfl rfl).mono (by decide)
  exact ((first.trans sampled).trans (State.modLane_grows _ k _)).mono (by decide)

theorem State.starting.grows {s t : State} {done : List Lane} (h : s.starting t done) (idle : s.rfu.slots = []) (quiet : ∀ k, (s.lane k).quiet)
    (ks : List Lane) (distinct : ks.Nodup) (waiting : ∀ j ∈ ks, j ∉ done) : t.grows (3 * ks.length) (ks.foldl State.startLane t) := by
  induction ks generalizing t done with
  | nil => exact .of_links rfl rfl
  | cons k ks ih =>
    obtain ⟨once, distinct'⟩ := List.nodup_cons.mp distinct
    have fresh : k ∉ done := waiting k List.mem_cons_self
    have lane : t.lane k = s.lane k := (h.lane k).trans (if_neg fresh)
    have one := State.startLane_grows (s := t) (k := k) (by rw [h.slots, idle]) (by rw [lane]; exact quiet k)
    have rest := ih (h.startLane idle fresh) distinct' fun j mem => by
      rw [List.mem_cons, not_or]
      exact ⟨fun same => once (same ▸ mem), waiting j (List.mem_cons_of_mem k mem)⟩
    rw [List.foldl_cons, List.length_cons]
    exact (one.trans rest).mono (by omega)

/-- Start-up over every lane posts at most three notices for each. -/
theorem State.startLanes_grows {s : State} (order : List Lane) (idle : s.rfu.slots = []) (quiet : ∀ k, (s.lane k).quiet) :
    s.grows 18 ((fullOrder order).foldl State.startLane s).refreshAll := by
  have few : (fullOrder order).length ≤ 6 := by
    simpa using (fullOrder_nodup order).length_le_card
  have posted := (State.starting.start s).grows idle quiet (fullOrder order) (fullOrder_nodup order) fun _ _ => List.not_mem_nil
  exact (posted.trans (State.refreshAll_grows _)).mono (by omega)

end Sys2Proof.Machine

/-! FULL_RESET: with the AUTOLOAD strap low, and with the image that the strap high loads (R187, R190, R191, R194, R195). -/

namespace Sys2Proof.Machine

/-! ## The steps of a full reset -/

/-- What a full reset has loaded before START is posted (R194). -/
def State.resetLoaded (r : ResetInputs) (s : State) : State := (s.cleared r).loadStart (startImage r (flashAtReset r s)).2

theorem exec_fullReset (r : ResetInputs) (s : State) :
    exec (.fullReset r) s = .next (((fullOrder r.laneOrder).foldl State.startLane
      ((s.resetLoaded r).post 0 (startBody r (s.resetLoaded r)))).refreshAll) := rfl

/-- What start-up makes of the state that has been loaded. -/
theorem State.startUp_effect {u : State} (order : List Lane) (b : NoticeBody) (idle : u.rfu.slots = []) :
    let t := ((fullOrder order).foldl State.startLane (u.post 0 b)).refreshAll
    (∀ k, t.lane k = ((u.lane k).startUp u.tmb.ms u.egressLine).withOutputs [] k) ∧ t.rfu = u.rfu ∧ u.samePart t := by
  obtain ⟨lane, slots, part⟩ := (u.post 0 b).startLanes_effect order (by rw [State.post_rfu, idle])
  refine ⟨fun k => ?_, slots.trans (u.post_rfu 0 b), (u.post_samePart 0 b).trans part⟩
  rw [lane, State.post_lane, State.post_tmb, State.post_egressLine, State.post_rfu, idle]

/-! ## A lane that starts DARK -/

/-- A lane at full reset, by its three input lines. -/
def LaneState.withInputs (openLimit shutLimit obstruct : Bool) : LaneState :=
  LaneState.reset.modBc fun c => { c with openLimit := openLimit, shutLimit := shutLimit, obstruct := obstruct }

/-- The barrier that a DARK start leaves: the position as the limits give it (R88). -/
def Bc.started (openLimit shutLimit obstruct : Bool) : Bc where
  state :=
    match openLimit, shutLimit with
    | false, true => .shut
    | true, false => .opened
    | false, false => .stalled
    | true, true => .stalled
  openLimit := openLimit
  shutLimit := shutLimit
  obstruct := obstruct
  driveOpen := false
  driveShut := false
  motionEnd := none
  reversals := 0
  jam := false
  jamHoldEnd := none
  stall := false
  positionUnknown := decide (openLimit = shutLimit)
  last := none
  risk := false
  posture := .hold

/-- The barrier of a lane that has entered EGRESS at start-up: open on its limit, opening off it (R74). -/
def Bc.startedOpen (now : Nat) (openLimit shutLimit obstruct : Bool) : Bc :=
  { Bc.started openLimit shutLimit obstruct with
    state := if openLimit then .opened else .opening
    driveOpen := !openLimit
    motionEnd := if openLimit then none else some (now + 900) }

/-- The supervisor that start-up leaves with no start mode set. -/
def Lsv.started (m : Mode) (sides : Colour) (fault : Bool) : Lsv :=
  { Lsv.reset with mode := m, lobbyColour := sides, secureColour := sides, barrierMark := fault }

/-- Start-up of a lane without an image, with the line as it is. -/
def LaneState.startedAt (now : Nat) (line : Bool) (openLimit shutLimit obstruct : Bool) (k : Lane) : LaneState :=
  ((LaneState.withInputs openLimit shutLimit obstruct).startUp now line).withOutputs [] k

section
variable (now : Nat) (openLimit shutLimit obstruct : Bool) (k : Lane)

theorem LaneState.startedAt_dark :
    (LaneState.startedAt now false openLimit shutLimit obstruct k).bc = Bc.started openLimit shutLimit obstruct
      ∧ (LaneState.startedAt now false openLimit shutLimit obstruct k).lsv = Lsv.started .dark .dark (decide (openLimit = shutLimit)) := by
  cases openLimit <;> cases shutLimit <;> exact ⟨rfl, rfl⟩

theorem LaneState.startedAt_egress :
    (LaneState.startedAt now true openLimit shutLimit obstruct k).bc = Bc.startedOpen now openLimit shutLimit obstruct
      ∧ (LaneState.startedAt now true openLimit shutLimit obstruct k).lsv = Lsv.started .egress .red false := by
  cases openLimit <;> cases shutLimit <;> exact ⟨rfl, rfl⟩

theorem LaneState.startedAt_rest (line : Bool) :
    let l := LaneState.startedAt now line openLimit shutLimit obstruct k
    l.geo = Geometry.reset ∧ l.timing = Timing.reset ∧ l.ot = Ot.reset ∧ l.pq = Pq.reset ∧ l.reported = TrackReport.reset
      ∧ l.bsu = { Bsu.reset 16 0 with frameTimer := now + 10 } := by
  cases line <;> cases openLimit <;> cases shutLimit <;> exact ⟨rfl, rfl, rfl, rfl, rfl, rfl⟩

end

theorem LaneState.resetKeeping_eq (l : LaneState) : l.resetKeeping = LaneState.withInputs l.bc.openLimit l.bc.shutLimit l.bc.obstruct := rfl

theorem LaneState.resetKeeping_quiet (l : LaneState) : l.resetKeeping.quiet := ⟨rfl, rfl, rfl⟩

/-! ## The strap low -/

theorem startImage_low {r : ResetInputs} (m : Memory) (low : r.strap = false) : startImage r m = (.notRequested, none) := by
  rw [startImage, low]
  rfl

theorem State.cleared_link_queue (r : ResetInputs) (s : State) (l : Link) :
    ((s.cleared r).link l).queue = [] ∧ ((s.cleared r).link l).overflow = false := by
  cases l <;> exact ⟨rfl, rfl⟩

theorem LinkPort.sameButQueue_of_cleared {a b : LinkPort} (cleared : a = .reset []) (same : a.sameButQueue b) :
    b.rx = none ∧ b.tx = [] ∧ b.lengthDiscards = 0 ∧ b.crcDiscards = 0 ∧ b.gapDiscards = 0 := by
  subst cleared
  exact same

/-- Settles O5: the cleared state is loaded with nothing, START is posted, and each lane starts DARK, or enters EGRESS. -/
theorem fullResetWithoutAutoload : Obligations.FullResetWithoutAutoload := by
  intro r s low unknown barred supervisor
  have image : startImage r (flashAtReset r s) = (.notRequested, none) := startImage_low _ low
  have loaded : s.resetLoaded r = s.cleared r := by rw [State.resetLoaded, image]; rfl
  have body : startBody r (s.cleared r) = .start .notRequested r.cause none 0 0 s.egressLine := by
    show NoticeBody.start (startImage r (flashAtReset r s)).1 r.cause (startFormat r (flashAtReset r s)) 0 0 s.egressLine = _
    rw [image, startFormat, low]
    rfl
  have ran := exec_fullReset r s
  rw [loaded, body] at ran
  obtain ⟨lane, slots, ports, site, desk, routing, cst, tmb, ims, egress, key, pending⟩ :=
    State.startUp_effect (u := s.cleared r) r.laneOrder (.start .notRequested r.cause none 0 0 s.egressLine) rfl
  have first := (s.cleared r).post_grows 0 (.start .notRequested r.cause none 0 0 s.egressLine)
  have quiet (k : Lane) : (((s.cleared r).post 0 (.start .notRequested r.cause none 0 0 s.egressLine)).lane k).quiet := by
    rw [State.post_lane, State.cleared_lane]
    exact LaneState.resetKeeping_quiet _
  have grown := first.trans (State.startLanes_grows r.laneOrder (by rw [State.post_rfu]; rfl) quiet)
  have behind := (State.startLanes_grows r.laneOrder (by rw [State.post_rfu]; rfl) quiet .site).1
  generalize ((fullOrder r.laneOrder).foldl State.startLane
    ((s.cleared r).post 0 (.start .notRequested r.cause none 0 0 s.egressLine))).refreshAll = t at *
  have link (l : Link) : (t.link l).rx = none ∧ (t.link l).tx = [] ∧ (t.link l).lengthDiscards = 0 ∧ (t.link l).crcDiscards = 0
      ∧ (t.link l).gapDiscards = 0 := by
    cases l with
    | site => exact LinkPort.sameButQueue_of_cleared rfl site
    | desk => exact LinkPort.sameButQueue_of_cleared rfl desk
  have overflow (l : Link) : (t.link l).overflow = false := by
    obtain ⟨queue, flag⟩ := s.cleared_link_queue r l
    obtain ⟨-, -, kept⟩ := grown l
    exact (kept (by rw [queue]; decide)).trans flag
  have lane' (k : Lane) : t.lane k
      = LaneState.startedAt t.tmb.ms s.egressLine (s.lane k).bc.openLimit (s.lane k).bc.shutLimit (s.lane k).bc.obstruct k := by
    rw [lane, tmb, State.cleared_lane, LaneState.resetKeeping_eq]
    rfl
  refine ⟨t, ran, ports, routing, cst, slots, tmb, fun l => ?_, ?_, ?_, ?_, ?_, ?_, ?_, ?_, fun unaltered idle => ?_, fun run saving => ?_,
    egress, key, pending, fun k => ?_⟩
  · obtain ⟨rx, tx, length, crc, gap⟩ := link l
    exact ⟨rx, tx, length, crc, gap, overflow l⟩
  · obtain ⟨rest, queue⟩ := behind
    rw [← show _ = t.site.queue from queue, tmb]
    rfl
  · rw [ims]
    rfl
  · rw [ims]
    rfl
  · rw [ims]
    exact congrArg Prod.fst image
  · rw [ims]
    rfl
  · rw [ims]
    exact low
  · rw [ims]
    rfl
  · rw [ims]
    show flashAtReset r s = s.ims.flash
    rw [flashAtReset, idle, unaltered]
    rfl
  · rw [ims]
    show flashAtReset r s = _
    rw [flashAtReset, saving]
  · rw [lane' k]
    obtain ⟨geo, timing, ot, pq, reported, bsu⟩ :=
      LaneState.startedAt_rest t.tmb.ms (s.lane k).bc.openLimit (s.lane k).bc.shutLimit (s.lane k).bc.obstruct k s.egressLine
    refine ⟨geo, timing, ot, pq, reported, bsu, fun off => ?_, fun on => ?_⟩
    · rw [off]
      exact LaneState.startedAt_dark ..
    · rw [on]
      exact LaneState.startedAt_egress ..

end Sys2Proof.Machine

/-! FULL_RESET with the AUTOLOAD strap high: the image loaded, and what start-up keeps of it (R187, R190, R191, R194). -/

namespace Sys2Proof.Machine

/-! ## What start-up keeps of a lane -/

/-- What start-up leaves of a lane's settings, and the mode it starts in. -/
structure LaneState.startedUp (now : Nat) (line : Bool) (a b : LaneState) : Prop where
  geo : b.geo = a.geo
  timing : b.timing = a.timing
  reported : b.reported = a.reported
  startMode : b.lsv.startMode = a.lsv.startMode
  startPolicy : b.lsv.startPolicy = a.lsv.startPolicy
  posture : b.bc.posture = a.bc.posture
  period : b.bsu.period = a.timing.tf
  frameTimer : b.bsu.frameTimer = now + a.timing.tf
  mode : b.lsv.mode = if line then .egress else if a.lsv.startMode = .dark then a.lsv.mode else a.lsv.startMode

/-- What stays of a lane through its position, its start mode and the EGRESS line. -/
structure LaneState.settingsKept (a b : LaneState) : Prop where
  geo : b.geo = a.geo
  timing : b.timing = a.timing
  reported : b.reported = a.reported
  startMode : b.lsv.startMode = a.lsv.startMode
  startPolicy : b.lsv.startPolicy = a.lsv.startPolicy
  posture : b.bc.posture = a.bc.posture

theorem LaneState.settingsKept.trans {a b c : LaneState} (h : a.settingsKept b) (g : b.settingsKept c) : a.settingsKept c :=
  ⟨g.geo.trans h.geo, g.timing.trans h.timing, g.reported.trans h.reported, g.startMode.trans h.startMode,
    g.startPolicy.trans h.startPolicy, g.posture.trans h.posture⟩

theorem LaneState.settingsKept.refl (a : LaneState) : a.settingsKept a := ⟨rfl, rfl, rfl, rfl, rfl, rfl⟩

theorem LaneState.readPosition_kept (l : LaneState) : l.settingsKept l.readPosition ∧ l.readPosition.lsv.mode = l.lsv.mode := by
  unfold LaneState.readPosition LaneState.setBarrier
  dsimp only
  split <;> exact ⟨⟨rfl, rfl, rfl, rfl, rfl, rfl⟩, rfl⟩

theorem LaneState.startModed_kept (l : LaneState) :
    l.settingsKept l.startModed ∧ l.startModed.lsv.mode = if l.lsv.startMode = .dark then l.lsv.mode else l.lsv.startMode := by
  unfold LaneState.startModed
  split
  · exact ⟨.refl l, rfl⟩
  · split <;> exact ⟨⟨rfl, rfl, rfl, rfl, rfl, rfl⟩, rfl⟩

theorem LaneState.letOut_kept (now : Nat) (l : LaneState) : l.settingsKept (l.letOut now) ∧ (l.letOut now).lsv.mode = l.lsv.mode := by
  rcases l.letOut_cases now with ⟨same, -⟩ | same | same
  · rw [same]
    exact ⟨.refl l, rfl⟩
  · rw [same, LaneState.openedAtOnce_eq]
    exact ⟨⟨rfl, rfl, rfl, rfl, rfl, rfl⟩, rfl⟩
  · rw [same, LaneState.openingAt_eq]
    exact ⟨⟨rfl, rfl, rfl, rfl, rfl, rfl⟩, rfl⟩

theorem LaneState.sampled_kept (now : Nat) (line : Bool) (l : LaneState) :
    l.settingsKept (l.sampled now line) ∧ (l.sampled now line).lsv.mode = if line then .egress else l.lsv.mode := by
  unfold LaneState.sampled
  by_cases takes : line = true ∧ l.lsv.mode ≠ .egress
  · obtain ⟨kept, mode⟩ := l.cancelled.egressMode.letOut_kept now
    rw [if_pos takes, if_pos takes.1]
    have entered : l.settingsKept l.cancelled.egressMode := ⟨rfl, rfl, rfl, rfl, rfl, rfl⟩
    exact ⟨entered.trans kept, mode⟩
  · rw [if_neg takes]
    refine ⟨.refl l, ?_⟩
    cases line with
    | false => rfl
    | true => exact not_not.mp fun other => takes ⟨rfl, other⟩

theorem LaneState.startUp_startedUp (now : Nat) (line : Bool) (l : LaneState) : l.startedUp now line (l.startUp now line) := by
  obtain ⟨first, mode⟩ := l.readPosition_kept
  obtain ⟨second, mode'⟩ := l.readPosition.startModed_kept
  obtain ⟨third, mode''⟩ := l.readPosition.startModed.sampled_kept now line
  have kept := (first.trans second).trans third
  rw [mode', first.startMode, mode] at mode''
  unfold LaneState.startUp
  generalize l.readPosition.startModed.sampled now line = m at *
  exact ⟨kept.geo, kept.timing, kept.reported, kept.startMode, kept.startPolicy, kept.posture, congrArg Timing.tf kept.timing,
    congrArg (fun t => now + Timing.tf t) kept.timing, mode''⟩

theorem LaneState.startedUp.withOutputs {now : Nat} {line : Bool} {a b : LaneState} (h : a.startedUp now line b) (slots : List Slot) (k : Lane) :
    a.startedUp now line (b.withOutputs slots k) :=
  ⟨h.geo, h.timing, h.reported, h.startMode, h.startPolicy, h.posture, h.period, h.frameTimer, h.mode⟩

/-! ## The image loaded (R194) -/

/-- Lane k with its block of the image. -/
def LaneState.loadFrom (i : Image) (k : Lane) (l : LaneState) : LaneState :=
  match i.lanes[k.val]? with
  | none => l
  | some x => l.load x

theorem LaneState.loadFrom_reported (i : Image) (k : Lane) (l : LaneState) : (l.loadFrom i k).reported = l.reported := by
  unfold LaneState.loadFrom
  split <;> rfl

theorem LaneState.loadFrom_of_block {i : Image} {k : Lane} {x : LaneSettings} (h : i.lanes[k.val]? = some x) (l : LaneState) :
    l.loadFrom i k = l.load x := by
  rw [LaneState.loadFrom, h]

theorem State.loadLane_effect (i : Image) (s : State) (k : Lane) :
    (s.loadLane i k).lane k = (s.lane k).loadFrom i k ∧ (∀ j, j ≠ k → (s.loadLane i k).lane j = s.lane j)
      ∧ (s.loadLane i k).rfu = s.rfu ∧ s.samePart (s.loadLane i k) := by
  unfold State.loadLane LaneState.loadFrom
  cases i.lanes[k.val]? with
  | none => exact ⟨rfl, fun _ _ => rfl, rfl, .refl s⟩
  | some x => exact ⟨State.modLane_lane .., fun j other => State.modLane_lane_of_ne _ _ other, rfl, s.modLane_samePart k _⟩

theorem State.loadLanes_effect (i : Image) (ks : List Lane) (s : State) (distinct : ks.Nodup) :
    (∀ k, (ks.foldl (State.loadLane i) s).lane k = if k ∈ ks then (s.lane k).loadFrom i k else s.lane k)
      ∧ (ks.foldl (State.loadLane i) s).rfu = s.rfu ∧ s.samePart (ks.foldl (State.loadLane i) s) := by
  induction ks generalizing s with
  | nil => exact ⟨fun _ => (if_neg List.not_mem_nil).symm, rfl, .refl s⟩
  | cons k ks ih =>
    obtain ⟨once, distinct'⟩ := List.nodup_cons.mp distinct
    obtain ⟨lane, others, slots, part⟩ := s.loadLane_effect i k
    obtain ⟨lanes, slots', part'⟩ := ih (s.loadLane i k) distinct'
    refine ⟨fun j => ?_, slots'.trans slots, part.trans part'⟩
    rw [List.foldl_cons, lanes]
    by_cases same : j = k
    · subst same
      rw [if_neg once, if_pos List.mem_cons_self, lane]
    · rw [others j same]
      simp only [List.mem_cons, same, false_or]

/-- A good image loaded: each lane has its block, and the tables, routes and unit number are the image's. -/
theorem State.load_effect (i : Image) (s : State) :
    (∀ k, (s.load i).lane k = (s.lane k).loadFrom i k) ∧ (s.load i).rfu = s.rfu ∧ (s.load i).tmb = s.tmb
      ∧ (s.load i).egressLine = s.egressLine ∧ (s.load i).deskKey = s.deskKey ∧ (s.load i).pending = s.pending
      ∧ (s.load i).routing = i.routing.corrected
      ∧ (s.load i).cst = { creds := i.creds, classes := loadClasses i.classes s.cst.classes }
      ∧ (s.load i).ims = { s.ims with unit := i.unit } := by
  obtain ⟨lanes, slots, -, -, -, -, cst, tmb, ims, egress, key, pending⟩ := s.loadLanes_effect i allLanes (by decide)
  unfold State.load
  dsimp only
  generalize allLanes.foldl (State.loadLane i) s = t at *
  refine ⟨fun k => (lanes k).trans (if_pos (by revert k; decide)), slots, tmb, egress, key, pending, rfl, ?_, ?_⟩
  · rw [cst]
  · rw [ims]

theorem loadClasses_get {cs : List ClassRec} {old : Vector ClassRec 16} {c : ClassNo} {x : ClassRec} (h : cs[c.val]? = some x) :
    (loadClasses cs old).get c = x := by
  simp [loadClasses, h, Vector.get_eq_getElem]

/-- Only an image judged LOADED has contents (R191). -/
theorem Memory.judge_contents (m : Memory) : m.judge.2 = none ∨ m.judge.1 = .loaded := by
  unfold Memory.judge
  dsimp only
  split
  · exact .inl rfl
  split
  · exact .inl rfl
  split
  · exact .inl rfl
  split
  · exact .inl rfl
  split
  · exact .inl rfl
  · exact .inr rfl

/-! ## The strap high -/

theorem startImage_high {r : ResetInputs} (m : Memory) (high : r.strap = true) :
    startImage r m = if r.flashAnswers then m.judge else (.noImage, none) := by
  rw [startImage, high]
  cases r.flashAnswers <;> rfl

theorem startImage_contents {r : ResetInputs} {m : Memory} (unloaded : (startImage r m).1 ≠ .loaded) : (startImage r m).2 = none := by
  unfold startImage at unloaded ⊢
  split
  · rfl
  next high =>
    rw [if_neg high] at unloaded
    split
    · rfl
    next answers =>
      rw [if_neg answers] at unloaded
      exact m.judge_contents.resolve_right unloaded

theorem correctedRoute_of_kind (kind : NoticeKind) (x : Route) :
    correctedRoute kind x =
      if kind = .referral then .site
      else if (kind = .violation ∨ kind = .barrier ∨ kind = .reader ∨ kind = .lane) ∧ x = .nowhere then .both
      else x := by
  have bearing : kind.alarmBearing = true ↔ kind = .violation ∨ kind = .barrier ∨ kind = .reader ∨ kind = .lane := by
    cases kind <;> simp [NoticeKind.alarmBearing]
  simp only [correctedRoute, Bool.and_eq_true, bearing, decide_eq_true_eq]

/-- What of a full reset no image changes. -/
structure State.resetBase (r : ResetInputs) (s u : State) : Prop where
  slots : u.rfu.slots = []
  tmb : u.tmb = (s.cleared r).tmb
  line : u.egressLine = s.egressLine
  key : u.deskKey = s.deskKey
  pending : u.pending = s.pending
  store : ∃ unit, u.ims = { (s.cleared r).ims with unit := unit }
  reported : ∀ k, (u.lane k).reported = TrackReport.reset

theorem State.resetLoaded_none {r : ResetInputs} {s : State} (none : (startImage r (flashAtReset r s)).2 = none) :
    s.resetLoaded r = s.cleared r := by
  rw [State.resetLoaded, none]
  rfl

theorem State.resetLoaded_some {r : ResetInputs} {s : State} {i : Image} (some : (startImage r (flashAtReset r s)).2 = some i) :
    s.resetLoaded r = (s.cleared r).load i := by
  rw [State.resetLoaded, some]
  rfl

theorem State.resetLoaded_base (r : ResetInputs) (s : State) : s.resetBase r (s.resetLoaded r) := by
  cases image : (startImage r (flashAtReset r s)).2 with
  | none =>
    rw [State.resetLoaded_none image]
    refine ⟨rfl, rfl, rfl, rfl, rfl, ⟨0, rfl⟩, fun k => ?_⟩
    rw [State.cleared_lane]
    rfl
  | some i =>
    rw [State.resetLoaded_some image]
    obtain ⟨lane, slots, tmb, line, key, pending, -, -, ims⟩ := (s.cleared r).load_effect i
    refine ⟨congrArg Rfu.slots slots, tmb, line, key, pending, ⟨i.unit, ims⟩, fun k => ?_⟩
    rw [lane, LaneState.loadFrom_reported, State.cleared_lane]
    rfl

/-- What a full reset leaves of what it has loaded. -/
theorem State.fullReset_effect (r : ResetInputs) (s : State) :
    ∃ t, exec (.fullReset r) s = .next t ∧ (s.resetLoaded r).samePart t
      ∧ ∀ k, ((s.resetLoaded r).lane k).startedUp t.tmb.ms s.egressLine (t.lane k) := by
  obtain ⟨lane, -, part⟩ := State.startUp_effect r.laneOrder (startBody r (s.resetLoaded r)) (s.resetLoaded_base r).slots
  refine ⟨_, exec_fullReset r s, part, fun k => ?_⟩
  obtain ⟨-, -, -, -, -, tmb, -⟩ := part
  rw [lane, tmb, (s.resetLoaded_base r).line]
  exact (LaneState.startUp_startedUp ..).withOutputs ..

/-- Settles O6: the flash judged, the image or nothing loaded, and each lane started from what it then holds. -/
theorem fullResetLoadsImage : Obligations.FullResetLoadsImage := by
  intro r s high found judged corrected
  have flash : flashAtReset r s = found := rfl
  have image : startImage r (flashAtReset r s) = judged := by
    rw [startImage_high _ high, flash]
  obtain ⟨t, ran, ⟨ports, site, desk, routing, cst, tmb, ims, line, key, pending⟩, lane⟩ := s.fullReset_effect r
  have base := s.resetLoaded_base r
  obtain ⟨unit, store⟩ := base.store
  refine ⟨t, ran, ?_, ?_, ?_, ?_, pending.trans base.pending, line.trans base.line, key.trans base.key,
    fun k => (lane k).reported.trans (base.reported k), fun unaltered idle => ?_, fun canonical saving => ?_, fun i good => ?_,
    fun unloaded => ?_⟩
  · rw [ims, store]
    exact flash
  · rw [ims, store]
    exact congrArg Prod.fst image
  · rw [ims, store]
    exact high
  · rw [ims, store]
    rfl
  · rw [← flash, flashAtReset, idle, unaltered]
    rfl
  · obtain ⟨run, saving⟩ := Option.ne_none_iff_exists'.mp saving
    have cut : found = s.stageWritten (some r.saveTaken) run := by rw [← flash, flashAtReset, saving]
    show (if r.flashAnswers then found.judge else (.noImage, none)).1 ≠ .loaded
    split
    · rw [cut]
      exact State.stageWritten_unloaded canonical _
    · nofun
  · have some : (startImage r (flashAtReset r s)).2 = some i := by rw [image, good]
    rw [State.resetLoaded_some some] at *
    obtain ⟨loadedLane, -, -, -, -, -, loadedRouting, loadedCst, loadedIms⟩ := (s.cleared r).load_effect i
    refine ⟨?_, ?_, fun kind => ?_, fun c x at_ => ?_, fun k x at_ => ?_⟩
    · rw [cst, loadedCst]
    · rw [ims, loadedIms]
    · rw [routing, loadedRouting, Routing.corrected_get]
      exact correctedRoute_of_kind ..
    · rw [cst, loadedCst]
      exact loadClasses_get at_
    · have started := lane k
      rw [loadedLane, LaneState.loadFrom_of_block at_, State.cleared_lane] at started
      refine ⟨started.geo, started.timing, started.startMode, started.startPolicy, started.posture, started.period, started.frameTimer,
        started.mode.trans (congrArg (fun m => if s.egressLine then Mode.egress else m) ?_)⟩
      show (if x.startMode = .dark then .dark else x.startMode) = x.startMode
      split
      next dark => exact dark.symm
      · rfl
  · have none : (startImage r (flashAtReset r s)).2 = none := startImage_contents (by rw [image]; exact unloaded)
    rw [State.resetLoaded_none none] at *
    refine ⟨cst, ?_, routing, fun k => ?_⟩
    · rw [ims]
      rfl
    · have started := lane k
      rw [State.cleared_lane] at started
      exact ⟨started.geo, started.timing⟩

end Sys2Proof.Machine

/-! What an evaluation of the open condition can change of a lane, and the permits that the free-direction service appends (R59, R65, R73). -/

namespace Sys2Proof.Machine

/-! ## An evaluation of the open condition -/

/-- The lane with other records of its barrier, and what the Lane Supervisor shows of them. -/
def LaneState.moved (c : Bc) (mark lobby secure : Bool) (l : LaneState) : LaneState :=
  { l with bc := c, lsv := { l.lsv with barrierMark := mark, riskLobby := lobby, riskSecure := secure } }

theorem Work.mod_moved_self (w : Work) : w.mod (LaneState.moved w.lane.bc w.lane.lsv.barrierMark w.lane.lsv.riskLobby w.lane.lsv.riskSecure) = w := rfl

/-- An opening motion that the open condition begins posts nothing, and changes the barrier's records alone. -/
theorem beginOpening_moves {e : Env} {w : Work} (h : w.lane.openCondition = true) :
    ∃ c mark lobby secure, beginOpening e w = w.mod (LaneState.moved c mark lobby secure) := by
  cases limit : w.lane.bc.openLimit with
  | false =>
    rw [beginOpening_of_limit_off limit, Work.mod, LaneState.openingAt_eq]
    exact ⟨_, _, _, _, rfl⟩
  | true =>
    have kept := LaneState.openCondition_keeps h
    obtain ⟨last, risk, lobby, secure, rests⟩ := beginOpening_rests (e := e) limit (kept.imp_right .inl)
    rw [rests, Work.mod, Work.mod, LaneState.openedAtOnce_eq]
    exact ⟨_, _, lobby, secure, rfl⟩

theorem evalOpen_moves (e : Env) (w : Work) : ∃ c mark lobby secure, evalOpen e w = w.mod (LaneState.moved c mark lobby secure) := by
  have still : ∃ c mark lobby secure, w = w.mod (LaneState.moved c mark lobby secure) := ⟨_, _, _, _, w.mod_moved_self.symm⟩
  by_cases dark : w.lane.lsv.mode = .dark
  · rwa [evalOpen_of_dark dark]
  · rw [evalOpen, if_neg dark]
    cases w.lane.bc.state with
    | shut =>
      by_cases opens : w.lane.opensFromShut = true
      · simp only [opens, if_true]
        exact beginOpening_moves (LaneState.openCondition_of_opensFromShut opens)
      · simpa only [opens, Bool.false_eq_true, if_false] using still
    | shutting =>
      by_cases opens : w.lane.openCondition = true
      · simp only [opens, if_true]
        exact beginOpening_moves opens
      · simpa only [opens, Bool.false_eq_true, if_false] using still
    | opening => exact still
    | opened => exact still
    | stalled => exact still

theorem evalOpen_out (e : Env) (w : Work) : (evalOpen e w).out = w.out := by
  obtain ⟨c, mark, lobby, secure, moves⟩ := evalOpen_moves e w
  rw [moves]
  rfl

/-! ## What the free-direction service posts -/

theorem append_free_out {e : Env} {d : Direction} {w w' : Work} {n : Nat} {st : PermitState}
    (h : append e (freeReq d) w = .accepted w' n st) : w'.out = w.out := by
  obtain ⟨-, -, rfl, -, -⟩ := append_accepted_inv h
  split
  · exact evalOpen_out e _
  · rfl

theorem serveFree_out (e : Env) (d : Direction) (n : Nat) (w : Work) : (serveFree e d n w).out = w.out := by
  induction n generalizing w with
  | zero => rfl
  | succ n ih =>
    unfold serveFree
    split
    next h => rw [ih, append_free_out h]
    next => rfl
    next => rfl

theorem serveDirection_out (e : Env) (w : Work) (d : Direction) : (serveDirection e w d).out = w.out := by
  unfold serveDirection
  split
  · exact serveFree_out ..
  · rfl

theorem freeService_out (e : Env) (w : Work) : (freeService e w).out = w.out := by
  have served : ∀ (ds : List Direction) (v : Work), (ds.foldl (serveDirection e) v).out = v.out := by
    intro ds
    induction ds with
    | nil => exact fun _ => rfl
    | cons d ds ih => exact fun v => (ih _).trans (serveDirection_out e v d)
  unfold freeService
  split
  · exact served ..
  · rfl

/-! ## The permits that one direction is given -/

/-- A FREE permit as the service makes it. -/
def Permit.freeFor (now : Nat) (t : Timing) (d : Direction) (p : Permit) : Prop :=
  p.dir = d ∧ p.origin = .free ∧ p.state = .ready ∧ p.credential = none ∧ p.cls = none ∧ p.reader = none ∧ p.allowance = 1 ∧ p.used = 0
    ∧ p.soft = false ∧ p.deadline = now + t.grantTime * 1000 * (if t.wide then 2 else 1)

/-- So many FREE permits of a direction stand behind the permits of before. -/
def Work.servedWith (e : Env) (d : Direction) (n : Nat) (w v : Work) : Prop :=
  ∃ freed, v.lane.pq.permits = w.lane.pq.permits ++ freed ∧ freed.length = n ∧ ∀ p ∈ freed, p.freeFor e.now w.lane.timing d

theorem Work.servedWith_zero (e : Env) (d : Direction) (w : Work) : w.servedWith e d 0 w :=
  ⟨[], (List.append_nil _).symm, rfl, fun _ h => absurd h List.not_mem_nil⟩

theorem newPermit_freeFor (now : Nat) (l : LaneState) (d : Direction) : (newPermit now l (freeReq d)).freeFor now l.timing d :=
  ⟨rfl, rfl, rfl, rfl, rfl, rfl, rfl, rfl, rfl, rfl⟩

/-- A direction that the claim allows is served until it has its permits or the queue is full; then the claim is its own. -/
theorem serveFree_fills (e : Env) (d : Direction) (n : Nat) {w : Work} (allows : w.lane.pq.claim = none ∨ w.lane.pq.claim = some d)
    (oneWay : w.lane.oneWay) :
    w.servedWith e d (min n (4 - w.lane.pq.permits.length)) (serveFree e d n w)
      ∧ (n ≠ 0 → w.lane.pq.permits.length < 4 → (serveFree e d n w).lane.pq.claim = some d) := by
  induction n generalizing w with
  | zero => exact ⟨by rw [Nat.zero_min]; exact w.servedWith_zero e d, fun h => absurd rfl h⟩
  | succ n ih =>
    by_cases room : w.lane.pq.permits.length < 4
    · have accepted := append_accepted (e := e) (r := freeReq d) (w := w) allows room
      rw [if_pos (show (newPermit e.now w.lane (freeReq d)).state = .ready from rfl)] at accepted
      have serves : serveFree e d (n + 1) w = serveFree e d n (evalOpen e (w.mod (LaneState.queuePermit e.now (freeReq d)))) := by
        rw [serveFree, accepted]
      obtain ⟨geo, timing, -, -, pq, -⟩ := evalOpen_frame e (w.mod (LaneState.queuePermit e.now (freeReq d)))
      have claimed := LaneState.queuePermit_claimed (now := e.now) (r := freeReq d) allows room oneWay
      have way : (w.lane.queuePermit e.now (freeReq d)).oneWay := (LaneState.queuePermit_keeps allows room).oneWay oneWay
      have permits := LaneState.queuePermit_permits e.now (freeReq d) w.lane
      rw [placePermit, if_neg (show ¬(freeReq d).escort = true from Bool.false_ne_true)] at permits
      rw [serves]
      generalize evalOpen e (w.mod (LaneState.queuePermit e.now (freeReq d))) = v at pq timing ⊢
      have queue : v.lane.pq.permits = w.lane.pq.permits ++ [newPermit e.now w.lane (freeReq d)] := by rw [pq]; exact permits
      have claim : v.lane.pq.claim = some d := by rw [pq]; exact claimed
      have oneWay' : v.lane.oneWay := by
        unfold LaneState.oneWay
        rw [pq]
        exact way
      have period : v.lane.timing = w.lane.timing := timing
      obtain ⟨⟨freed, more, count, free⟩, claims⟩ := ih (w := v) (.inr claim) oneWay'
      have longer : v.lane.pq.permits.length = w.lane.pq.permits.length + 1 := by rw [queue, List.length_append, List.length_singleton]
      refine ⟨⟨newPermit e.now w.lane (freeReq d) :: freed, ?_, ?_, ?_⟩, fun _ _ => ?_⟩
      · rw [more, queue, List.append_assoc, List.singleton_append]
      · rw [List.length_cons, count, longer]
        omega
      · intro p hp
        rcases List.mem_cons.mp hp with rfl | old
        · exact newPermit_freeFor ..
        · rw [← period]
          exact free p old
      · rcases Nat.eq_zero_or_pos n with rfl | more
        · exact claim
        · by_cases space : v.lane.pq.permits.length < 4
          · exact claims (Nat.pos_iff_ne_zero.mp more) space
          · have full : freed = [] := List.length_eq_zero_iff.mp (by rw [count]; omega)
            have ended : serveFree e d n v = v := by
              obtain ⟨k, rfl⟩ := Nat.exists_eq_succ_of_ne_zero (Nat.pos_iff_ne_zero.mp more)
              rw [serveFree, append_queueFull (.inr claim) (Nat.le_of_not_lt space)]
            rw [ended]
            exact claim
    · have full := append_queueFull (e := e) (r := freeReq d) allows (Nat.le_of_not_lt room)
      have stops : serveFree e d (n + 1) w = w := by rw [serveFree, full]
      have none : min (n + 1) (4 - w.lane.pq.permits.length) = 0 := by omega
      rw [stops, none]
      exact ⟨w.servedWith_zero e d, fun _ space => absurd space room⟩

end Sys2Proof.Machine

/-! Which direction the free-direction service takes first, and how far it serves it (R59). -/

namespace Sys2Proof.Machine

/-! ## A direction that is not served -/

theorem serveDirection_of_setting {e : Env} {w : Work} {d : Direction} (h : w.lane.lsv.policy.setting d ≠ .free) :
    serveDirection e w d = w := if_neg fun both => h both.1

theorem serveDirection_of_claim {e : Env} {w : Work} {d f : Direction} (claimed : w.lane.pq.claim = some f) (other : d ≠ f) :
    serveDirection e w d = w := by
  refine if_neg fun both => ?_
  rw [claimed] at both
  rcases both.2 with none | same
  · exact nomatch none
  · exact other (Option.some.inj same).symm

theorem serveDirection_of_free {e : Env} {w : Work} {d : Direction} (free : w.lane.lsv.policy.setting d = .free)
    (allows : w.lane.pq.claim = none ∨ w.lane.pq.claim = some d) :
    serveDirection e w d = serveFree e d ((w.lane.freeWalkers d).length - w.lane.freeSupply d) w := if_pos ⟨free, allows⟩

theorem LaneState.freeOrder_cases (l : LaneState) : l.freeOrder = [.entry, .exit] ∨ l.freeOrder = [.exit, .entry] := by
  unfold LaneState.freeOrder
  split
  next => split <;> simp
  next => exact .inr rfl
  next => exact .inl rfl
  next => exact .inl rfl

def oppositeOf : Direction → Direction
  | .entry => .exit
  | .exit => .entry

theorem LaneState.freeOrder_around (l : LaneState) (d : Direction) : l.freeOrder = [d, oppositeOf d] ∨ l.freeOrder = [oppositeOf d, d] := by
  cases d with
  | entry => exact l.freeOrder_cases
  | exit => exact l.freeOrder_cases.symm

theorem freeService_of_order {e : Env} {w : Work} {a b : Direction} (service : w.lane.lsv.mode = .service) (order : w.lane.freeOrder = [a, b]) :
    freeService e w = serveDirection e (serveDirection e w a) b := by
  rw [freeService, if_pos service, order]
  rfl

/-! ## One FREE direction -/

/-- Where the other direction is not FREE, the service is that of one direction. -/
theorem freeService_lone {e : Env} {w : Work} {d : Direction} (service : w.lane.lsv.mode = .service)
    (barred : w.lane.lsv.policy.setting (oppositeOf d) ≠ .free) : freeService e w = serveDirection e w d := by
  rcases w.lane.freeOrder_around d with order | order
  · rw [freeService_of_order service order]
    refine serveDirection_of_setting ?_
    rw [(serveDirection_serves e w d).policy]
    exact barred
  · rw [freeService_of_order service order, serveDirection_of_setting barred]

theorem freeService_covers {e : Env} {w : Work} {d : Direction} (service : w.lane.lsv.mode = .service)
    (free : w.lane.lsv.policy.setting d = .free) (barred : w.lane.lsv.policy.setting (oppositeOf d) ≠ .free) (oneWay : w.lane.oneWay)
    (allows : w.lane.pq.claim = none ∨ w.lane.pq.claim = some d) :
    w.servedWith e d (min ((w.lane.freeWalkers d).length - w.lane.freeSupply d) (4 - w.lane.pq.permits.length)) (freeService e w) := by
  rw [freeService_lone service barred, serveDirection_of_free free allows]
  exact (serveFree_fills e d _ allows oneWay).1

theorem ne_oppositeOf (d : Direction) : d ≠ oppositeOf d := by cases d <;> exact Direction.noConfusion

theorem freeService_of_other_claim {e : Env} {w : Work} {d : Direction} (barred : w.lane.lsv.policy.setting (oppositeOf d) ≠ .free)
    (claimed : w.lane.pq.claim = some (oppositeOf d)) : freeService e w = w := by
  by_cases service : w.lane.lsv.mode = .service
  · rw [freeService_lone service barred, serveDirection_of_claim claimed (ne_oppositeOf d)]
  · exact freeService_of_not_service service

theorem freeService_none_free {e : Env} {w : Work} (entry : w.lane.lsv.policy.entry ≠ .free) (exit : w.lane.lsv.policy.exit ≠ .free) :
    freeService e w = w := by
  by_cases service : w.lane.lsv.mode = .service
  · rw [freeService_lone (d := .entry) service exit, serveDirection_of_setting (d := .entry) entry]
  · exact freeService_of_not_service service

/-! ## Two FREE directions -/

/-- On an empty queue the direction that comes first is served with all its walkers, and its claim shuts the other out. -/
theorem freeService_first {e : Env} {w : Work} {d : Direction} (service : w.lane.lsv.mode = .service)
    (free : w.lane.lsv.policy.setting d = .free) (claim : w.lane.pq.claim = none) (empty : w.lane.pq.permits = [])
    (order : w.lane.freeOrder = [d, oppositeOf d]) (some : (w.lane.freeWalkers d).length ≠ 0) :
    w.servedWith e d (min (w.lane.freeWalkers d).length 4) (freeService e w) := by
  have supply : w.lane.freeSupply d = 0 := by
    rw [LaneState.freeSupply, empty]
    rfl
  have oneWay : w.lane.oneWay := by
    intro p hp
    rw [empty] at hp
    exact absurd hp List.not_mem_nil
  have length : w.lane.pq.permits.length = 0 := by rw [empty, List.length_nil]
  obtain ⟨served, claimed⟩ := serveFree_fills e d (w.lane.freeWalkers d).length (.inl claim) oneWay
  rw [freeService_of_order service order, serveDirection_of_free free (.inl claim), supply, Nat.sub_zero,
    serveDirection_of_claim (claimed some (by omega)) (ne_oppositeOf d).symm]
  rwa [length, Nat.sub_zero] at served

/-- The distance of a walker to the barrier, negative beyond it. -/
def LaneState.away (l : LaneState) (d : Direction) (x : Track) : Int := (l.geo.xf d : Int) - (l.geo.lead d x.ext : Int)

theorem LaneState.nearest_le {l : LaneState} {d : Direction} {x : Track} (h : x ∈ l.freeWalkers d) :
    ∃ a, l.nearest d = some a ∧ a ≤ l.away d x := by
  have listed : l.away d x ∈ (l.freeWalkers d).map (l.away d) := List.mem_map_of_mem h
  cases least : l.nearest d with
  | none =>
    rw [List.min?_eq_none_iff.mp (show ((l.freeWalkers d).map (l.away d)).min? = none from least)] at listed
    exact absurd listed List.not_mem_nil
  | some a => exact ⟨a, rfl, (List.min?_eq_some_iff.mp (show ((l.freeWalkers d).map (l.away d)).min? = some a from least)).2 _ listed⟩

theorem LaneState.nearest_mem {l : LaneState} {d : Direction} {a : Int} (h : l.nearest d = some a) : ∃ x ∈ l.freeWalkers d, l.away d x = a :=
  List.mem_map.mp (List.min?_mem (show ((l.freeWalkers d).map (l.away d)).min? = some a from h))

theorem LaneState.freeOrder_entry {l : LaneState} {x : Track} (h : x ∈ l.freeWalkers .entry)
    (nearer : ∀ y ∈ l.freeWalkers .exit, l.away .entry x ≤ l.away .exit y) : l.freeOrder = [.entry, .exit] := by
  obtain ⟨a, least, le⟩ := LaneState.nearest_le h
  unfold LaneState.freeOrder
  rw [least]
  cases other : l.nearest .exit with
  | none => rfl
  | some b =>
    obtain ⟨y, hy, rfl⟩ := LaneState.nearest_mem other
    exact if_neg (not_lt.mpr (le.trans (nearer y hy)))

theorem LaneState.freeOrder_exit {l : LaneState} {x : Track} (h : x ∈ l.freeWalkers .exit)
    (nearer : ∀ y ∈ l.freeWalkers .entry, l.away .exit x < l.away .entry y) : l.freeOrder = [.exit, .entry] := by
  obtain ⟨b, least, le⟩ := LaneState.nearest_le h
  unfold LaneState.freeOrder
  rw [least]
  cases other : l.nearest .entry with
  | none => rfl
  | some a =>
    obtain ⟨y, hy, rfl⟩ := LaneState.nearest_mem other
    exact if_pos (lt_of_le_of_lt le (nearer y hy))

/-- The claim of O23 about the free-direction service. -/
theorem freeServiceCoversWalkers : Claims.FreeServiceCoversWalkers := by
  intro e w l r walkers away supply serves other
  have served := freeService_serves e w
  have opposite : ∀ d, other d = oppositeOf d := fun d => by cases d <;> rfl
  refine ⟨freeService_out e w, served.creds, served.ot, served.reported, served.bsu, served.mode, freeService_of_not_service, ?_, ?_,
    freeService_none_free⟩
  · intro d service free barred oneWay
    rw [opposite] at barred ⊢
    exact ⟨freeService_covers service free barred oneWay, freeService_of_other_claim barred⟩
  · intro service entry exit claim empty
    refine ⟨fun x hx nearer => ?_, fun x hx nearer => ?_⟩
    · exact freeService_first (d := .entry) service entry claim empty (LaneState.freeOrder_entry hx nearer)
        (Nat.ne_of_gt (List.length_pos_of_mem hx))
    · exact freeService_first (d := .exit) service exit claim empty (LaneState.freeOrder_exit hx nearer)
        (Nat.ne_of_gt (List.length_pos_of_mem hx))

end Sys2Proof.Machine

/-! The credential record at a completion, and the ends of passages reported (R53, R54, R92 to R95). -/

namespace Sys2Proof.Machine

/-! ## The credential record -/

theorem recordPassage_of_updates {e : Env} {mode : Mode} {d : Direction} {x : PermitCopy} {cs : List Cred} {n : Nat} {c : Cred}
    (number : x.updates = some n) (open_ : mode ≠ .egress) (found : cs.find? (fun y => y.number == n) = some c) :
    recordPassage e mode d (some x) cs
      = (putCred (c.passed e d).counted.1 cs, if (c.passed e d).counted.2 then .spent else .updated) := by
  rw [recordPassage, Option.bind_some, number]
  dsimp only
  rw [if_neg open_, found]

theorem recordPassage_of_absent {e : Env} {mode : Mode} {d : Direction} {x : PermitCopy} {cs : List Cred} {n : Nat}
    (number : x.updates = some n) (open_ : mode ≠ .egress) (absent : cs.find? (fun y => y.number == n) = none) :
    recordPassage e mode d (some x) cs = (cs, .absent) := by
  rw [recordPassage, Option.bind_some, number]
  dsimp only
  rw [if_neg open_, absent]

theorem recordPassage_of_none {e : Env} {mode : Mode} {d : Direction} {copy : Option PermitCopy} {cs : List Cred}
    (h : mode = .egress ∨ copy.bind (·.updates) = none) : recordPassage e mode d copy cs = (cs, .notApplied) := by
  rcases h with egress | none
  · rw [recordPassage]
    split
    · rfl
    · rw [if_pos egress]
  · rw [recordPassage, none]

theorem PermitCopy.updates_of_origin {x : PermitCopy} {n : Nat} (number : x.credential = some n)
    (h : x.origin = .badge ∨ x.origin = .referred ∨ x.origin = .returned) : x.updates = some n := by
  rcases h with origin | origin | origin <;> rw [PermitCopy.updates, origin] <;> exact number

theorem PermitCopy.updates_of_none {x : PermitCopy} (h : x.credential = none ∨ x.origin = .pulse ∨ x.origin = .free) : x.updates = none := by
  rcases h with credential | origin | origin
  · rw [PermitCopy.updates, credential]
    cases x.origin <;> rfl
  · rw [PermitCopy.updates, origin]
  · rw [PermitCopy.updates, origin]

/-- A record after a use of it is counted (R93). -/
theorem Cred.counted_of_none {c : Cred} (uses : c.uses = none) : c.counted = (c, false) := by rw [Cred.counted, uses]

theorem Cred.counted_of_last {c : Cred} {u : Nat} (uses : c.uses = some u) (last : u ≤ 1) :
    c.counted = ({ c with state := .spent, uses := none }, true) := by
  rw [Cred.counted, uses]
  exact if_pos last

theorem Cred.counted_of_more {c : Cred} {u : Nat} (uses : c.uses = some u) (more : ¬u ≤ 1) :
    c.counted = ({ c with uses := some (u - 1) }, false) := by
  rw [Cred.counted, uses]
  exact if_neg more

/-- The claim of O23 about the record: whether a use is counted, and whether it is the last, decides the record field. -/
theorem completionRecordsPassage : Claims.CompletionUpdatesRecord := by
  intro e mode d copy cs
  refine ⟨?_, ?_, ?_⟩
  · rintro x n c rfl number origin open_ found counted after
    have passed := recordPassage_of_updates (e := e) (d := d) (PermitCopy.updates_of_origin number origin) open_ found
    rw [passed]
    have made : ∀ r, counted = r → after = { r with presence := Presence.after d, lastTime := e.clock, lastLane := some e.lane } := by
      rintro r rfl
      cases d <;> rfl
    cases uses : c.uses with
    | none =>
      have plain : counted = c := by simp only [counted, uses]; rw [← uses]
      rw [Cred.counted_of_none (c := c.passed e d) uses, if_neg Bool.false_ne_true, if_neg (by rintro ⟨u, h, -⟩; cases h), made _ plain]
      rfl
    | some u =>
      by_cases last : u ≤ 1
      · have spent : counted = { c with state := .spent, uses := none } := by simp only [counted, uses, last, if_true]
        rw [Cred.counted_of_last (c := c.passed e d) uses last, if_pos rfl, if_pos ⟨u, rfl, last⟩, made _ spent]
        rfl
      · have fewer : counted = { c with uses := some (u - 1) } := by simp only [counted, uses, last, if_false]
        rw [Cred.counted_of_more (c := c.passed e d) uses last, if_neg Bool.false_ne_true,
          if_neg (by rintro ⟨v, same, least⟩; exact last (Option.some.inj same ▸ least)), made _ fewer]
        rfl
  · rintro x n rfl number origin open_ absent
    refine recordPassage_of_absent (PermitCopy.updates_of_origin number origin) open_ (List.find?_eq_none.mpr fun y hy same => ?_)
    exact absent y hy (beq_iff_eq.mp same)
  · intro h
    refine recordPassage_of_none ?_
    rcases h with rfl | egress | ⟨x, rfl, none⟩
    · exact .inr rfl
    · exact .inl egress
    · exact .inr (PermitCopy.updates_of_none none)

end Sys2Proof.Machine

/-! The ends of passages handed on, and what a backout gives back (R39, R53, R54, R94, R95). -/

namespace Sys2Proof.Machine

/-! ## Completions and backouts -/

theorem reportPassage_eq (e : Env) (ended : PassageEnd) (d : Direction) (r : RecordOutcome) (x : Track) (w : Work) :
    reportPassage e ended d r x w
      = w.takes (w.lane.tally (Tallies.passage ended d)) [.passage (passageBody e w.lane.lsv.mode ended d r x)] := rfl

theorem completeTrack_eq (e : Env) (d : Direction) (x : Track) (w : Work) :
    completeTrack e d x w =
      { lane := w.lane.tally (Tallies.passage .completed d)
        creds := (recordPassage e w.lane.lsv.mode d x.bound w.creds).1
        out :=
          w.out ++ [.passage (passageBody e w.lane.lsv.mode .completed d (recordPassage e w.lane.lsv.mode d x.bound w.creds).2 x)] } := rfl

theorem backOutTrack_of_unbound {e : Env} {d : Direction} {x : Track} {w : Work} (h : x.bound = none) :
    backOutTrack e d x w = reportPassage e .backout d .notApplied x w := by rw [backOutTrack, h]

theorem backOutTrack_of_bound {e : Env} {d : Direction} {x : Track} {w : Work} {c : PermitCopy} (h : x.bound = some c) :
    backOutTrack e d x w = reportPassage e .backout d .notApplied x (giveBack e d c w) := by rw [backOutTrack, h]

/-! ## Giving a passage back -/

theorem giveBack_of_queued {e : Env} {d : Direction} {c : PermitCopy} {w : Work} (h : ∃ p ∈ w.lane.pq.permits, p.number = c.number) :
    giveBack e d c w = w.mod fun l =>
      l.setPermits (l.pq.permits.map fun p => if p.number = c.number then p.givenBack (e.now + w.lane.timing.grantPeriod) else p) := by
  obtain ⟨p, mem, same⟩ := h
  exact if_pos (List.any_eq_true.mpr ⟨p, mem, by rwa [beq_iff_eq]⟩)

theorem giveBack_of_gone {e : Env} {d : Direction} {c : PermitCopy} {w : Work} (h : ∀ p ∈ w.lane.pq.permits, p.number ≠ c.number) :
    giveBack e d c w =
      if w.lane.takesReturned d then
        evalOpen e (w.mod fun l => l.setPermits (returnedPermit (e.now + w.lane.timing.grantPeriod) d c :: l.pq.permits))
      else w.emit (.permitEnd (returnedPermit (e.now + w.lane.timing.grantPeriod) d c) .dropped) := by
  refine if_neg fun any => ?_
  obtain ⟨p, mem, same⟩ := List.any_eq_true.mp any
  exact h p mem (beq_iff_eq.mp same)

theorem LaneState.takesReturned_iff (l : LaneState) (d : Direction) :
    l.takesReturned d = true ↔ (l.lsv.mode = .service ∨ l.lsv.mode = .lockdown) ∧ l.pq.permits.length < 4
      ∧ (l.pq.claim = none ∨ l.pq.claim = some d) := by
  simp only [LaneState.takesReturned, Bool.and_eq_true, Bool.or_eq_true, decide_eq_true_eq, and_assoc]
  rfl

/-- What giving a passage back leaves alone. -/
structure Work.GivesBack (w v : Work) : Prop where
  creds : v.creds = w.creds
  ot : v.lane.ot = w.lane.ot
  reported : v.lane.reported = w.lane.reported
  bsu : v.lane.bsu = w.lane.bsu
  mode : v.lane.lsv.mode = w.lane.lsv.mode
  alarms : v.lane.lsv.alarms = w.lane.lsv.alarms
  tallies : v.lane.lsv.tallies = w.lane.lsv.tallies

theorem Work.GivesBack.refl (w : Work) : w.GivesBack w := ⟨rfl, rfl, rfl, rfl, rfl, rfl, rfl⟩

theorem giveBack_givesBack (e : Env) (d : Direction) (c : PermitCopy) (w : Work) : w.GivesBack (giveBack e d c w) := by
  unfold giveBack
  dsimp only
  split
  · exact ⟨rfl, rfl, rfl, rfl, rfl, rfl, rfl⟩
  · split
    · obtain ⟨b, mark, lobby, secure, moves⟩ :=
        evalOpen_moves e (w.mod fun l => l.setPermits (returnedPermit (e.now + w.lane.timing.grantPeriod) d c :: l.pq.permits))
      rw [moves]
      exact ⟨rfl, rfl, rfl, rfl, rfl, rfl, rfl⟩
    · exact ⟨rfl, rfl, rfl, rfl, rfl, rfl, rfl⟩

/-- A backout is what was given back, then its PASSAGE notice and its tally. -/
theorem backOutTrack_after (e : Env) (d : Direction) (x : Track) (w : Work) :
    ∃ v, w.GivesBack v ∧ backOutTrack e d x w = reportPassage e .backout d .notApplied x v := by
  cases bound : x.bound with
  | none => exact ⟨w, .refl w, backOutTrack_of_unbound bound⟩
  | some c => exact ⟨giveBack e d c w, giveBack_givesBack e d c w, backOutTrack_of_bound bound⟩

/-- A RETURNED permit at the head of the queue sets the claim to its direction. -/
theorem LaneState.setPermits_cons_claim (p : Permit) (ps : List Permit) (l : LaneState) : (l.setPermits (p :: ps)).pq.claim = some p.dir := rfl

/-- The claim of O23 about the ends of passages. -/
theorem passageEndsReported : Claims.PassageEndsReported := by
  intro e d x w mode passage deadline returned takes done back
  have told : ∀ v : Work, w.GivesBack v →
      (reportPassage e .backout d .notApplied x v).out = v.out ++ [passage .backout .notApplied] := by
    intro v gives
    rw [reportPassage_eq, gives.mode]
    rfl
  refine ⟨⟨rfl, rfl, ?_, rfl⟩, ?_, fun bound => ?_, fun c bound => ⟨fun queued => ?_, fun gone takesIt => ?_, fun gone drops => ?_⟩⟩
  · cases d <;> rfl
  · obtain ⟨v, gives, after⟩ := backOutTrack_after e d x w
    rw [show back = _ from after, reportPassage_eq]
    exact ⟨gives.creds, gives.ot, gives.reported, gives.bsu, gives.mode, gives.alarms,
      congrArg (fun t : Tallies => { t with backouts := t.backouts + 1 }) gives.tallies⟩
  · rw [show back = _ from backOutTrack_of_unbound bound]
    exact ⟨told w (.refl w), rfl, rfl⟩
  · have gives := giveBack_givesBack e d c w
    rw [show back = _ from backOutTrack_of_bound bound, told _ gives, giveBack_of_queued queued]
    exact ⟨rfl, rfl, rfl⟩
  · have gives := giveBack_givesBack e d c w
    have inserted := giveBack_of_gone (e := e) (d := d) gone
    rw [if_pos ((w.lane.takesReturned_iff d).mpr takesIt)] at inserted
    rw [show back = _ from backOutTrack_of_bound bound, told _ gives, inserted]
    obtain ⟨b, mark, lobby, secure, moves⟩ := evalOpen_moves e (w.mod fun l => l.setPermits (returned c :: l.pq.permits))
    refine ⟨?_, ?_, ?_⟩
    · rw [evalOpen_out]
      rfl
    · exact congrArg (fun v : Work => v.lane.pq.permits) moves
    · exact congrArg (fun v : Work => v.lane.pq.claim) moves
  · have gives := giveBack_givesBack e d c w
    have dropped := giveBack_of_gone (e := e) (d := d) gone
    rw [if_neg fun on => drops ((w.lane.takesReturned_iff d).mp on)] at dropped
    rw [show back = _ from backOutTrack_of_bound bound, told _ gives, dropped]
    exact ⟨List.append_assoc .., rfl, rfl⟩

end Sys2Proof.Machine

/-! A crossing handed on: bound to the first READY permit of its direction, or unauthorized (R37, R51, R52, R90). -/

namespace Sys2Proof.Machine

/-! ## The track of a crossing -/

/-- The track of a crossing is changed, in the list or among the ended ones, and no other is. -/
def Handing.marks (h : Handing) (c : Crosser) (f : Track → Track) (r : Handing) : Prop :=
  r.work.lane.reported = h.work.lane.reported
  ∧ (c.ended = false →
    r.ended = h.ended
    ∧ r.work.lane.ot =
        { h.work.lane.ot with tracks := h.work.lane.ot.tracks.map fun x => if x.number = c.track.number then f x else x })
  ∧ (c.ended = true →
    r.work.lane.ot = h.work.lane.ot
    ∧ r.ended = h.ended.map fun x => if x.track.number = c.track.number then { x with track := f x.track } else x)

theorem Handing.modTrack_marks (c : Crosser) (f : Track → Track) (h : Handing) : h.marks c f (h.modTrack c f) := by
  unfold Handing.modTrack
  refine ⟨?_, fun live => ?_, fun ended => ?_⟩
  · split <;> rfl
  · rw [if_neg (by rw [live]; exact Bool.false_ne_true)]
    exact ⟨rfl, rfl⟩
  · rw [if_pos ended]
    exact ⟨rfl, rfl⟩

/-- Work that leaves the tracks alone keeps the change. -/
theorem Handing.marks.run {h r : Handing} {c : Crosser} {f : Track → Track} (m : h.marks c f r) {g : Work → Work}
    (ot : (g r.work).lane.ot = r.work.lane.ot) (reported : (g r.work).lane.reported = r.work.lane.reported) : h.marks c f (r.run g) := by
  obtain ⟨kept, live, ended⟩ := m
  exact ⟨reported.trans kept, fun h => ⟨(live h).1, ot.trans (live h).2⟩, fun h => ⟨ot.trans (ended h).1, (ended h).2⟩⟩

/-- Changing the track of a crossing changes nothing else of the lane's work. -/
theorem Handing.modTrack_work (c : Crosser) (f : Track → Track) (h : Handing) :
    ∃ o, (h.modTrack c f).work = h.work.mod fun l => { l with ot := o } := by
  unfold Handing.modTrack
  split
  · exact ⟨h.work.lane.ot, rfl⟩
  · exact ⟨_, rfl⟩

/-! ## A crossing, case by case -/

theorem handCrossing_of_exempt {e : Env} {d : Direction} {h : Handing} {c : Crosser} (exempt : c.track.exempt = true) :
    handCrossing e d h c = h := if_pos exempt

theorem handCrossing_of_bound {e : Env} {d : Direction} {h : Handing} {c : Crosser} {p : Permit} {queue : List Permit}
    (counts : c.track.exempt = false)
    (bound : bindFirst (e.now + h.work.lane.timing.grantPeriod) d h.work.lane.pq.permits = some (p, queue)) :
    handCrossing e d h c =
      (h.modTrack c fun t => { t with bound := some p.copy }).run fun w =>
        settleUsed e p (w.mod fun l => l.modPq fun q => { q with permits := queue }) := by
  rw [handCrossing, counts, if_neg Bool.false_ne_true, bound]

theorem handCrossing_of_none {e : Env} {d : Direction} {h : Handing} {c : Crosser} (counts : c.track.exempt = false)
    (none : ∀ p ∈ h.work.lane.pq.permits, p.passedOver d) :
    handCrossing e d h c =
      if h.work.lane.lsv.mode = .egress then h
      else (h.modTrack c fun t => { t with violated := true }).run (reportCrossing e d c.track) := by
  rw [handCrossing, counts, if_neg Bool.false_ne_true, (bindFirst_eq_none_iff _ d _).mpr none]

theorem settleUsed_of_more {e : Env} {p : Permit} {w : Work} (h : p.remaining ≠ 0) : settleUsed e p w = w.mod LaneState.reclaim := if_neg h

theorem settleUsed_of_last {e : Env} {p : Permit} {w : Work} (h : p.remaining = 0) :
    settleUsed e p w = freeService e (removePermit p .used w) := if_pos h

theorem settleUsed_keeps_tracks (e : Env) (p : Permit) (w : Work) :
    (settleUsed e p w).lane.ot = w.lane.ot ∧ (settleUsed e p w).lane.reported = w.lane.reported ∧ (settleUsed e p w).creds = w.creds := by
  unfold settleUsed
  split
  · have served := freeService_serves e (removePermit p .used w)
    exact ⟨served.ot, served.reported, served.creds⟩
  · exact ⟨rfl, rfl, rfl⟩

theorem bindFirst_of_split {deadline : Nat} {d : Direction} {ahead behind : List Permit} {p : Permit} (passed : ∀ q ∈ ahead, q.passedOver d)
    (ready : p.dir = d ∧ p.state = .ready) :
    bindFirst deadline d (ahead ++ p :: behind) =
      some ({ p with used := p.used + 1, deadline := deadline }, ahead ++ { p with used := p.used + 1, deadline := deadline } :: behind) := by
  induction ahead with
  | nil => exact bindFirst_taken behind ready
  | cons q ahead ih =>
    rw [List.cons_append, bindFirst_passedOver _ (passed q List.mem_cons_self), ih fun x hx => passed x (List.mem_cons_of_mem q hx)]
    rfl

/-- The queue without a permit of a number, which stands among others. -/
theorem filter_number_split (ahead behind : List Permit) (b : Permit) (n : Nat) (same : b.number = n) :
    (ahead ++ b :: behind).filter (fun q => decide (q.number ≠ n)) = (ahead ++ behind).filter fun q => decide (q.number ≠ n) := by
  rw [List.filter_append, List.filter_append, List.filter_cons_of_neg (by simpa using same)]

/-- The claim of O23 about crossings. -/
theorem crossingBindsOrViolates : Claims.CrossingBindsOrViolates := by
  intro e d h c l r changed kind
  refine ⟨handCrossing_of_exempt, fun counts none egress => ?_, fun counts none other => ?_, ?_⟩
  · exact (handCrossing_of_none counts none).trans (if_pos egress)
  · have crossed : r = _ := (handCrossing_of_none counts none).trans (if_neg other)
    obtain ⟨o, work⟩ := h.modTrack_work c fun t => { t with violated := true }
    obtain ⟨chosen, out, alarm, bc, pq⟩ := crossingKindChosen e d c.track (h.work.mod fun l => { l with ot := o })
    have kinds : (h.work.mod fun l => { l with ot := o }).lane.crossingKind d = kind := h.work.lane.crossingKind_eq d
    have same := chosen.symm.trans kinds
    rw [same] at out alarm
    have handed : r.work = reportCrossing e d c.track (h.work.mod fun l => { l with ot := o }) := by
      rw [crossed, ← work]
      rfl
    have marked : h.marks c (fun x => { x with violated := true }) r := by
      rw [crossed]
      exact (h.modTrack_marks c _).run rfl rfl
    rw [handed]
    exact ⟨marked, out, alarm, pq, bc, rfl⟩
  · intro ahead p behind counts queued passed dir ready bound
    have binds := bindFirst_of_split (deadline := e.now + h.work.lane.timing.grantPeriod) (behind := behind) passed ⟨dir, ready⟩
    have crossed : r = _ := handCrossing_of_bound counts ((congrArg _ queued).trans binds)
    obtain ⟨o, work⟩ := h.modTrack_work c fun t => { t with bound := some bound.copy }
    have handed : r.work =
        settleUsed e bound ((h.work.mod fun l => { l with ot := o }).mod fun l => l.modPq fun q =>
          { q with permits := ahead ++ bound :: behind }) := by
      rw [crossed, ← work]
      rfl
    have marked : h.marks c (fun x => { x with bound := some bound.copy }) r := by
      rw [crossed]
      obtain ⟨ot, reported, -⟩ := settleUsed_keeps_tracks e bound
        ((h.modTrack c fun t => { t with bound := some bound.copy }).work.mod fun l => l.modPq fun q =>
          { q with permits := ahead ++ bound :: behind })
      exact (h.modTrack_marks c _).run ot reported
    refine ⟨marked, ?_, fun more => ?_, fun last => ?_⟩
    · rw [handed]
      exact (settleUsed_keeps_tracks e bound _).2.2
    · rw [handed, settleUsed_of_more (Nat.sub_ne_zero_of_lt more)]
      exact ⟨rfl, rfl⟩
    · rw [handed, settleUsed_of_last (Nat.sub_eq_zero_of_le last)]
      generalize emptied : removePermit bound .used _ = v
      have lane : v.lane.pq.permits = (ahead ++ behind).filter fun q => decide (q.number ≠ p.number) := by
        rw [← emptied]
        exact filter_number_split ahead behind bound p.number rfl
      have out : v.out = h.work.out ++ [.permitEnd bound .used] := by
        rw [← emptied]
        rfl
      have mode : v.lane.lsv.mode = l.lsv.mode := by
        rw [← emptied]
        rfl
      refine ⟨(freeService_out e v).trans out, ?_⟩
      obtain ⟨freed, permits, free⟩ := (freeService_serves e v).permits
      by_cases service : l.lsv.mode = .service
      · exact ⟨freed, permits.trans (by rw [lane]), free, fun other => absurd service other⟩
      · refine ⟨[], ?_, fun _ hq => absurd hq List.not_mem_nil, fun _ => rfl⟩
        rw [freeService_of_not_service (by rw [mode]; exact service), lane, List.append_nil]

end Sys2Proof.Machine

/-! Losses, loiters and overflows handed on (R31, R40, R41, R91, R95, R96). -/

namespace Sys2Proof.Machine

/-! ## Loiters -/

/-- A latched kind after so many raises at one time. -/
def LatchedAlarm.raisedBy (now autoClear n : Nat) (a : LatchedAlarm) : LatchedAlarm :=
  if n = 0 then a
  else { set := true, deadline := if autoClear = 0 then none else some (now + autoClear * 1000), raises := min 255 (a.raises + n) }

theorem LatchedAlarm.raisedBy_raised (now autoClear n : Nat) (a : LatchedAlarm) :
    (a.raised now autoClear).raisedBy now autoClear n = a.raisedBy now autoClear (n + 1) := by
  cases n with
  | zero => rfl
  | succ n =>
    have count : min 255 (min 255 (a.raises + 1) + (n + 1)) = min 255 (a.raises + (n + 1 + 1)) := by omega
    rw [LatchedAlarm.raisedBy, LatchedAlarm.raisedBy, if_neg (Nat.succ_ne_zero _), if_neg (Nat.succ_ne_zero _), LatchedAlarm.raised, count]

/-- The lane after so many loiters. -/
def LaneState.raiseLoiter (now n : Nat) (l : LaneState) : LaneState :=
  l.modLsv fun v => { v with alarms := v.alarms.putLatched .loiter (v.alarms.loiter.raisedBy now l.timing.autoClear n) }

theorem LaneState.raiseLoiter_raise (now n : Nat) (l : LaneState) : (l.raise now .loiter).raiseLoiter now n = l.raiseLoiter now (n + 1) :=
  congrArg (fun a => l.modLsv fun v => { v with alarms := v.alarms.putLatched .loiter a })
    (LatchedAlarm.raisedBy_raised now l.timing.autoClear n l.lsv.alarms.loiter)

def loiterNotice (now : Nat) (x : Track) : NoticeBody := .loiter x.number x.dir x.ext (now - x.born)

theorem foldl_reportLoiter (e : Env) (xs : List Track) (w : Work) :
    xs.foldl (reportLoiter e) w = w.takes (w.lane.raiseLoiter e.now xs.length) (xs.map (loiterNotice e.now)) := by
  induction xs generalizing w with
  | nil => exact w.mod_eq_takes id
  | cons x xs ih =>
    rw [List.foldl_cons, ih, List.length_cons, ← LaneState.raiseLoiter_raise]
    exact Work.takes_takes w (w.lane.raise e.now .loiter) _ [loiterNotice e.now x] _

/-- The loiterers marked, before they are reported. -/
def LaneState.markLoiters (now : Nat) (l : LaneState) : LaneState :=
  l.modOt fun o => { o with tracks := o.tracks.map fun t => { t with loitered := t.loitered || t.loiters now l.timing.loiter } }

theorem handLoiters_of_egress {e : Env} {w : Work} (h : w.lane.lsv.mode = .egress) : handLoiters e w = w := if_pos h

theorem handLoiters_eq {e : Env} {w : Work} (h : w.lane.lsv.mode ≠ .egress) :
    handLoiters e w =
      w.takes
        ((w.lane.markLoiters e.now).raiseLoiter e.now (w.lane.ot.tracks.filter (Track.loiters e.now w.lane.timing.loiter)).length)
        ((w.lane.ot.tracks.filter (Track.loiters e.now w.lane.timing.loiter)).map (loiterNotice e.now)) :=
  (if_neg h).trans (foldl_reportLoiter e _ (w.mod (LaneState.markLoiters e.now)))

/-! ## Overflow -/

theorem handOverflow_nil (e : Env) (before : Bool) (w : Work) : handOverflow e before [] w = w := rfl

theorem handOverflow_of_ne_nil {e : Env} {before : Bool} {untracked : List Extent} {w : Work} (h : untracked ≠ []) :
    handOverflow e before untracked w =
      w.takes ((w.lane.raise e.now .overflow).tally Tallies.overflowOne) (if before then [] else [.overflow untracked]) := by
  have some : untracked.isEmpty = false := by
    cases untracked with
    | nil => exact absurd rfl h
    | cons => rfl
  rw [handOverflow, some, if_neg Bool.false_ne_true]
  cases before with
  | false => rfl
  | true => exact Work.mod_eq_takes w fun l => (l.raise e.now .overflow).tally Tallies.overflowOne

/-- The claim of O23 about losses, loiters and overflows. -/
theorem lossLoiterOverflowHandedOn : Claims.LossLoiterOverflowHandedOn := by
  refine ⟨fun cause x w => rfl, fun e w => ?_, fun e before untracked w => ⟨?_, fun some => ?_⟩⟩
  · intro old late r alarm
    refine ⟨handLoiters_of_egress, fun lit => ?_⟩
    have handed : r = _ := handLoiters_eq lit
    have lane : r.lane.lsv.alarms.loiter = alarm.raisedBy e.now w.lane.timing.autoClear late.length := by
      rw [handed]
      rfl
    rw [handed] at lane ⊢
    refine ⟨rfl, rfl, lane.trans ?_, rfl, rfl, rfl, rfl⟩
    unfold LatchedAlarm.raisedBy
    exact ite_congr (propext List.length_eq_zero_iff) (fun _ => rfl) fun _ => rfl
  · rintro rfl
    exact handOverflow_nil e before w
  · intro r
    have handed : r = _ := handOverflow_of_ne_nil some
    rw [handed]
    exact ⟨rfl, rfl, rfl, rfl, rfl, rfl, rfl, rfl, rfl⟩

end Sys2Proof.Machine

/-! The order of sorted lists and of merged ones, and the order in which a frame's events are handed on (R21, R22). -/

namespace Sys2Proof.Machine

/-! ## A sorted list -/

theorem insertBy_perm {α : Type} (ahead : α → α → Bool) (x : α) (ys : List α) : (insertBy ahead x ys).Perm (x :: ys) := by
  induction ys with
  | nil => exact .refl _
  | cons y ys ih =>
    unfold insertBy
    split
    · exact (ih.cons y).trans (.swap x y ys)
    · exact .refl _

theorem sortBy_perm {α : Type} (ahead : α → α → Bool) (xs : List α) : (sortBy ahead xs).Perm xs := by
  induction xs with
  | nil => exact .refl _
  | cons x xs ih => exact (insertBy_perm ahead x _).trans (ih.cons x)

/-- Sorting by a test that decides a transitive relation one way or the other gives a list in its order. -/
theorem sortBy_pairwise {α : Type} {ahead : α → α → Bool} {R : α → α → Prop} (before : ∀ a b, ahead a b = true → R a b)
    (behind : ∀ a b, ahead a b = false → R b a) (trans : ∀ a b c, R a b → R b c → R a c) (xs : List α) :
    (sortBy ahead xs).Pairwise R := by
  have inserted : ∀ (x : α) (ys : List α), ys.Pairwise R → (insertBy ahead x ys).Pairwise R := by
    intro x ys
    induction ys with
    | nil => exact fun _ => List.pairwise_singleton ..
    | cons y ys ih =>
      intro ordered
      obtain ⟨first, rest⟩ := List.pairwise_cons.mp ordered
      unfold insertBy
      split
      next goes =>
        refine List.pairwise_cons.mpr ⟨fun z hz => ?_, ih rest⟩
        rcases List.mem_cons.mp ((insertBy_perm ahead x ys).mem_iff.mp hz) with rfl | old
        · exact before y z goes
        · exact first z old
      next stays =>
        have lt := behind y x (Bool.eq_false_iff.mpr stays)
        refine List.pairwise_cons.mpr ⟨fun z hz => ?_, ordered⟩
        rcases List.mem_cons.mp hz with rfl | old
        · exact lt
        · exact trans x y z lt (first z old)
  induction xs with
  | nil => exact List.Pairwise.nil
  | cons x xs ih => exact inserted x _ ih

/-- Sorting keeps the order of elements that the test does not part. -/
theorem sortBy_filter {α : Type} {ahead : α → α → Bool} {p : α → Bool} (level : ∀ a b, p a = true → p b = true → ahead a b = false)
    (xs : List α) : (sortBy ahead xs).filter p = xs.filter p := by
  have inserted : ∀ (x : α) (ys : List α), (insertBy ahead x ys).filter p = (x :: ys).filter p := by
    intro x ys
    induction ys with
    | nil => rfl
    | cons y ys ih =>
      unfold insertBy
      split
      next goes =>
        cases hx : p x with
        | false => rw [List.filter_cons, ih, List.filter_cons_of_neg (a := x) (by simp [hx]), List.filter_cons_of_neg (a := x) (by simp [hx]),
            List.filter_cons]
        | true =>
          have hy : p y = false := Bool.eq_false_iff.mpr fun on => Bool.false_ne_true ((level y x on hx).symm.trans goes)
          rw [List.filter_cons_of_neg (by simp [hy]), ih, List.filter_cons_of_pos hx, List.filter_cons_of_pos hx,
            List.filter_cons_of_neg (by simp [hy])]
      next => rfl
  induction xs with
  | nil => rfl
  | cons x xs ih =>
    rw [sortBy, List.foldr_cons, inserted, List.filter_cons, List.filter_cons]
    exact ite_congr rfl (fun _ => congrArg (x :: ·) ih) fun _ => ih

theorem frontToRear_perm {α : Type} (extent : α → Extent) (g : Geometry) (d : Direction) (xs : List α) :
    (frontToRear extent g d xs).Perm xs := by
  cases d with
  | entry => exact (sortBy_perm _ _).trans (List.reverse_perm xs)
  | exit => exact sortBy_perm _ _

theorem frontToRear_pairwise {α : Type} (extent : α → Extent) (g : Geometry) (d : Direction) (xs : List α) :
    (frontToRear extent g d xs).Pairwise fun a b => g.lead d (extent b) ≤ g.lead d (extent a) := by
  refine sortBy_pairwise (fun a b h => ?_) (fun a b h => ?_) (fun a b c h k => k.trans h) _
  · exact Nat.le_of_lt (of_decide_eq_true h)
  · exact Nat.le_of_not_lt (of_decide_eq_false h)

theorem frontToRear_filter {α : Type} (extent : α → Extent) (g : Geometry) (d : Direction) (xs : List α) (lead : Nat) :
    (frontToRear extent g d xs).filter (fun a => decide (g.lead d (extent a) = lead)) =
      (match d with | .entry => xs.reverse | .exit => xs).filter fun a => decide (g.lead d (extent a) = lead) := by
  have level : ∀ a b, decide (g.lead d (extent a) = lead) = true → decide (g.lead d (extent b) = lead) = true →
      decide (g.lead d (extent b) < g.lead d (extent a)) = false := by
    intro a b ha hb
    rw [of_decide_eq_true ha, of_decide_eq_true hb]
    exact decide_eq_false (Nat.lt_irrefl lead)
  cases d <;> exact sortBy_filter level _

/-! ## The notices of a stage -/

/-- Notices of one sort follow those posted. -/
def Work.postsSort (sort : NoticeBody → Prop) (w v : Work) : Prop := ∃ bs, v.out = w.out ++ bs ∧ ∀ b ∈ bs, sort b

theorem Work.postsSort.of_eq {sort : NoticeBody → Prop} {w v : Work} (h : v.out = w.out) : w.postsSort sort v :=
  ⟨[], by rw [h, List.append_nil], fun _ hb => absurd hb List.not_mem_nil⟩

theorem Work.postsSort.of_one {sort : NoticeBody → Prop} {w v : Work} {b : NoticeBody} (h : v.out = w.out ++ [b]) (is : sort b) :
    w.postsSort sort v := ⟨[b], h, fun _ hb => by rw [List.mem_singleton.mp hb]; exact is⟩

theorem Work.postsSort.trans {sort : NoticeBody → Prop} {a b c : Work} (h : a.postsSort sort b) (k : b.postsSort sort c) : a.postsSort sort c := by
  obtain ⟨xs, first, hx⟩ := h
  obtain ⟨ys, second, hy⟩ := k
  exact ⟨xs ++ ys, by rw [second, first, List.append_assoc], fun z hz => (List.mem_append.mp hz).elim (hx z) (hy z)⟩

theorem Work.postsSort.foldl {α : Type} {sort : NoticeBody → Prop} {f : Work → α → Work}
    (step : ∀ (w : Work) (x : α), w.postsSort sort (f w x))
    (xs : List α) (w : Work) : w.postsSort sort (xs.foldl f w) := by
  induction xs generalizing w with
  | nil => exact .of_eq rfl
  | cons x xs ih => exact (step w x).trans (ih _)

/-! ## Ends and crossings -/

def NoticeBody.endsTrack (b : NoticeBody) : Prop :=
  (∃ n d x cause c, b = .lost n d x cause c) ∨ (∃ p, b = .permitEnd p .dropped) ∨ ∃ x, b = .passage x ∧ x.ended = .backout

def NoticeBody.tellsCrossing (b : NoticeBody) : Prop := (∃ kind n d x bar m, b = .crossing kind n d x bar m) ∨ ∃ p, b = .permitEnd p .used

theorem giveBack_postsEnd (e : Env) (d : Direction) (c : PermitCopy) (w : Work) : w.postsSort NoticeBody.endsTrack (giveBack e d c w) := by
  unfold giveBack
  dsimp only
  split
  · exact .of_eq rfl
  · split
    · exact .of_eq (evalOpen_out ..)
    · exact .of_one rfl (.inr (.inl ⟨_, rfl⟩))

theorem backOutTrack_postsEnd (e : Env) (d : Direction) (x : Track) (w : Work) : w.postsSort NoticeBody.endsTrack (backOutTrack e d x w) := by
  have reported : ∀ v : Work, v.postsSort NoticeBody.endsTrack (reportPassage e .backout d .notApplied x v) := fun v =>
    .of_one rfl (.inr (.inr ⟨_, rfl, rfl⟩))
  cases bound : x.bound with
  | none =>
    rw [backOutTrack_of_unbound bound]
    exact reported w
  | some c =>
    rw [backOutTrack_of_bound bound]
    exact (giveBack_postsEnd e d c w).trans (reported _)

theorem handEnd_postsEnd (e : Env) (w : Work) (x : Ended) : w.postsSort NoticeBody.endsTrack (handEnd e w x) := by
  unfold handEnd
  split
  · exact backOutTrack_postsEnd ..
  · exact .of_one rfl (.inl ⟨_, _, _, _, _, rfl⟩)
  · exact .of_eq rfl

theorem handBirths_out (e : Env) (n : Nat) (w : Work) : (handBirths e n w).out = w.out := by
  induction n generalizing w with
  | zero => rfl
  | succ n ih => exact (ih _).trans (freeService_out e w)

theorem Handing.modTrack_out (c : Crosser) (f : Track → Track) (h : Handing) : (h.modTrack c f).work.out = h.work.out := by
  obtain ⟨o, work⟩ := h.modTrack_work c f
  rw [work]
  rfl

theorem settleUsed_postsCrossing (e : Env) (p : Permit) (w : Work) : w.postsSort NoticeBody.tellsCrossing (settleUsed e p w) := by
  unfold settleUsed
  split
  · exact .of_one (freeService_out e (removePermit p .used w)) (.inr ⟨p, rfl⟩)
  · exact .of_eq rfl

theorem handCrossing_postsCrossing (e : Env) (d : Direction) (h : Handing) (c : Crosser) :
    h.work.postsSort NoticeBody.tellsCrossing (handCrossing e d h c).work := by
  unfold handCrossing
  split
  · exact .of_eq rfl
  · split
    next p queue _ =>
      have same := h.modTrack_out c fun t => { t with bound := some p.copy }
      exact Work.postsSort.trans (.of_eq same) (settleUsed_postsCrossing e p _)
    next =>
      split
      · exact .of_eq rfl
      · have same := h.modTrack_out c fun t => { t with violated := true }
        exact Work.postsSort.trans (.of_eq same) (.of_one (reportCrossing_out ..) (.inl ⟨_, _, _, _, _, _, rfl⟩))

/-- A crossing may mark an ended track, but no end becomes another. -/
theorem handCrossing_ends (e : Env) (d : Direction) (h : Handing) (c : Crosser) :
    (handCrossing e d h c).ended.map (·.ended) = h.ended.map (·.ended) := by
  have marked : ∀ f : Track → Track, (h.modTrack c f).ended.map (·.ended) = h.ended.map (·.ended) := by
    intro f
    unfold Handing.modTrack
    split
    · rw [List.map_map]
      refine List.map_congr_left fun x _ => ?_
      rw [Function.comp_apply]
      split <;> rfl
    · rfl
  unfold handCrossing
  split
  · rfl
  · split
    · exact marked _
    · split
      · rfl
      · exact marked _

theorem foldl_handCrossing (e : Env) (cs : List (Direction × Crosser)) (h : Handing) :
    h.work.postsSort NoticeBody.tellsCrossing (cs.foldl (fun k c => handCrossing e c.1 k c.2) h).work
      ∧ (cs.foldl (fun k c => handCrossing e c.1 k c.2) h).ended.map (·.ended) = h.ended.map (·.ended) := by
  induction cs generalizing h with
  | nil => exact ⟨.of_eq rfl, rfl⟩
  | cons c cs ih =>
    obtain ⟨posts, ends⟩ := ih (handCrossing e c.1 h c.2)
    exact ⟨(handCrossing_postsCrossing e c.1 h c.2).trans posts, ends.trans (handCrossing_ends e c.1 h c.2)⟩

/-! ## Completions -/

theorem interleave_length {α : Type} (order : List Bool) (xs ys : List α) : (interleave order xs ys).length = xs.length + ys.length := by
  fun_induction interleave order xs ys with
  | case1 xs ys => exact List.length_append
  | case2 order x xs ys ih => rw [List.length_cons, ih, List.length_cons, Nat.succ_add]
  | case3 order xs y ys ih => rw [List.length_cons, ih, List.length_cons, Nat.add_assoc]
  | case4 order ys => exact (Nat.zero_add _).symm
  | case5 order xs => rfl

def TrackEnd.completes : TrackEnd → Bool
  | .completed _ => true
  | .backedOut _ => false
  | .lost _ => false

theorem completersOf_length (g : Geometry) (xs : List Ended) :
    (completersOf g .entry xs).length + (completersOf g .exit xs).length = (xs.map (·.ended)).countP TrackEnd.completes := by
  simp only [completersOf, List.length_map, (frontToRear_perm Track.ext g _ _).length_eq]
  induction xs with
  | nil => rfl
  | cons x xs ih =>
    rw [List.map_cons, List.countP_cons, ← ih, List.filterMap_cons, List.filterMap_cons]
    cases x.ended with
    | completed d =>
      cases d with
      | entry => exact Nat.succ_add _ _
      | exit => rfl
    | backedOut d => rfl
    | lost c => rfl

/-- Each completion posts its PASSAGE notice. -/
theorem foldl_completeTrack_out (e : Env) (cs : List (Direction × Track)) (w : Work) :
    ∃ bs, (cs.foldl (fun v c => completeTrack e c.1 c.2 v) w).out = w.out ++ bs ∧ bs.length = cs.length
      ∧ ∀ b ∈ bs, ∃ x, b = .passage x ∧ x.ended = .completed := by
  induction cs generalizing w with
  | nil => exact ⟨[], (List.append_nil _).symm, rfl, fun _ hb => absurd hb List.not_mem_nil⟩
  | cons c cs ih =>
    obtain ⟨bs, out, count, all⟩ := ih (completeTrack e c.1 c.2 w)
    refine ⟨_ :: bs, out.trans (List.append_assoc ..), congrArg (· + 1) count, fun b hb => ?_⟩
    rcases List.mem_cons.mp hb with rfl | old
    · exact ⟨_, rfl, rfl⟩
    · exact all b old

theorem handLoiters_out (e : Env) (w : Work) : w.postsSort (fun b => ∃ n d x age, b = .loiter n d x age) (handLoiters e w) := by
  by_cases egress : w.lane.lsv.mode = .egress
  · rw [handLoiters_of_egress egress]
    exact .of_eq rfl
  · rw [handLoiters_eq egress]
    refine ⟨_, rfl, fun b hb => ?_⟩
    obtain ⟨x, -, rfl⟩ := List.mem_map.mp hb
    exact ⟨_, _, _, _, rfl⟩

theorem handOverflow_out (e : Env) (before : Bool) (untracked : List Extent) (w : Work) :
    (handOverflow e before untracked w).out = w.out ++ (if untracked = [] ∨ before = true then [] else [.overflow untracked]) := by
  by_cases none : untracked = []
  · rw [if_pos (.inl none), none, handOverflow_nil, List.append_nil]
  · rw [handOverflow_of_ne_nil none]
    cases before with
    | false => exact congrArg (w.out ++ ·) (if_neg fun h => h.elim none Bool.false_ne_true).symm
    | true => exact congrArg (w.out ++ ·) (if_pos (Or.inr rfl)).symm

/-- The claim of O23 about the order of a frame's events, and of front to rear. -/
theorem frameEventsInOrder : Claims.FrameEventsInOrder := by
  refine ⟨fun e order before f w => ?_, fun α extent g d xs =>
    ⟨frontToRear_perm extent g d xs, frontToRear_pairwise extent g d xs, frontToRear_filter extent g d xs⟩⟩
  obtain ⟨ends, ended, endSort⟩ := Work.postsSort.foldl (handEnd_postsEnd e) f.ended (w.mod fun l => { l with ot := f.ot })
  have born := handBirths_out e f.startEnd (f.ended.foldl (handEnd e) (w.mod fun l => { l with ot := f.ot }))
  rw [handEvents]
  generalize handBirths e f.startEnd _ = births at born ⊢
  obtain ⟨⟨crossings, crossed, crossSort⟩, sameEnds⟩ := foldl_handCrossing e
    (interleave order.crossings
      (crossersOf births.lane.geo .entry f.crossers
        (f.ended.filterMap fun x => if x.crosses then some { track := x.track, ended := true } else none))
      (crossersOf births.lane.geo .exit f.crossers
        (f.ended.filterMap fun x => if x.crosses then some { track := x.track, ended := true } else none)))
    { work := births, ended := f.ended }
  rw [handCrossings]
  dsimp only at crossed sameEnds ⊢
  generalize List.foldl (fun k (c : Direction × Crosser) => handCrossing e c.1 k c.2) { work := births, ended := f.ended } _ = hand
    at crossed sameEnds ⊢
  obtain ⟨completions, completed, count, completeSort⟩ := foldl_completeTrack_out e
    (interleave order.completions (completersOf hand.work.lane.geo .entry hand.ended) (completersOf hand.work.lane.geo .exit hand.ended)) hand.work
  rw [interleave_length, completersOf_length, sameEnds] at count
  obtain ⟨loiters, loitered, loiterSort⟩ := handLoiters_out e (handCompletions e order.completions hand)
  refine ⟨ends, crossings, completions, loiters, _, ?_, endSort, crossSort, completeSort, ?_, loiterSort, rfl⟩
  · have done : (handCompletions e order.completions hand).out = hand.work.out ++ completions := completed
    have left : births.out = w.out ++ ends := born.trans ended
    rw [handOverflow_out, loitered, done, crossed, left]
  · rw [count, List.countP_map, List.countP_eq_length_filter]
    rfl

/-- Settles O23: claim by claim — the record, the ends, the crossings, the losses, loiters and overflows, the free-direction service and
the order of a frame's events. -/
theorem completionUpdatesRecord : Obligations.CompletionUpdatesRecord :=
  ⟨completionRecordsPassage, passageEndsReported, crossingBindsOrViolates, lossLoiterOverflowHandedOn, freeServiceCoversWalkers,
    frameEventsInOrder⟩

end Sys2Proof.Machine

/-! How a group is settled, and what becomes of a track without a shadow (R25 to R30, Tables 2-4 and 2-5). -/

namespace Sys2Proof.Machine

/-! ## A track without a shadow -/

theorem Track.endWithoutShadow_entry {x : Track} (dir : x.dir = some .entry) (g : Geometry) (limit : Nat) :
    x.endWithoutShadow g limit =
      if x.ext.hi + 1 = g.nb then some (.completed .entry)
      else if x.ext.lo = 0 then some (.backedOut .entry)
      else if limit < x.coastCount + 1 then some (.lost .coasted) else none := by
  simp only [Track.endWithoutShadow, dir, Geometry.touchesFar, Geometry.touchesStart, Geometry.touchesTop, decide_eq_true_eq]

theorem Track.endWithoutShadow_exit {x : Track} (dir : x.dir = some .exit) (g : Geometry) (limit : Nat) :
    x.endWithoutShadow g limit =
      if x.ext.lo = 0 then some (.completed .exit)
      else if x.ext.hi + 1 = g.nb then some (.backedOut .exit)
      else if limit < x.coastCount + 1 then some (.lost .coasted) else none := by
  simp only [Track.endWithoutShadow, dir, Geometry.touchesFar, Geometry.touchesStart, Geometry.touchesTop, decide_eq_true_eq]

theorem Track.endWithoutShadow_unset {x : Track} (dir : x.dir = none) (g : Geometry) (limit : Nat) :
    x.endWithoutShadow g limit =
      if x.ext.hi + 1 = g.nb ∨ x.ext.lo = 0 then some (.lost .endUnset)
      else if limit < x.coastCount + 1 then some (.lost .coasted) else none := by
  simp only [Track.endWithoutShadow, dir, Geometry.touchesFar, Geometry.touchesStart, Geometry.touchesTop, Bool.or_eq_true, decide_eq_true_eq]

/-- Away from the ends the coast limit alone decides. -/
theorem Track.endWithoutShadow_inside {g : Geometry} {x : Track} (top : ¬x.ext.hi + 1 = g.nb) (bottom : ¬x.ext.lo = 0) (limit : Nat) :
    x.endWithoutShadow g limit = if limit < x.coastCount + 1 then some (.lost .coasted) else none := by
  cases dir : x.dir with
  | none => rw [Track.endWithoutShadow_unset dir, if_neg (not_or_intro top bottom)]
  | some d =>
    cases d with
    | entry => rw [Track.endWithoutShadow_entry dir, if_neg top, if_neg bottom]
    | exit => rw [Track.endWithoutShadow_exit dir, if_neg bottom, if_neg top]

/-- The claim of O9 about tracks without a shadow. -/
theorem trackEndsOrCoasts : Claims.TrackEndsOrCoasts := by
  intro g limit x top bottom result
  refine ⟨fun dir ends => ?_, fun dir ends => ?_, fun dir away ends => ?_, fun dir away ends => ?_, fun dir ends => ?_,
    fun away clear late => ?_, fun away clear early => ?_⟩
  · exact (Track.endWithoutShadow_entry dir g limit).trans (if_pos ends)
  · exact (Track.endWithoutShadow_exit dir g limit).trans (if_pos ends)
  · exact (Track.endWithoutShadow_entry dir g limit).trans ((if_neg away).trans (if_pos ends))
  · exact (Track.endWithoutShadow_exit dir g limit).trans ((if_neg away).trans (if_pos ends))
  · exact (Track.endWithoutShadow_unset dir g limit).trans (if_pos ends)
  · exact (Track.endWithoutShadow_inside away clear limit).trans (if_pos late)
  · exact (Track.endWithoutShadow_inside away clear limit).trans (if_neg (Nat.not_lt.mpr early))

/-! ## The shadow that a lone track keeps -/

/-- The longest of a list of shadows, the first of those: shorter ones before it, none longer behind it. -/
theorem foldl_longer_split (x : Extent) (xs : List Extent) :
    ∃ ahead behind, x :: xs = ahead ++ xs.foldl longer x :: behind
      ∧ (∀ y ∈ ahead, y.hi - y.lo < (xs.foldl longer x).hi - (xs.foldl longer x).lo)
      ∧ ∀ y ∈ behind, y.hi - y.lo ≤ (xs.foldl longer x).hi - (xs.foldl longer x).lo := by
  induction xs generalizing x with
  | nil => exact ⟨[], [], rfl, fun _ h => absurd h List.not_mem_nil, fun _ h => absurd h List.not_mem_nil⟩
  | cons y ys ih =>
    rw [List.foldl_cons]
    by_cases longest : x.hi - x.lo < y.hi - y.lo
    · rw [show longer x y = y from if_pos longest]
      obtain ⟨ahead, behind, split, shorter, bounded⟩ := ih y
      refine ⟨x :: ahead, behind, congrArg (x :: ·) split, fun z hz => ?_, bounded⟩
      rcases List.mem_cons.mp hz with rfl | old
      · have member : y ∈ ahead ++ ys.foldl longer y :: behind := split ▸ List.mem_cons_self
        rcases List.mem_append.mp member with before | after
        · exact longest.trans (shorter y before)
        · rcases List.mem_cons.mp after with same | later
          · rwa [← same]
          · exact longest.trans_le (bounded y later)
      · exact shorter z old
    · rw [show longer x y = x from if_neg longest]
      obtain ⟨ahead, behind, split, shorter, bounded⟩ := ih x
      cases ahead with
      | nil =>
        obtain ⟨kept, rest⟩ := List.cons.inj split
        refine ⟨[], y :: behind, by rw [← rest, ← kept]; rfl, fun _ h => absurd h List.not_mem_nil, fun z hz => ?_⟩
        rcases List.mem_cons.mp hz with rfl | old
        · rw [← kept]
          exact Nat.le_of_not_lt longest
        · exact bounded z old
      | cons a ahead =>
        obtain ⟨rfl, rest⟩ := List.cons.inj split
        refine ⟨x :: y :: ahead, behind, congrArg (fun zs => x :: y :: zs) rest, fun z hz => ?_, bounded⟩
        rcases List.mem_cons.mp hz with rfl | later
        · exact shorter z List.mem_cons_self
        · rcases List.mem_cons.mp later with rfl | old
          · exact (Nat.le_of_not_lt longest).trans_lt (shorter x List.mem_cons_self)
          · exact shorter z (List.mem_cons_of_mem _ old)

/-- The shadow kept stands among the shadows, at the place that the direction gives it. -/
theorem keptShadow_split (d : Option Direction) (x : Extent) (xs : List Extent) :
    ∃ ahead behind, x :: xs = ahead ++ keptShadow d x xs :: behind
      ∧ (d = some .entry → behind = []) ∧ (d = some .exit → ahead = [])
      ∧ (d = none →
          (∀ y ∈ ahead, y.hi - y.lo < (keptShadow d x xs).hi - (keptShadow d x xs).lo)
          ∧ ∀ y ∈ behind, y.hi - y.lo ≤ (keptShadow d x xs).hi - (keptShadow d x xs).lo) := by
  cases d with
  | none =>
    obtain ⟨ahead, behind, split, shorter, bounded⟩ := foldl_longer_split x xs
    exact ⟨ahead, behind, split, nofun, nofun, fun _ => ⟨shorter, bounded⟩⟩
  | some d =>
    cases d with
    | exit => exact ⟨[], xs, rfl, nofun, fun _ => rfl, nofun⟩
    | entry =>
      have last : keptShadow (some .entry) x xs = (x :: xs).getLast (List.cons_ne_nil x xs) := by
        cases xs with
        | nil => rfl
        | cons y ys => exact congrArg (·.getD x) (List.getLast?_eq_some_getLast (List.cons_ne_nil y ys))
      refine ⟨(x :: xs).dropLast, [], ?_, fun _ => rfl, nofun, nofun⟩
      rw [last, List.dropLast_append_getLast]

/-- In lane order no two shadows are the same. -/
theorem nodup_of_laneOrder {xs : List Extent} (order : xs.Pairwise fun a b => a.hi < b.lo) (whole : ∀ y ∈ xs, y.lo ≤ y.hi) : xs.Nodup := by
  refine List.Pairwise.imp_of_mem (fun {a b} ha _ lt => ?_) order
  rintro rfl
  exact absurd (whole a ha) (Nat.not_le.mpr lt)

theorem filter_ne_split {ahead behind : List Extent} {kept : Extent} (nodup : (ahead ++ kept :: behind).Nodup) :
    (ahead ++ kept :: behind).filter (fun x => decide (x ≠ kept)) = ahead ++ behind := by
  obtain ⟨-, tail, apart⟩ := List.nodup_append.mp nodup
  rw [List.filter_append, List.filter_cons_of_neg (by simp), List.filter_eq_self.mpr, List.filter_eq_self.mpr]
  · intro y hy
    exact decide_eq_true fun same => (List.nodup_cons.mp tail).1 (same ▸ hy)
  · intro y hy
    exact decide_eq_true (apart y hy kept List.mem_cons_self)

/-- The claim of O9 about settling. -/
theorem groupsSettled : Claims.GroupsSettled := by
  refine ⟨fun _ => rfl, fun t ts => ?_, fun t x xs order whole => ?_, fun _ _ _ _ => rfl, fun t u ts x y xs => ⟨rfl, rfl⟩⟩
  · cases ts <;> rfl
  · obtain ⟨ahead, behind, split, entry, exit, unset⟩ := keptShadow_split t.2.dir x xs
    refine ⟨ahead, keptShadow t.2.dir x xs, behind, split, ?_, entry, exit, unset⟩
    have others := filter_ne_split (split ▸ nodup_of_laneOrder order whole)
    rw [← split] at others
    rw [← others]
    rfl

end Sys2Proof.Machine

/-! The shadows of a frame (R18): each beam that is occluded is taken in turn, into the newest shadow or as a new one. -/

namespace Sys2Proof.Machine

/-! ## The occluded beams -/

theorem mem_occludedBeams {v : List Bool} {j : Nat} : j ∈ occludedBeams v ↔ v[j]? = some true := by
  simp only [occludedBeams, List.mem_filterMap, Prod.exists, List.mem_zipIdx_iff_getElem?]
  constructor
  · rintro ⟨on, i, at_, taken⟩
    split at taken
    next lit =>
      rw [← Option.some.inj taken, at_, lit]
    next => exact nomatch taken
  · exact fun lit => ⟨true, j, lit, rfl⟩

theorem zipIdx_pairwise_snd {α : Type} (xs : List α) : xs.zipIdx.Pairwise fun a b => a.2 < b.2 := by
  have indices : (xs.zipIdx.map Prod.snd).Pairwise (· < ·) := by
    rw [List.zipIdx_map_snd]
    exact List.pairwise_lt_range'
  exact List.pairwise_map.mp indices

theorem occludedBeams_ascending (v : List Bool) : (occludedBeams v).Pairwise (· < ·) := by
  refine List.pairwise_filterMap.mpr ((zipIdx_pairwise_snd v).imp fun {a b} lt i hi j hj => ?_)
  split at hi
  · split at hj
    · rw [← Option.some.inj hi, ← Option.some.inj hj]
      exact lt
    · exact nomatch hj
  · exact nomatch hi

/-! ## The shadows so far -/

/-- A shadow of the beams taken so far: it begins and ends at one of them, and holds no gap of more than the bridge. -/
def Extent.shades (bridge : Nat) (taken : List Nat) (x : Extent) : Prop :=
  x.lo ≤ x.hi ∧ x.lo ∈ taken ∧ x.hi ∈ taken ∧ ∀ j, x.lo ≤ j → j < x.hi → ∃ i ∈ taken, j < i ∧ i ≤ j + 1 + bridge ∧ i ≤ x.hi

theorem Extent.shades.more {bridge : Nat} {taken : List Nat} {x : Extent} (h : x.shades bridge taken) (j : Nat) : x.shades bridge (taken ++ [j]) := by
  obtain ⟨whole, lo, hi, filled⟩ := h
  refine ⟨whole, List.mem_append_left _ lo, List.mem_append_left _ hi, fun k above below => ?_⟩
  obtain ⟨i, mem, rest⟩ := filled k above below
  exact ⟨i, List.mem_append_left _ mem, rest⟩

/-- What the shadows so far, newest first, are to the beams taken so far. -/
structure ShadowsSoFar (bridge : Nat) (taken : List Nat) (found : List Extent) : Prop where
  covers : ∀ j ∈ taken, ∃ x ∈ found, x.lo ≤ j ∧ j ≤ x.hi
  shades : ∀ x ∈ found, x.shades bridge taken
  apart : found.Pairwise fun b a => a.hi + 1 + bridge < b.lo

theorem ShadowsSoFar.nil (bridge : Nat) : ShadowsSoFar bridge [] [] :=
  ⟨fun _ h => absurd h List.not_mem_nil, fun _ h => absurd h List.not_mem_nil, .nil⟩

theorem Extent.shades_single (bridge : Nat) (taken : List Nat) (j : Nat) : ({ lo := j, hi := j } : Extent).shades bridge (taken ++ [j]) := by
  have mem : j ∈ taken ++ [j] := List.mem_append_right _ (List.mem_singleton_self j)
  exact ⟨Nat.le_refl j, mem, mem, fun k above below => absurd above (Nat.not_le.mpr below)⟩

/-- The newest shadow reaches on to a beam within the bridge. -/
theorem Extent.shades.reach {bridge : Nat} {taken : List Nat} {x : Extent} {j : Nat} (h : x.shades bridge taken) (beyond : x.hi < j)
    (near : j ≤ x.hi + 1 + bridge) : ({ x with hi := j } : Extent).shades bridge (taken ++ [j]) := by
  obtain ⟨whole, lo, hi, filled⟩ := h
  have mem : j ∈ taken ++ [j] := List.mem_append_right _ (List.mem_singleton_self j)
  refine ⟨whole.trans (Nat.le_of_lt beyond), List.mem_append_left _ lo, mem, fun k above below => ?_⟩
  by_cases inside : k < x.hi
  · obtain ⟨i, old, gt, within, le⟩ := filled k above inside
    exact ⟨i, List.mem_append_left _ old, gt, within, le.trans (Nat.le_of_lt beyond)⟩
  · exact ⟨j, mem, below, by omega, Nat.le_refl j⟩

theorem ShadowsSoFar.step {bridge : Nat} {taken : List Nat} {found : List Extent} {j : Nat} (h : ShadowsSoFar bridge taken found)
    (beyond : ∀ i ∈ taken, i < j) : ShadowsSoFar bridge (taken ++ [j]) (shadowBeam bridge found j) := by
  obtain ⟨covers, shades, apart⟩ := h
  cases found with
  | nil =>
    refine ⟨fun k hk => ?_, fun x hx => ?_, List.pairwise_singleton ..⟩
    · rcases List.mem_append.mp hk with old | new
      · obtain ⟨x, none, -⟩ := covers k old
        exact absurd none List.not_mem_nil
      · rw [List.mem_singleton.mp new]
        exact ⟨_, List.mem_singleton_self _, Nat.le_refl j, Nat.le_refl j⟩
    · rw [List.mem_singleton.mp hx]
      exact Extent.shades_single bridge taken j
  | cons x rest =>
    obtain ⟨lead, others⟩ := List.pairwise_cons.mp apart
    have newest := shades x List.mem_cons_self
    have above : x.hi < j := beyond _ newest.2.2.1
    unfold shadowBeam
    dsimp only
    split
    next near =>
      refine ⟨fun k hk => ?_, fun y hy => ?_, List.pairwise_cons.mpr ⟨lead, others⟩⟩
      · rcases List.mem_append.mp hk with old | new
        · obtain ⟨y, hy, lo, hi⟩ := covers k old
          rcases List.mem_cons.mp hy with rfl | behind
          · exact ⟨_, List.mem_cons_self, lo, hi.trans (Nat.le_of_lt above)⟩
          · exact ⟨y, List.mem_cons_of_mem _ behind, lo, hi⟩
        · rw [List.mem_singleton.mp new]
          exact ⟨_, List.mem_cons_self, newest.1.trans (Nat.le_of_lt above), Nat.le_refl j⟩
      · rcases List.mem_cons.mp hy with rfl | behind
        · exact newest.reach above near
        · exact (shades y (List.mem_cons_of_mem _ behind)).more j
    next far =>
      refine ⟨fun k hk => ?_, fun y hy => ?_, List.pairwise_cons.mpr ⟨fun y hy => ?_, apart⟩⟩
      · rcases List.mem_append.mp hk with old | new
        · obtain ⟨y, hy, within⟩ := covers k old
          exact ⟨y, List.mem_cons_of_mem _ hy, within⟩
        · rw [List.mem_singleton.mp new]
          exact ⟨_, List.mem_cons_self, Nat.le_refl j, Nat.le_refl j⟩
      · rcases List.mem_cons.mp hy with rfl | old
        · exact Extent.shades_single bridge taken j
        · exact (shades y old).more j
      · show y.hi + 1 + bridge < j
        rcases List.mem_cons.mp hy with rfl | old
        · exact Nat.lt_of_not_le far
        · exact (lead y old).trans_le (newest.1.trans (Nat.le_of_lt above))

theorem ShadowsSoFar.foldl {bridge : Nat} {taken : List Nat} {found : List Extent} {js : List Nat} (h : ShadowsSoFar bridge taken found)
    (ascending : (taken ++ js).Pairwise (· < ·)) : ShadowsSoFar bridge (taken ++ js) (js.foldl (shadowBeam bridge) found) := by
  induction js generalizing taken found with
  | nil => rwa [List.append_nil]
  | cons j js ih =>
    have beyond : ∀ i ∈ taken, i < j := fun i hi => (List.pairwise_append.mp ascending).2.2 i hi j List.mem_cons_self
    rw [List.append_cons] at ascending ⊢
    exact ih (h.step beyond) ascending

/-! ## The shadows of a vector -/

theorem shadowsOf_soFar (bridge : Nat) (v : List Bool) : ShadowsSoFar bridge (occludedBeams v) (shadowsOf bridge v).reverse := by
  rw [shadowsOf, List.reverse_reverse]
  exact (ShadowsSoFar.nil bridge).foldl (js := occludedBeams v) (occludedBeams_ascending v)

theorem shadowsOf_apart (bridge : Nat) (v : List Bool) : (shadowsOf bridge v).Pairwise fun a b => a.hi + 1 + bridge < b.lo :=
  List.pairwise_reverse.mp (shadowsOf_soFar bridge v).apart

theorem shadowsOf_shades {bridge : Nat} {v : List Bool} {x : Extent} (h : x ∈ shadowsOf bridge v) : x.shades bridge (occludedBeams v) :=
  (shadowsOf_soFar bridge v).shades x (List.mem_reverse.mpr h)

theorem shadowsOf_laneOrder (bridge : Nat) (v : List Bool) : (shadowsOf bridge v).Pairwise fun a b => a.hi < b.lo :=
  (shadowsOf_apart bridge v).imp fun {a b} lt => by omega

theorem shadowsOf_nodup (bridge : Nat) (v : List Bool) : (shadowsOf bridge v).Nodup :=
  nodup_of_laneOrder (shadowsOf_laneOrder bridge v) fun _ h => (shadowsOf_shades h).1

/-- The claim of O9 about shadows. -/
theorem shadowsCoverBeams : Claims.ShadowsCoverBeams := by
  intro bridge v ss
  refine ⟨fun j lit => ?_, fun x hx => ?_, shadowsOf_apart bridge v⟩
  · obtain ⟨x, hx, within⟩ := (shadowsOf_soFar bridge v).covers j (mem_occludedBeams.mpr lit)
    exact ⟨x, List.mem_reverse.mp hx, within⟩
  · obtain ⟨whole, lo, hi, filled⟩ := shadowsOf_shades hx
    refine ⟨whole, mem_occludedBeams.mp lo, mem_occludedBeams.mp hi, fun j above below => ?_⟩
    obtain ⟨i, mem, gt, within, le⟩ := filled j above below
    exact ⟨i, gt, within, le, mem_occludedBeams.mp mem⟩

end Sys2Proof.Machine

/-! The groups of a frame (R24): each track in turn joins the groups whose shadows it meets. -/

namespace Sys2Proof.Machine

/-! ## Groups joined by their tracks -/

/-- The shadows of a group hang together through its tracks: a part of them that no track leaves is all of them. -/
def Group.connected (g : Group) : Prop :=
  ∀ side : Extent → Prop,
    (∀ t ∈ g.tracks, (∃ x ∈ g.shadows, overlaps t.2.ext x = true ∧ side x) → ∀ x ∈ g.shadows, overlaps t.2.ext x = true → side x) →
    (∃ x ∈ g.shadows, side x) → ∀ x ∈ g.shadows, side x

/-- What one group is to the shadows of the frame. -/
structure Group.Joined (shadows : List Extent) (g : Group) : Prop where
  gathers : ∀ t ∈ g.tracks, ∀ x ∈ shadows, overlaps t.2.ext x = true → x ∈ g.shadows
  reaches : ∀ t ∈ g.tracks, g.shadows ≠ [] → ∃ x ∈ g.shadows, overlaps t.2.ext x = true
  lone : g.shadows = [] → ∃ t, g.tracks = [t]
  connected : g.connected

/-- What the groups so far are to the tracks taken so far and the shadows of the frame. -/
structure GroupsSoFar (shadows : List Extent) (taken : List (Nat × Track)) (gs : List Group) : Prop where
  joined : ∀ g ∈ gs, g.Joined shadows
  shadows : (gs.flatMap Group.shadows).Perm shadows
  tracks : (gs.flatMap Group.tracks).Perm taken

theorem Group.joined_single (shadows : List Extent) (x : Extent) : ({ tracks := [], shadows := [x] } : Group).Joined shadows where
  gathers := fun _ h => absurd h List.not_mem_nil
  reaches := fun _ h => absurd h List.not_mem_nil
  lone := nofun
  connected := by
    rintro side - ⟨y, hy, on⟩ z hz
    rw [List.mem_singleton.mp hz, ← List.mem_singleton.mp hy]
    exact on

theorem GroupsSoFar.start (shadows : List Extent) : GroupsSoFar shadows [] (shadows.map fun s => { tracks := [], shadows := [s] }) where
  shadows := by
    rw [List.flatMap_map]
    simp
  tracks := by
    rw [List.flatMap_map]
    simp
  joined := by
    intro g hg
    obtain ⟨x, -, rfl⟩ := List.mem_map.mp hg
    exact Group.joined_single shadows x

/-- Whether a track meets a shadow of a group. -/
def Group.metBy (t : Track) (g : Group) : Bool := g.shadows.any (overlaps t.ext)

/-- The groups that a track meets, made one with it. -/
def joinedGroup (gs : List Group) (t : Nat × Track) : Group where
  tracks := (gs.filter (Group.metBy t.2)).flatMap Group.tracks ++ [t]
  shadows := (gs.filter (Group.metBy t.2)).flatMap Group.shadows

theorem joinGroups_eq (gs : List Group) (t : Nat × Track) :
    joinGroups gs t = gs.filter (fun g => !g.metBy t.2) ++ [joinedGroup gs t] := rfl

theorem Group.metBy_iff {t : Track} {g : Group} : g.metBy t = true ↔ ∃ x ∈ g.shadows, overlaps t.ext x = true := List.any_eq_true

theorem mem_joinedGroup_shadows {gs : List Group} {t : Nat × Track} {x : Extent} :
    x ∈ (joinedGroup gs t).shadows ↔ ∃ g ∈ gs, g.metBy t.2 = true ∧ x ∈ g.shadows := by
  simp only [joinedGroup, List.mem_flatMap, List.mem_filter, and_assoc]

theorem mem_joinedGroup_tracks {gs : List Group} {t u : Nat × Track} :
    u ∈ (joinedGroup gs t).tracks ↔ (∃ g ∈ gs, g.metBy t.2 = true ∧ u ∈ g.tracks) ∨ u = t := by
  simp only [joinedGroup, List.mem_append, List.mem_singleton, List.mem_flatMap, List.mem_filter, and_assoc]

/-- A part that no track leaves, of the group that a track joins, holds each of the groups met as a whole. -/
theorem joinedGroup_connected {shadows : List Extent} {gs : List Group} (joined : ∀ g ∈ gs, g.Joined shadows) (t : Nat × Track) :
    (joinedGroup gs t).connected := by
  rintro side kept ⟨y, hy, on⟩
  have whole : ∀ g ∈ gs, g.metBy t.2 = true → (∃ x ∈ g.shadows, side x) → ∀ x ∈ g.shadows, side x := by
    intro g hg met some
    refine (joined g hg).connected side (fun u hu ⟨x, hx, meets, onx⟩ z hz meetsz => ?_) some
    exact kept u (mem_joinedGroup_tracks.mpr (.inl ⟨g, hg, met, hu⟩)) ⟨x, mem_joinedGroup_shadows.mpr ⟨g, hg, met, hx⟩, meets, onx⟩ z
      (mem_joinedGroup_shadows.mpr ⟨g, hg, met, hz⟩) meetsz
  obtain ⟨g₀, hg₀, met₀, hy₀⟩ := mem_joinedGroup_shadows.mp hy
  obtain ⟨x₀, hx₀, meets₀⟩ := Group.metBy_iff.mp met₀
  have onTrack : ∀ x ∈ (joinedGroup gs t).shadows, overlaps t.2.ext x = true → side x :=
    kept t (mem_joinedGroup_tracks.mpr (.inr rfl))
      ⟨x₀, mem_joinedGroup_shadows.mpr ⟨g₀, hg₀, met₀, hx₀⟩, meets₀, whole g₀ hg₀ met₀ ⟨y, hy₀, on⟩ x₀ hx₀⟩
  intro z hz
  obtain ⟨g, hg, met, hzg⟩ := mem_joinedGroup_shadows.mp hz
  obtain ⟨x, hx, meets⟩ := Group.metBy_iff.mp met
  exact whole g hg met ⟨x, hx, onTrack x (mem_joinedGroup_shadows.mpr ⟨g, hg, met, hx⟩) meets⟩ z hzg

theorem joinedGroup_joined {shadows : List Extent} {taken : List (Nat × Track)} {gs : List Group} (h : GroupsSoFar shadows taken gs)
    (t : Nat × Track) : (joinedGroup gs t).Joined shadows where
  gathers := by
    intro u hu x hx meets
    rcases mem_joinedGroup_tracks.mp hu with ⟨g, hg, met, hug⟩ | rfl
    · exact mem_joinedGroup_shadows.mpr ⟨g, hg, met, (h.joined g hg).gathers u hug x hx meets⟩
    · obtain ⟨g, hg, hxg⟩ := List.mem_flatMap.mp (h.shadows.mem_iff.mpr hx)
      exact mem_joinedGroup_shadows.mpr ⟨g, hg, Group.metBy_iff.mpr ⟨x, hxg, meets⟩, hxg⟩
  reaches := by
    intro u hu some
    rcases mem_joinedGroup_tracks.mp hu with ⟨g, hg, met, hug⟩ | rfl
    · obtain ⟨x₀, hx₀, -⟩ := Group.metBy_iff.mp met
      obtain ⟨x, hx, meets⟩ := (h.joined g hg).reaches u hug (List.ne_nil_of_mem hx₀)
      exact ⟨x, mem_joinedGroup_shadows.mpr ⟨g, hg, met, hx⟩, meets⟩
    · obtain ⟨y, hy⟩ := List.exists_mem_of_ne_nil _ some
      obtain ⟨g, hg, met, -⟩ := mem_joinedGroup_shadows.mp hy
      obtain ⟨x, hx, meets⟩ := Group.metBy_iff.mp met
      exact ⟨x, mem_joinedGroup_shadows.mpr ⟨g, hg, met, hx⟩, meets⟩
  lone := by
    intro none
    have unmet : gs.filter (Group.metBy t.2) = [] := by
      refine List.filter_eq_nil_iff.mpr fun g hg met => ?_
      obtain ⟨x, hx, -⟩ := Group.metBy_iff.mp met
      exact absurd (mem_joinedGroup_shadows.mpr ⟨g, hg, met, hx⟩) (none ▸ List.not_mem_nil)
    exact ⟨t, by rw [joinedGroup, unmet]; rfl⟩
  connected := joinedGroup_connected h.joined t

theorem GroupsSoFar.step {shadows : List Extent} {taken : List (Nat × Track)} {gs : List Group} (h : GroupsSoFar shadows taken gs)
    (t : Nat × Track) : GroupsSoFar shadows (taken ++ [t]) (joinGroups gs t) := by
  have parted : (gs.filter (fun g => !g.metBy t.2) ++ gs.filter (Group.metBy t.2)).Perm gs :=
    List.perm_append_comm.trans (List.filter_append_perm (Group.metBy t.2) gs)
  rw [joinGroups_eq]
  refine ⟨fun g hg => ?_, ?_, ?_⟩
  · rcases List.mem_append.mp hg with old | new
    · exact h.joined g (List.mem_of_mem_filter old)
    · rw [List.mem_singleton.mp new]
      exact joinedGroup_joined h t
  · have all := (parted.flatMap_right Group.shadows).trans h.shadows
    rw [List.flatMap_append] at all
    rw [List.flatMap_append, List.flatMap_singleton]
    exact all
  · have all := ((parted.flatMap_right Group.tracks).trans h.tracks).append_right [t]
    rw [List.flatMap_append, List.append_assoc] at all
    rw [List.flatMap_append, List.flatMap_singleton]
    exact all

theorem GroupsSoFar.foldl {shadows : List Extent} {taken : List (Nat × Track)} {gs : List Group} (h : GroupsSoFar shadows taken gs)
    (ts : List (Nat × Track)) : GroupsSoFar shadows (taken ++ ts) (ts.foldl joinGroups gs) := by
  induction ts generalizing taken gs with
  | nil => rwa [List.append_nil]
  | cons t ts ih =>
    rw [List.append_cons]
    exact ih (h.step t)

/-! ## Groups in order -/

theorem Group.mem_ordered_tracks {g : Group} {t : Nat × Track} : t ∈ g.ordered.tracks ↔ t ∈ g.tracks := (sortBy_perm _ g.tracks).mem_iff

theorem Group.mem_ordered_shadows {g : Group} {x : Extent} : x ∈ g.ordered.shadows ↔ x ∈ g.shadows := (sortBy_perm _ g.shadows).mem_iff

theorem Group.ordered_shadows_eq_nil {g : Group} : g.ordered.shadows = [] ↔ g.shadows = [] := by
  rw [← List.length_eq_zero_iff, ← List.length_eq_zero_iff, (show g.ordered.shadows.Perm g.shadows from sortBy_perm _ g.shadows).length_eq]

theorem Group.Joined.ordered {shadows : List Extent} {g : Group} (h : g.Joined shadows) : g.ordered.Joined shadows where
  gathers := fun t ht x hx meets => Group.mem_ordered_shadows.mpr (h.gathers t (Group.mem_ordered_tracks.mp ht) x hx meets)
  reaches := by
    intro t ht some
    obtain ⟨x, hx, meets⟩ := h.reaches t (Group.mem_ordered_tracks.mp ht) (mt Group.ordered_shadows_eq_nil.mpr some)
    exact ⟨x, Group.mem_ordered_shadows.mpr hx, meets⟩
  lone := by
    intro none
    obtain ⟨t, only⟩ := h.lone (Group.ordered_shadows_eq_nil.mp none)
    exact ⟨t, by rw [Group.ordered, only]; rfl⟩
  connected := by
    intro side kept ⟨x, hx, on⟩ z hz
    refine h.connected side (fun t ht ⟨y, hy, meets, ony⟩ u hu meetsu => ?_) ⟨x, Group.mem_ordered_shadows.mp hx, on⟩ z
      (Group.mem_ordered_shadows.mp hz)
    exact kept t (Group.mem_ordered_tracks.mpr ht) ⟨y, Group.mem_ordered_shadows.mpr hy, meets, ony⟩ u (Group.mem_ordered_shadows.mpr hu) meetsu

theorem flatMap_ordered_perm {α : Type} {f : Group → List α} (same : ∀ g : Group, (f g.ordered).Perm (f g)) (gs : List Group) :
    ((gs.map Group.ordered).flatMap f).Perm (gs.flatMap f) := by
  rw [List.flatMap_map]
  exact List.Perm.flatMap_left gs fun g _ => same g

/-- Each track with its place in the list. -/
def placed (tracks : List Track) : List (Nat × Track) := tracks.zipIdx.map fun x => (x.2, x.1)

theorem groupsOf_soFar (tracks : List Track) (shadows : List Extent) : GroupsSoFar shadows (placed tracks) (groupsOf tracks shadows) := by
  have gathered := (GroupsSoFar.start shadows).foldl (placed tracks)
  rw [List.nil_append] at gathered
  refine ⟨fun g hg => ?_, ?_, ?_⟩
  · obtain ⟨h, hh, rfl⟩ := List.mem_map.mp hg
    exact (gathered.joined h hh).ordered
  · exact (flatMap_ordered_perm (fun g => sortBy_perm _ g.shadows) _).trans gathered.shadows
  · exact (flatMap_ordered_perm (fun g => sortBy_perm _ g.tracks) _).trans gathered.tracks

theorem overlaps_iff {t x : Extent} : overlaps t x = true ↔ x.lo ≤ t.hi + 1 ∧ t.lo ≤ x.hi + 1 := by
  rw [overlaps, Bool.and_eq_true, decide_eq_true_eq, decide_eq_true_eq]

/-- The claim of O9 about groups. -/
theorem groupsJoinOverlaps : Claims.GroupsJoinOverlaps := by
  intro tracks shadows gs meets
  have found := groupsOf_soFar tracks shadows
  refine ⟨found.shadows, found.tracks, fun g hg t ht x hx m => ?_, fun g hg t ht some => ?_, fun g hg => (found.joined g hg).lone,
    fun g hg side kept => ?_⟩
  · exact (found.joined g hg).gathers t ht x hx (overlaps_iff.mpr m)
  · obtain ⟨x, hx, m⟩ := (found.joined g hg).reaches t ht some
    exact ⟨x, hx, overlaps_iff.mp m⟩
  · refine (found.joined g hg).connected side fun t ht ⟨x, hx, m, on⟩ z hz mz => ?_
    exact kept t ht ⟨x, hx, overlaps_iff.mp m, on⟩ z hz (overlaps_iff.mp mz)

end Sys2Proof.Machine

/-! What the scan of a valid frame hands on: the SENSOR condition judged from its stuck beams, and its notices (R10, R12 to R14, R97, R108). -/

namespace Sys2Proof.Machine

theorem filterMap_if {α β : Type} (p : α → Bool) (f : α → β) (xs : List α) :
    xs.filterMap (fun x => if p x then some (f x) else none) = (xs.filter p).map f := by
  induction xs with
  | nil => rfl
  | cons x xs ih =>
    cases hp : p x with
    | true => rw [List.filterMap_cons_some (b := f x) (by rw [hp]; rfl), List.filter_cons_of_pos hp, List.map_cons, ih]
    | false => rw [List.filterMap_cons_none (by rw [hp]; rfl), List.filter_cons_of_neg (by rw [hp]; exact Bool.false_ne_true), ih]

theorem stuckBeams_eq (beams : List Beam) : stuckBeams beams = (beams.zipIdx.filter fun x => x.1.stuck).map (·.2) :=
  filterMap_if (fun x : Beam × Nat => x.1.stuck) (·.2) beams.zipIdx

theorem Geometry.inGuard_eq (g : Geometry) : g.inGuard = fun j => decide (g.f ≤ j + g.sz ∧ j < g.f + g.sz) := by
  funext j
  exact (Bool.decide_and _ _).symm

/-- The lane after a valid frame's scan, its stuck beams counted. -/
structure LaneState.Judged (m l : LaneState) (guard beyond : Bool) : Prop where
  causes : l.bsu.causes = { chainFault := false, guardStuck := guard, overLimit := beyond }
  mark : l.lsv.sensorMark = (guard || beyond)
  active : l.lsv.alarms.sensor.active = (guard || beyond)
  beams : l.bsu.beams = m.bsu.beams
  same : ({ l with bsu := m.bsu, lsv := m.lsv } : LaneState) = m
  barrier : l.lsv.barrierMark = m.lsv.barrierMark
  mode : l.lsv.mode = m.lsv.mode
  policy : l.lsv.policy = m.lsv.policy

theorem LaneState.judged_of_ok {m : LaneState} (ok : m.bsu.chainFault = false) :
    m.Judged m.withCauses.handSensor ((stuckBeams m.bsu.beams).any m.geo.inGuard)
      (decide (m.timing.stuckLimit < (stuckBeams m.bsu.beams).length)) := by
  have causes : m.withCauses.bsu.causes =
      { chainFault := false, guardStuck := (stuckBeams m.bsu.beams).any m.geo.inGuard
        overLimit := decide (m.timing.stuckLimit < (stuckBeams m.bsu.beams).length) } := by
    rw [← ok]
    rfl
  have any : m.withCauses.bsu.causes.any = ((stuckBeams m.bsu.beams).any m.geo.inGuard
      || decide (m.timing.stuckLimit < (stuckBeams m.bsu.beams).length)) := by
    rw [causes, SensorCauses.any, Bool.false_or]
  exact ⟨causes, any, any, rfl, rfl, rfl, rfl, rfl⟩

/-- The health of a lane by its two marks (R108). -/
def healthOf : Bool → Bool → Health
  | false, false => .ok
  | true, false => .sensor
  | false, true => .barrierFault
  | true, true => .sensorAndBarrier

/-- HEALTH is told when the SENSOR condition, and with it the sensor mark, is another than before. -/
theorem LaneState.Judged.health {m l : LaneState} {guard beyond : Bool} (h : m.Judged l guard beyond) :
    healthNotices m l =
      if (guard || beyond) = m.lsv.sensorMark then []
      else [.lane (.health (healthOf (guard || beyond) m.lsv.barrierMark)) m.lsv.mode m.lsv.policy] := by
  unfold healthNotices Lsv.health
  rw [h.mark, h.barrier, h.mode, h.policy]
  cases guard || beyond <;> cases m.lsv.sensorMark <;> cases m.lsv.barrierMark <;> rfl

theorem validFrame_creds (e : Env) (chain : List (Option BarAnswer)) (w : Work) : (validFrame e chain w).creds = w.creds := by
  unfold validFrame
  dsimp only
  split <;> rfl

/-- The claim of O9 about the scan. -/
theorem validScanHandedOn : Claims.ValidScanHandedOn := by
  intro e chain w count sound old r stuck guard beyond health
  have scanned : r = judgeSensor (validFrame e chain w) := scanFrame_valid (Geometry.faulty_eq_false count sound)
  rw [judgeSensor_eq] at scanned
  have lane := validFrame_lane e chain w
  have out := validFrame_out e chain w
  have creds := validFrame_creds e chain w
  generalize validFrame e chain w = v at scanned lane out creds
  have frame : v.lane.geo = old.geo ∧ v.lane.timing = old.timing ∧ v.lane.bsu.chainFault = false ∧ v.lane.lsv = old.lsv ∧ v.lane.ot = old.ot
      ∧ v.lane.reported = old.reported ∧ v.lane.pq = old.pq ∧ v.lane.bc = old.bc := by
    rw [lane]
    exact ⟨rfl, rfl, rfl, rfl, rfl, rfl, rfl, rfl⟩
  obtain ⟨geo, timing, ok, lsv, ot, reported, pq, bc⟩ := frame
  have judged := LaneState.judged_of_ok ok
  have laneR : r.lane = v.lane.withCauses.handSensor := congrArg Work.lane scanned
  have listed : stuck = stuckBeams v.lane.bsu.beams := by
    rw [stuckBeams_eq, ← judged.beams, ← laneR]
  have isGuard : (stuckBeams v.lane.bsu.beams).any v.lane.geo.inGuard = guard := by
    rw [← listed, geo, Geometry.inGuard_eq]
  have isBeyond : decide (v.lane.timing.stuckLimit < (stuckBeams v.lane.bsu.beams).length) = beyond := by
    rw [← listed, timing]
  rw [isGuard, isBeyond, ← laneR] at judged
  have posted : r.out = v.out ++ healthNotices v.lane r.lane := by
    rw [laneR, scanned]
    rfl
  have told := judged.health
  rw [lsv] at told
  refine ⟨judged.causes, judged.mark, judged.active, ?_, ?_, ?_, ?_, ?_, ?_, ?_⟩
  · exact (congrArg LaneState.ot judged.same).trans ot
  · exact (congrArg LaneState.reported judged.same).trans reported
  · exact (congrArg LaneState.pq judged.same).trans pq
  · exact (congrArg LaneState.bc judged.same).trans bc
  · exact judged.mode.trans (congrArg Lsv.mode lsv)
  · rw [scanned]
    exact creds
  · rw [posted, out, told, stuckNotices_eq, ← judged.beams]
    rfl

end Sys2Proof.Machine

/-! What a valid frame leaves of a lane: the scan's records, and the tracker's but for the marks that its events add (R9 to R14, R22, R43). -/

namespace Sys2Proof.Machine

/-! ## What the events of a frame leave of the tracker's records -/

/-- A track without what a frame's events may change of it: its binding, and the VIOLATED and LOITERED marks. -/
def Track.plain (x : Track) : Track := { x with bound := none, violated := false, loitered := false }

/-- The events of a frame change of the tracker's records the bindings and marks alone, and no credential's number. -/
structure Work.Hands (w v : Work) : Prop where
  geo : v.lane.geo = w.lane.geo
  timing : v.lane.timing = w.lane.timing
  bsu : v.lane.bsu = w.lane.bsu
  numbers : v.creds.map (·.number) = w.creds.map (·.number)
  tracks : v.lane.ot.tracks.map Track.plain = w.lane.ot.tracks.map Track.plain
  shadows : v.lane.ot.shadows = w.lane.ot.shadows
  untracked : v.lane.ot.untracked = w.lane.ot.untracked
  next : v.lane.ot.next = w.lane.ot.next

theorem Work.Hands.trans {a b c : Work} (h : a.Hands b) (k : b.Hands c) : a.Hands c :=
  ⟨k.geo.trans h.geo, k.timing.trans h.timing, k.bsu.trans h.bsu, k.numbers.trans h.numbers, k.tracks.trans h.tracks,
    k.shadows.trans h.shadows, k.untracked.trans h.untracked, k.next.trans h.next⟩

theorem Work.Hands.of_ot {w v : Work} (geo : v.lane.geo = w.lane.geo) (timing : v.lane.timing = w.lane.timing)
    (bsu : v.lane.bsu = w.lane.bsu) (ot : v.lane.ot = w.lane.ot) (numbers : v.creds.map (·.number) = w.creds.map (·.number)) : w.Hands v :=
  ⟨geo, timing, bsu, numbers, by rw [ot], by rw [ot], by rw [ot], by rw [ot]⟩

theorem Work.Hands.refl (w : Work) : w.Hands w := .of_ot rfl rfl rfl rfl rfl

theorem Work.Hands.foldl {α : Type} {f : Work → α → Work} (step : ∀ (w : Work) (x : α), w.Hands (f w x)) (xs : List α) (w : Work) :
    w.Hands (xs.foldl f w) := by
  induction xs generalizing w with
  | nil => exact .refl w
  | cons x xs ih => exact (step w x).trans (ih _)

theorem freeService_hands (e : Env) (w : Work) : w.Hands (freeService e w) := by
  have served := freeService_serves e w
  exact .of_ot served.geo served.timing served.bsu served.ot (by rw [served.creds])

theorem giveBack_hands (e : Env) (d : Direction) (c : PermitCopy) (w : Work) : w.Hands (giveBack e d c w) := by
  unfold giveBack
  dsimp only
  split
  · exact .of_ot rfl rfl rfl rfl rfl
  · split
    · obtain ⟨b, mark, lobby, secure, moves⟩ :=
        evalOpen_moves e (w.mod fun l => l.setPermits (returnedPermit (e.now + w.lane.timing.grantPeriod) d c :: l.pq.permits))
      rw [moves]
      exact .of_ot rfl rfl rfl rfl rfl
    · exact .of_ot rfl rfl rfl rfl rfl

theorem reportPassage_hands (e : Env) (ended : PassageEnd) (d : Direction) (r : RecordOutcome) (x : Track) (w : Work) :
    w.Hands (reportPassage e ended d r x w) := .of_ot rfl rfl rfl rfl rfl

theorem handEnd_hands (e : Env) (w : Work) (x : Ended) : w.Hands (handEnd e w x) := by
  unfold handEnd
  split
  · cases bound : x.track.bound with
    | none =>
      rw [backOutTrack_of_unbound bound]
      exact reportPassage_hands ..
    | some c =>
      rw [backOutTrack_of_bound bound]
      exact (giveBack_hands e _ c w).trans (reportPassage_hands ..)
  · exact .of_ot rfl rfl rfl rfl rfl
  · exact .refl w

theorem handBirths_hands (e : Env) (n : Nat) (w : Work) : w.Hands (handBirths e n w) := by
  induction n generalizing w with
  | zero => exact .refl w
  | succ n ih => exact (freeService_hands e w).trans (ih _)

/-- A mark on the track of a crossing that a plain track does not show. -/
theorem Handing.modTrack_hands (c : Crosser) {f : Track → Track} (unseen : ∀ x, (f x).plain = x.plain) (h : Handing) :
    h.work.Hands (h.modTrack c f).work := by
  unfold Handing.modTrack
  split
  · exact .refl _
  · refine ⟨rfl, rfl, rfl, rfl, ?_, rfl, rfl, rfl⟩
    show (h.work.lane.ot.tracks.map fun t => if t.number = c.track.number then f t else t).map Track.plain = _
    rw [List.map_map]
    refine List.map_congr_left fun x _ => ?_
    rw [Function.comp_apply]
    split
    · exact unseen x
    · rfl

theorem settleUsed_hands (e : Env) (p : Permit) (w : Work) : w.Hands (settleUsed e p w) := by
  unfold settleUsed
  split
  · have freed : w.Hands (removePermit p .used w) := .of_ot rfl rfl rfl rfl rfl
    exact freed.trans (freeService_hands e _)
  · exact .of_ot rfl rfl rfl rfl rfl

theorem handCrossing_hands (e : Env) (d : Direction) (h : Handing) (c : Crosser) : h.work.Hands (handCrossing e d h c).work := by
  unfold handCrossing
  split
  · exact .refl _
  · split
    next p queue _ =>
      have bound := h.modTrack_hands c (f := fun t => { t with bound := some p.copy }) fun _ => rfl
      have queued : (h.modTrack c fun t => { t with bound := some p.copy }).work.Hands
          ((h.modTrack c fun t => { t with bound := some p.copy }).work.mod fun l => l.modPq fun q => { q with permits := queue }) :=
        .of_ot rfl rfl rfl rfl rfl
      exact (bound.trans queued).trans (settleUsed_hands e p _)
    next =>
      split
      · exact .refl _
      · exact (h.modTrack_hands c (f := fun t => { t with violated := true }) fun _ => rfl).trans (.of_ot rfl rfl rfl rfl rfl)

theorem handCrossings_hands (e : Env) (order : List Bool) (f : TrackFrame) (h : Handing) : h.work.Hands (handCrossings e order f h).work := by
  unfold handCrossings
  dsimp only
  generalize interleave order _ _ = cs
  induction cs generalizing h with
  | nil => exact .refl _
  | cons c cs ih => exact (handCrossing_hands e c.1 h c.2).trans (ih _)

theorem handCompletions_hands (e : Env) (order : List Bool) (h : Handing) : h.work.Hands (handCompletions e order h) :=
  .foldl (f := fun v (c : Direction × Track) => completeTrack e c.1 c.2 v)
    (fun _ _ => .of_ot rfl rfl rfl rfl (recordPassage_numbers ..)) _ _

theorem handLoiters_hands (e : Env) (w : Work) : w.Hands (handLoiters e w) := by
  by_cases egress : w.lane.lsv.mode = .egress
  · rw [handLoiters_of_egress egress]
    exact .refl w
  · rw [handLoiters_eq egress]
    refine ⟨rfl, rfl, rfl, rfl, ?_, rfl, rfl, rfl⟩
    show (w.lane.ot.tracks.map fun t => { t with loitered := t.loitered || t.loiters e.now w.lane.timing.loiter }).map Track.plain = _
    rw [List.map_map]
    rfl

theorem handOverflow_hands (e : Env) (before : Bool) (us : List Extent) (w : Work) : w.Hands (handOverflow e before us w) := by
  by_cases none : us = []
  · rw [none, handOverflow_nil]
    exact .refl w
  · rw [handOverflow_of_ne_nil none]
    exact .of_ot rfl rfl rfl rfl rfl

theorem handEvents_hands (e : Env) (order : FrameOrder) (before : Bool) (f : TrackFrame) (w : Work) :
    (w.mod fun l => { l with ot := f.ot }).Hands (handEvents e order before f w) := by
  have left := (Work.Hands.foldl (handEnd_hands e) f.ended (w.mod fun l => { l with ot := f.ot })).trans (handBirths_hands e f.startEnd _)
  have crossed := left.trans (handCrossings_hands e order.crossings f { work := _, ended := f.ended })
  exact ((crossed.trans (handCompletions_hands e order.completions _)).trans (handLoiters_hands e _)).trans
    (handOverflow_hands e before f.untracked _)

/-! ## The frame event of a valid frame -/

theorem trackerFrame_valid {e : Env} {order : FrameOrder} {w : Work} (h : w.lane.bsu.result.valid = true) :
    trackerFrame e order w =
      handEvents e order w.lane.ot.untracked
        (trackFrame w.lane.geo { w.lane.timing with tf := w.lane.bsu.period } e.now w.lane.bsu.result.vector w.lane.ot) w := if_pos h

/-- The beams of a lane after a valid frame. -/
def Work.scanned (e : Env) (chain : List (Option BarAnswer)) (w : Work) : List Beam :=
  filterBeams e.now w.lane.timing (w.lane.geo.laneAnswers (answering chain)) w.lane.bsu.beams

/-- What the tracker makes of a valid frame, before its events. -/
def Work.tracked (e : Env) (chain : List (Option BarAnswer)) (w : Work) : TrackFrame :=
  trackFrame w.lane.geo { w.lane.timing with tf := w.lane.bsu.period } e.now (vectorOf (w.scanned e chain)) w.lane.ot

/-- A lane after a valid frame, all of its units done. -/
structure Work.FrameDone (e : Env) (chain : List (Option BarAnswer)) (w v : Work) : Prop where
  geo : v.lane.geo = w.lane.geo
  timing : v.lane.timing = w.lane.timing
  beams : v.lane.bsu.beams = w.scanned e chain
  chainFault : v.lane.bsu.chainFault = false
  answered : v.lane.bsu.answered = (answering chain).length
  faulting : v.lane.bsu.faulting = []
  idle : v.lane.bsu.read = .idle
  frameTimer : v.lane.bsu.frameTimer = w.lane.bsu.frameTimer
  result : v.lane.bsu.result = w.lane.geo.frameResult (w.scanned e chain)
  numbers : v.creds.map (·.number) = w.creds.map (·.number)
  tracks : v.lane.ot.tracks.map Track.plain = (w.tracked e chain).ot.tracks.map Track.plain
  shadows : v.lane.ot.shadows = (w.tracked e chain).ot.shadows
  untracked : v.lane.ot.untracked = (w.tracked e chain).ot.untracked
  next : v.lane.ot.next = (w.tracked e chain).ot.next

theorem Work.FrameDone.hands {e : Env} {chain : List (Option BarAnswer)} {w v u : Work} (h : Work.FrameDone e chain w v) (k : v.Hands u) :
    Work.FrameDone e chain w u := by
  obtain ⟨geo, timing, bsu, numbers, tracks, shadows, untracked, next⟩ := k
  exact ⟨geo.trans h.geo, timing.trans h.timing, by rw [bsu, h.beams], by rw [bsu, h.chainFault], by rw [bsu, h.answered],
    by rw [bsu, h.faulting], by rw [bsu, h.idle], by rw [bsu, h.frameTimer], by rw [bsu, h.result], numbers.trans h.numbers,
    tracks.trans h.tracks, shadows.trans h.shadows, untracked.trans h.untracked, next.trans h.next⟩

theorem Work.Carries.hands {w v : Work} (h : w.Carries v) : w.Hands v := .of_ot h.geo h.timing h.bsu h.ot (by rw [h.creds])

/-- The scan of a valid frame, with the tracker's records as stages 1 to 7 leave them. -/
theorem scanFrame_done {e : Env} {chain : List (Option BarAnswer)} {w : Work} (sound : w.lane.geo.faulty chain = false) :
    Work.FrameDone e chain w ((scanFrame e chain w).mod fun l => { l with ot := (w.tracked e chain).ot })
      ∧ (scanFrame e chain w).lane.ot = w.lane.ot ∧ (scanFrame e chain w).lane.bsu.period = w.lane.bsu.period
      ∧ (scanFrame e chain w).lane.geo = w.lane.geo ∧ (scanFrame e chain w).lane.timing = w.lane.timing
      ∧ (scanFrame e chain w).lane.bsu.result = w.lane.geo.frameResult (w.scanned e chain) := by
  have creds := validFrame_creds e chain w
  rw [scanFrame_valid sound, judgeSensor_eq, validFrame_lane]
  exact ⟨⟨rfl, rfl, rfl, rfl, rfl, rfl, rfl, rfl, rfl, congrArg (List.map (·.number)) creds, rfl, rfl, rfl, rfl⟩, rfl, rfl, rfl, rfl, rfl⟩

theorem frameEvent_done {e : Env} {chain : List (Option BarAnswer)} {order : FrameOrder} {w : Work} (reading : w.lane.bsu.read = .reading)
    (sound : w.lane.geo.faulty chain = false) :
    ∃ v, frameEvent e chain order w = v.mod LaneState.recordTracks ∧ Work.FrameDone e chain w v := by
  obtain ⟨done, ot, period, geo, timing, result⟩ := scanFrame_done (e := e) sound
  rw [frameEvent_of_reading reading]
  generalize scanFrame e chain w = u at done ot period geo timing result
  have valid : u.lane.bsu.result.valid = true := by
    rw [result]
    rfl
  have frame : trackFrame u.lane.geo { u.lane.timing with tf := u.lane.bsu.period } e.now u.lane.bsu.result.vector u.lane.ot
      = w.tracked e chain := by
    rw [geo, timing, result, ot, period]
    rfl
  have tracked := handEvents_hands e order u.lane.ot.untracked (w.tracked e chain) u
  rw [← frame, ← trackerFrame_valid valid, frame] at tracked
  generalize trackerFrame e order u = x at tracked ⊢
  refine ⟨frameTail e x, rfl, ?_⟩
  exact (done.hands tracked).hands (frameTail_carries e _).hands

/-- What an event of a lane leaves of the device, the credential records apart. -/
theorem State.runLane_refresh (s : State) (k : Lane) (f : Env → Work → Work) :
    (s.runLane k f).refresh k =
      (s.setCreds (f (s.env k) (s.work k)).creds).laneEvent k ((f (s.env k) (s.work k)).lane.withOutputs s.rfu.slots k)
        (f (s.env k) (s.work k)).out :=
  State.absorb_refresh (s.setCreds (f (s.env k) (s.work k)).creds) k (f (s.env k) (s.work k)) rfl

theorem State.runLane_sameButLane (s : State) (k : Lane) (f : Env → Work → Work) : s.sameButLane k ((s.runLane k f).refresh k) := by
  rw [State.runLane_refresh]
  generalize f (s.env k) (s.work k) = v
  obtain ⟨ports, site, desk, routing, cst, tmb, ims, egress, key, pending⟩ :=
    (s.setCreds v.creds).laneEvent_samePart k (v.lane.withOutputs s.rfu.slots k) v.out
  exact ⟨fun j other => State.laneEvent_lane_of_ne _ _ _ other, ports, site, desk, routing, by rw [cst]; rfl, State.laneEvent_rfu ..,
    tmb, ims, egress, key, pending⟩

theorem State.runLane_cst (s : State) (k : Lane) (f : Env → Work → Work) :
    ((s.runLane k f).refresh k).cst.creds = (f (s.env k) (s.work k)).creds := by
  rw [State.runLane_refresh]
  generalize f (s.env k) (s.work k) = v
  obtain ⟨-, -, -, -, cst, -⟩ := (s.setCreds v.creds).laneEvent_samePart k (v.lane.withOutputs s.rfu.slots k) v.out
  rw [cst]
  rfl

theorem State.runLane_lane (s : State) (k : Lane) (f : Env → Work → Work) :
    ((s.runLane k f).refresh k).lane k = (f (s.env k) (s.work k)).lane.withOutputs s.rfu.slots k := by
  rw [State.runLane_refresh, State.laneEvent_lane]

/-- The claim of O9 about the beams, and the frame event's reach. -/
theorem validFrameFiltersBeams_claim : Claims.ValidFrameFiltersBeams := by
  intro k chain order s reading count sound
  obtain ⟨v, ran, done⟩ := frameEvent_done (e := s.env k) (order := order) (w := s.work k) reading (Geometry.faulty_eq_false count sound)
  have lane := s.runLane_lane k fun e w => frameEvent e chain order w
  have creds := s.runLane_cst k fun e w => frameEvent e chain order w
  have same := s.runLane_sameButLane k fun e w => frameEvent e chain order w
  refine ⟨_, exec_chainReadComplete k chain order s, same, ?_⟩
  generalize ((s.runLane k fun e w => frameEvent e chain order w).refresh k) = t at lane creds
  rw [ran] at lane creds
  rw [lane, creds]
  refine ⟨done.numbers, done.geo, done.timing, done.beams, done.chainFault, done.answered, done.faulting, done.idle, done.frameTimer, ?_,
    congrArg FrameResult.valid done.result, ?_⟩
  · show TrackReport.mk v.lane.geo v.lane.ot.untracked v.lane.ot.shadows v.lane.ot.tracks = _
    rw [done.geo]
    rfl
  · show v.lane.bsu.result.vector = v.lane.bsu.beams.map fun b => b.occluded && !b.stuck
    rw [done.result, done.beams]
    rfl

/-- The claim of O9 about the units of a lane at its frame event. -/
theorem frameRunsUnitsInTurn : Claims.FrameRunsUnitsInTurn := by
  intro k chain order s reading
  refine ⟨?_, fun e w => trackerFrame_invalid, fun e w => trackerFrame_valid, fun count sound => ?_⟩
  · rw [exec_chainReadComplete, State.runLane_eq, State.runLane_eq, frameEvent_of_reading (w := s.work k) reading]
  · obtain ⟨v, ran, done⟩ := frameEvent_done (e := s.env k) (order := order) (w := s.work k) reading (Geometry.faulty_eq_false count sound)
    have lane := s.runLane_lane k fun e w => frameEvent e chain order w
    refine ⟨_, exec_chainReadComplete k chain order s, ?_⟩
    generalize ((s.runLane k fun e w => frameEvent e chain order w).refresh k) = t at lane
    rw [ran] at lane
    rw [lane]
    have vector : (v.mod LaneState.recordTracks).lane.bsu.result.vector = vectorOf ((s.work k).scanned (s.env k) chain) :=
      congrArg FrameResult.vector done.result
    intro inForce f plain
    have frame : f = (s.work k).tracked (s.env k) chain := by
      show trackFrame _ _ _ (v.mod LaneState.recordTracks).lane.bsu.result.vector _ = _
      rw [vector]
      rfl
    rw [frame]
    refine ⟨done.tracks, done.shadows.trans ?_, done.untracked, done.next⟩
    show shadowsOf _ _ = shadowsOf _ (v.mod LaneState.recordTracks).lane.bsu.result.vector
    rw [vector]
    rfl

end Sys2Proof.Machine

/-! A frame in its stages (R22): the extents assigned, the fates of the tracks, the births, and the tracks that live on. -/

namespace Sys2Proof.Machine

/-! ## The stages of a frame -/

/-- The extents that the groups of a frame assign. -/
def frameAssigned (tracks : List Track) (shadows : List Extent) : List Assigned :=
  (groupsOf tracks shadows).flatMap fun x => (settle x.tracks x.shadows).1

/-- The sites of a frame's births, in lane order. -/
def frameSites (tracks : List Track) (shadows : List Extent) : List Site :=
  sortBy (fun a b => decide (a.ext.lo < b.ext.lo)) ((groupsOf tracks shadows).flatMap fun x => (settle x.tracks x.shadows).2)

/-- The fates of a frame's tracks, in list order. -/
def frameFates (g : Geometry) (c : Nat) (tracks : List Track) (shadows : List Extent) : List Fate :=
  (withRear tracks).zipIdx.map fun x => fateOf g c (frameAssigned tracks shadows) x.2 x.1.1 x.1.2

/-- The births of a frame, with the tracks that live on ahead of them. -/
def frameBirths (g : Geometry) (t : Timing) (now : Nat) (v : List Bool) (o : Ot) : Births :=
  (frameSites o.tracks (shadowsOf t.br v)).foldl (giveBirth g now)
    { tracks := (frameFates g t.c o.tracks (shadowsOf t.br v)).filterMap Fate.liveTrack, next := o.next, untracked := [], startEnd := 0 }

/-- The tracks of a frame in list order, their directions found. -/
def frameFound (g : Geometry) (t : Timing) (now : Nat) (v : List Bool) (o : Ot) : List Track :=
  (sortBy listAhead (frameBirths g t now v o).tracks).map Track.findDirection

section
variable (g : Geometry) (t : Timing) (now : Nat) (v : List Bool) (o : Ot)

theorem trackFrame_eq :
    trackFrame g t now v o =
      { ot :=
          { tracks := (withRear (frameFound g t now v o)).map fun x => (advance g t x.1 x.2).1
            shadows := shadowsOf t.br v
            untracked := !(frameBirths g t now v o).untracked.isEmpty
            next := (frameBirths g t now v o).next }
        ended := (frameFates g t.c o.tracks (shadowsOf t.br v)).filterMap Fate.endedTrack
        crossers :=
          ((withRear (frameFound g t now v o)).map fun x => advance g t x.1 x.2).filterMap fun x =>
            if x.2 then some { track := x.1, ended := false } else none
        startEnd := (frameBirths g t now v o).startEnd
        untracked := (frameBirths g t now v o).untracked } := by
  unfold trackFrame frameFound frameBirths frameFates frameSites frameAssigned
  dsimp only
  rw [List.flatMap_map, List.flatMap_map, List.map_map]
  rfl

theorem trackFrame_tracks :
    (trackFrame g t now v o).ot.tracks = (withRear (frameFound g t now v o)).map fun x => (advance g t x.1 x.2).1 := by rw [trackFrame_eq]

theorem trackFrame_shadows : (trackFrame g t now v o).ot.shadows = shadowsOf t.br v := rfl

theorem trackFrame_untracked : (trackFrame g t now v o).untracked = (frameBirths g t now v o).untracked := by rw [trackFrame_eq]

theorem trackFrame_flag : (trackFrame g t now v o).ot.untracked = !(trackFrame g t now v o).untracked.isEmpty := rfl

theorem trackFrame_next : (trackFrame g t now v o).ot.next = (frameBirths g t now v o).next := by rw [trackFrame_eq]

theorem trackFrame_startEnd : (trackFrame g t now v o).startEnd = (frameBirths g t now v o).startEnd := by rw [trackFrame_eq]

theorem trackFrame_ended : (trackFrame g t now v o).ended = (frameFates g t.c o.tracks (shadowsOf t.br v)).filterMap Fate.endedTrack := by
  rw [trackFrame_eq]

end

/-! ## Places -/

theorem mem_placed {tracks : List Track} {p : Nat × Track} : p ∈ placed tracks ↔ tracks[p.1]? = some p.2 := by
  unfold placed
  rw [List.mem_map]
  constructor
  · rintro ⟨⟨x, i⟩, at_, rfl⟩
    exact List.mem_zipIdx_iff_getElem?.mp at_
  · exact fun at_ => ⟨(p.2, p.1), List.mem_zipIdx_iff_getElem?.mpr at_, rfl⟩

theorem placed_places_nodup (tracks : List Track) : ((placed tracks).map Prod.fst).Nodup := by
  unfold placed
  rw [List.map_map]
  exact (List.pairwise_map.mpr ((zipIdx_pairwise_snd tracks).imp fun {a b} lt => Nat.ne_of_lt lt))

theorem placed_nodup (tracks : List Track) : (placed tracks).Nodup := (placed_places_nodup tracks).of_map

theorem mem_withRear_zipIdx {tracks : List Track} {i : Nat} {x : Track} (h : tracks[i]? = some x) :
    ((x, isRear tracks i x), i) ∈ (withRear tracks).zipIdx := by
  refine List.mem_zipIdx_iff_getElem?.mpr ?_
  show ((tracks.zipIdx).map fun x => (x.1, isRear tracks x.2 x.1))[i]? = _
  rw [List.getElem?_map, List.getElem?_zipIdx, h]
  exact congrArg (fun n => some (x, isRear tracks n x)) (Nat.zero_add i)

theorem withRear_getElem? (tracks : List Track) (i : Nat) : (withRear tracks)[i]? = tracks[i]?.map fun x => (x, isRear tracks i x) := by
  show ((tracks.zipIdx).map fun x => (x.1, isRear tracks x.2 x.1))[i]? = _
  rw [List.getElem?_map, List.getElem?_zipIdx, Option.map_map]
  cases tracks[i]? with
  | none => rfl
  | some x => exact congrArg (fun n => some (x, isRear tracks n x)) (Nat.zero_add i)

theorem withRear_fst (tracks : List Track) : (withRear tracks).map Prod.fst = tracks := by
  refine List.ext_getElem? fun i => ?_
  rw [List.getElem?_map, withRear_getElem?, Option.map_map]
  cases tracks[i]? <;> rfl

/-! ## The extents assigned -/

/-- Settling assigns the tracks of a group an extent each at most, in order. -/
theorem settle_places (ts : List (Nat × Track)) (ss : List Extent) : ((settle ts ss).1.map Assigned.place).Sublist (ts.map Prod.fst) := by
  fun_induction settle ts ss with
  | case1 ss => exact .refl _
  | case2 => exact List.nil_sublist _
  | case3 t s ss kept => exact .refl _
  | case4 t u ts s => rw [List.map_map]; exact .refl _
  | case5 t u ts s r ss rest ih => exact ih.cons_cons t.1

theorem flatMap_map_sublist {α β γ : Type} {f : α → List β} {h : β → γ} {k : α → List γ}
    (sub : ∀ x, ((f x).map h).Sublist (k x)) (xs : List α) :
    ((xs.flatMap f).map h).Sublist (xs.flatMap k) := by
  induction xs with
  | nil => exact .refl _
  | cons x xs ih =>
    rw [List.flatMap_cons, List.flatMap_cons, List.map_append]
    exact (sub x).append ih

theorem frameAssigned_places_nodup (tracks : List Track) (shadows : List Extent) :
    ((frameAssigned tracks shadows).map Assigned.place).Nodup := by
  have grouped := (groupsOf_soFar tracks shadows).tracks.map Prod.fst
  have places : ((groupsOf tracks shadows).flatMap fun x => x.tracks.map Prod.fst).Nodup := by
    rw [List.map_flatMap] at grouped
    exact grouped.nodup_iff.mpr (placed_places_nodup tracks)
  unfold frameAssigned
  exact places.sublist (flatMap_map_sublist (fun x : Group => settle_places x.tracks x.shadows) (groupsOf tracks shadows))

theorem frameAssigned_find {tracks : List Track} {shadows : List Extent} {a : Assigned} (h : a ∈ frameAssigned tracks shadows) :
    (frameAssigned tracks shadows).find? (fun b => b.place == a.place) = some a := by
  refine find?_eq_of_only h (beq_self_eq_true _) fun b hb same => ?_
  exact List.inj_on_of_nodup_map (frameAssigned_places_nodup tracks shadows) hb h (beq_iff_eq.mp same)

/-- The group of a track of the list. -/
theorem exists_group {tracks : List Track} {shadows : List Extent} {i : Nat} {x : Track} (h : tracks[i]? = some x) :
    ∃ g ∈ groupsOf tracks shadows, (i, x) ∈ g.tracks :=
  List.mem_flatMap.mp ((groupsOf_soFar tracks shadows).tracks.mem_iff.mpr (mem_placed.mpr h))

theorem mem_group_tracks {tracks : List Track} {shadows : List Extent} {g : Group} {p : Nat × Track} (h : g ∈ groupsOf tracks shadows)
    (hp : p ∈ g.tracks) : tracks[p.1]? = some p.2 :=
  mem_placed.mp ((groupsOf_soFar tracks shadows).tracks.mem_iff.mp (List.mem_flatMap.mpr ⟨g, h, hp⟩))

theorem mem_group_shadows {tracks : List Track} {shadows : List Extent} {g : Group} {x : Extent} (h : g ∈ groupsOf tracks shadows)
    (hx : x ∈ g.shadows) : x ∈ shadows :=
  (groupsOf_soFar tracks shadows).shadows.mem_iff.mp (List.mem_flatMap.mpr ⟨g, h, hx⟩)

/-- A track that meets no shadow is assigned no extent. -/
theorem frameAssigned_find_none {tracks : List Track} {shadows : List Extent} {i : Nat} {x : Track} (listed : tracks[i]? = some x)
    (alone : ∀ e ∈ shadows, ¬overlaps x.ext e = true) : (frameAssigned tracks shadows).find? (fun b => b.place == i) = none := by
  refine List.find?_eq_none.mpr fun a ha same => ?_
  obtain ⟨g, hg, hag⟩ := List.mem_flatMap.mp ha
  have inside : a.place ∈ g.tracks.map Prod.fst := (settle_places g.tracks g.shadows).subset (List.mem_map_of_mem hag)
  obtain ⟨⟨j, y⟩, hy, place⟩ := List.mem_map.mp inside
  have here : j = i := place.trans (beq_iff_eq.mp same)
  have track : y = x := by
    have found := mem_group_tracks hg hy
    rw [here, listed] at found
    exact (Option.some.inj found).symm
  have none : g.shadows = [] := by
    by_contra some
    obtain ⟨e, he, meets⟩ := ((groupsOf_soFar tracks shadows).joined g hg).reaches _ hy some
    exact alone e (mem_group_shadows hg he) (track ▸ meets)
  rw [none] at hag
  cases ts : g.tracks with
  | nil =>
    rw [ts] at hag
    exact absurd hag List.not_mem_nil
  | cons p ps =>
    rw [ts, show settle (p :: ps) [] = ([], []) by cases ps <;> rfl] at hag
    exact absurd hag List.not_mem_nil

/-- A list whose only element is one, once. -/
theorem eq_singleton_of_nodup {α : Type} {xs : List α} {a : α} (nodup : xs.Nodup) (mem : a ∈ xs) (only : ∀ x ∈ xs, x = a) : xs = [a] := by
  cases xs with
  | nil => exact absurd mem List.not_mem_nil
  | cons x xs =>
    obtain ⟨fresh, -⟩ := List.nodup_cons.mp nodup
    have first : x = a := only x List.mem_cons_self
    have rest : xs = [] := List.eq_nil_iff_forall_not_mem.mpr fun y hy =>
      fresh (by rw [first, ← only y (List.mem_cons_of_mem _ hy)]; exact hy)
    rw [first, rest]

theorem group_tracks_nodup {tracks : List Track} {shadows : List Extent} {g : Group} (h : g ∈ groupsOf tracks shadows) : g.tracks.Nodup :=
  (List.nodup_flatMap.mp ((groupsOf_soFar tracks shadows).tracks.nodup_iff.mpr (placed_nodup tracks))).1 g h

theorem group_shadows_nodup {tracks : List Track} {shadows : List Extent} (nodup : shadows.Nodup) {g : Group}
    (h : g ∈ groupsOf tracks shadows) : g.shadows.Nodup :=
  (List.nodup_flatMap.mp ((groupsOf_soFar tracks shadows).shadows.nodup_iff.mpr nodup)).1 g h

/-- A track and a shadow that meet each other and nothing else are settled together. -/
theorem frameAssigned_alone {tracks : List Track} {shadows : List Extent} (nodup : shadows.Nodup) {i : Nat} {x : Track} {e : Extent}
    (listed : tracks[i]? = some x) (shadow : e ∈ shadows) (meets : overlaps x.ext e = true)
    (one : ∀ r ∈ shadows, overlaps x.ext r = true → r = e)
    (others : ∀ j y, tracks[j]? = some y → j ≠ i → ¬overlaps y.ext e = true) :
    (frameAssigned tracks shadows).find? (fun b => b.place == i) = some { place := i, ext := e, merged := false } := by
  obtain ⟨g, hg, hx⟩ := exists_group (shadows := shadows) listed
  have joined := (groupsOf_soFar tracks shadows).joined g hg
  have he : e ∈ g.shadows := joined.gathers _ hx e shadow meets
  have here : ∀ p ∈ g.tracks, overlaps p.2.ext e = true → p = (i, x) := by
    rintro ⟨j, y⟩ hp met
    have listedy := mem_group_tracks hg hp
    by_cases same : j = i
    · dsimp only at listedy
      rw [same, listed] at listedy
      rw [same, Option.some.inj listedy]
    · exact absurd met (others j y listedy same)
  have only : ∀ r ∈ g.shadows, r = e := by
    refine joined.connected (· = e) (fun p hp ⟨r, hr, met, same⟩ z hz metz => ?_) ⟨e, he, rfl⟩
    rw [here p hp (same ▸ met)] at metz
    exact one z (mem_group_shadows hg hz) metz
  have shadowsOne := eq_singleton_of_nodup (group_shadows_nodup nodup hg) he only
  have tracksOne : g.tracks = [(i, x)] := by
    refine eq_singleton_of_nodup (group_tracks_nodup hg) hx fun p hp => ?_
    obtain ⟨r, hr, met⟩ := joined.reaches p hp (List.ne_nil_of_mem he)
    exact here p hp (only r hr ▸ met)
  have kept : keptShadow x.dir e [] = e := by
    cases x.dir with
    | none => rfl
    | some d => cases d <;> rfl
  have assigned : ({ place := i, ext := e, merged := false } : Assigned) ∈ frameAssigned tracks shadows := by
    refine List.mem_flatMap.mpr ⟨g, hg, ?_⟩
    rw [tracksOne, shadowsOne]
    show _ ∈ [({ place := i, ext := keptShadow x.dir e [], merged := false } : Assigned)]
    rw [kept]
    exact List.mem_singleton_self _
  exact frameAssigned_find assigned

end Sys2Proof.Machine

/-! One track through a frame (R25, R26, R29, R33, R36): its fate, its place among those that live on, and its advance. -/

namespace Sys2Proof.Machine

/-! ## Fates -/

theorem fateOf_assigned {g : Geometry} {c : Nat} {assigned : List Assigned} {i : Nat} {x : Track} {a : Assigned}
    (h : assigned.find? (fun b => b.place == i) = some a) (rear : Bool) : fateOf g c assigned i x rear = .live (x.take a) := by
  rw [fateOf, h]

theorem fateOf_coasts {g : Geometry} {c : Nat} {assigned : List Assigned} {i : Nat} {x : Track}
    (h : assigned.find? (fun b => b.place == i) = none) (stays : x.endWithoutShadow g c = none) (rear : Bool) :
    fateOf g c assigned i x rear = .live x.coast := by rw [fateOf, h, stays]

/-- How a track ends, and whether it crosses at its end. -/
theorem fateOf_ends {g : Geometry} {c : Nat} {assigned : List Assigned} {i : Nat} {x : Track} {ended : TrackEnd}
    (h : assigned.find? (fun b => b.place == i) = none) (ends : x.endWithoutShadow g c = some ended) (rear : Bool) :
    ∃ z, fateOf g c assigned i x rear = .ended z ∧ z.ended = ended ∧ ({ z.track with crossed := x.crossed } : Track) = x
      ∧ (z.crosses = true ↔ (∃ d, ended = .completed d) ∧ rear = true ∧ x.crossed = false)
      ∧ z.track.crossed = (x.crossed || z.crosses) := by
  rw [fateOf, h, ends]
  cases ended with
  | completed d =>
    refine ⟨_, rfl, rfl, rfl, ?_, ?_⟩
    · rw [Bool.and_eq_true, Bool.not_eq_true']
      exact ⟨fun both => ⟨⟨d, rfl⟩, both⟩, fun all => all.2⟩
    · dsimp only
      cases x.crossed <;> cases rear <;> rfl
  | backedOut d => exact ⟨_, rfl, rfl, rfl, ⟨nofun, fun ⟨⟨_, other⟩, _⟩ => nomatch other⟩, (Bool.or_false _).symm⟩
  | lost cause => exact ⟨_, rfl, rfl, rfl, ⟨nofun, fun ⟨⟨_, other⟩, _⟩ => nomatch other⟩, (Bool.or_false _).symm⟩

theorem mem_frameFates {g : Geometry} {c : Nat} {tracks : List Track} {shadows : List Extent} {i : Nat} {x : Track} (h : tracks[i]? = some x) :
    fateOf g c (frameAssigned tracks shadows) i x (isRear tracks i x) ∈ frameFates g c tracks shadows :=
  List.mem_map.mpr ⟨_, mem_withRear_zipIdx h, rfl⟩

/-! ## The tracks that live on -/

theorem giveBirth_tracks (g : Geometry) (now : Nat) (b : Births) (s : Site) : ∃ born, (giveBirth g now b s).tracks = b.tracks ++ born := by
  unfold giveBirth
  split
  · exact ⟨_, rfl⟩
  · exact ⟨[], (List.append_nil _).symm⟩

theorem foldl_giveBirth_tracks (g : Geometry) (now : Nat) (sites : List Site) (b : Births) :
    ∃ born, (sites.foldl (giveBirth g now) b).tracks = b.tracks ++ born := by
  induction sites generalizing b with
  | nil => exact ⟨[], (List.append_nil _).symm⟩
  | cons s sites ih =>
    obtain ⟨first, one⟩ := giveBirth_tracks g now b s
    obtain ⟨rest, more⟩ := ih (giveBirth g now b s)
    exact ⟨first ++ rest, by rw [List.foldl_cons, more, one, List.append_assoc]⟩

theorem mem_frameBirths {g : Geometry} {t : Timing} {now : Nat} {v : List Bool} {o : Ot} {y : Track}
    (h : Fate.live y ∈ frameFates g t.c o.tracks (shadowsOf t.br v)) : y ∈ (frameBirths g t now v o).tracks := by
  obtain ⟨born, tracks⟩ := foldl_giveBirth_tracks g now (frameSites o.tracks (shadowsOf t.br v))
    { tracks := (frameFates g t.c o.tracks (shadowsOf t.br v)).filterMap Fate.liveTrack, next := o.next, untracked := [], startEnd := 0 }
  unfold frameBirths
  rw [tracks]
  exact List.mem_append_left _ (List.mem_filterMap.mpr ⟨.live y, h, rfl⟩)

theorem isRear_of_not_merged {x : Track} (h : x.merged = false) (ts : List Track) (i : Nat) : isRear ts i x = false := by
  unfold isRear
  rw [h]
  split <;> rfl

theorem Track.findDirection_shape (x : Track) : ∃ d, x.findDirection = { x with dir := d } := by
  unfold Track.findDirection
  split
  · split
    · exact ⟨_, rfl⟩
    · split
      · exact ⟨_, rfl⟩
      · exact ⟨x.dir, rfl⟩
  · exact ⟨x.dir, rfl⟩

theorem Track.findDirection_of_known {x : Track} {d : Direction} (h : x.dir = some d) : x.findDirection = x := by
  simp [Track.findDirection, h]

/-- A track after the births goes through direction finding, history and crossing test; one that is not MERGED, as no rear member. -/
theorem exists_advanced {g : Geometry} {t : Timing} {now : Nat} {v : List Bool} {o : Ot} {y : Track} (h : y ∈ (frameBirths g t now v o).tracks) :
    ∃ rear, (y.merged = false → rear = false) ∧ (advance g t y.findDirection rear).1 ∈ (trackFrame g t now v o).ot.tracks := by
  have found : y.findDirection ∈ frameFound g t now v o := List.mem_map_of_mem ((sortBy_perm _ _).mem_iff.mpr h)
  obtain ⟨i, at_⟩ := List.mem_iff_getElem?.mp found
  refine ⟨isRear (frameFound g t now v o) i y.findDirection, fun plain => isRear_of_not_merged ?_ _ _, ?_⟩
  · obtain ⟨d, shape⟩ := y.findDirection_shape
    rw [shape]
    exact plain
  · rw [trackFrame_tracks]
    refine List.mem_map.mpr ⟨(y.findDirection, _), List.mem_of_getElem? (i := i) ?_, rfl⟩
    rw [withRear_getElem?, at_]
    rfl

/-! ## The advance of a track -/

/-- Only a track's lead history, with what goes by it, changes in stage 6. -/
theorem Track.follow_shape (g : Geometry) (t : Timing) (x : Track) (rear : Bool) :
    ∃ history peak held retreating speed, x.follow g t rear =
      { x with history := history, peak := peak, held := held, retreating := retreating, speed := speed } := by
  unfold Track.follow
  split
  · exact ⟨x.history, x.peak, x.held, x.retreating, x.speed, rfl⟩
  · split
    · exact ⟨x.history, x.peak, x.held, x.retreating, x.speed, rfl⟩
    · split
      · exact ⟨_, _, _, _, _, rfl⟩
      · split
        · exact ⟨x.history, x.peak, true, x.retreating, x.speed, rfl⟩
        · split
          · exact ⟨_, _, _, _, _, rfl⟩
          · exact ⟨_, _, x.held, _, _, rfl⟩

theorem Track.follow_restarts {x : Track} {d : Direction} (known : x.dir = some d) (seen : x.coasting = false) (started : x.history ≠ [])
    (held : x.held = true) (g : Geometry) (t : Timing) : x.follow g t false = x.startHistory t.vNom (g.lead d x.ext) false := by
  simp [Track.follow, known, seen, started, held]

theorem Track.follow_appends {x : Track} {d : Direction} (known : x.dir = some d) (seen : x.coasting = false) (started : x.history ≠ [])
    (free : x.held = false) (g : Geometry) (t : Timing) : x.follow g t false = x.appendLead g.p t (g.lead d x.ext) := by
  simp [Track.follow, known, seen, started, free]

theorem advance_fst (g : Geometry) (t : Timing) (x : Track) (rear : Bool) :
    (advance g t x rear).1 = { x.follow g t rear with crossed := (x.follow g t rear).crossed || (x.follow g t rear).crosses g rear } := rfl

/-- What stages 5 to 7 of a frame leave of a track. -/
structure Track.Stays (x y : Track) : Prop where
  number : y.number = x.number
  ext : y.ext = x.ext
  merged : y.merged = x.merged
  coasting : y.coasting = x.coasting
  coastCount : y.coastCount = x.coastCount
  bound : y.bound = x.bound
  born : y.born = x.born
  firstPos : y.firstPos = x.firstPos
  splitBorn : y.splitBorn = x.splitBorn
  exempt : y.exempt = x.exempt
  violated : y.violated = x.violated
  loitered : y.loitered = x.loitered

theorem Track.findDirection_stays (x : Track) : x.Stays x.findDirection := by
  obtain ⟨d, shape⟩ := x.findDirection_shape
  rw [shape]
  exact ⟨rfl, rfl, rfl, rfl, rfl, rfl, rfl, rfl, rfl, rfl, rfl, rfl⟩

theorem advance_stays (g : Geometry) (t : Timing) (x : Track) (rear : Bool) : x.Stays (advance g t x rear).1 := by
  obtain ⟨history, peak, held, retreating, speed, shape⟩ := x.follow_shape g t rear
  rw [advance_fst, shape]
  exact ⟨rfl, rfl, rfl, rfl, rfl, rfl, rfl, rfl, rfl, rfl, rfl, rfl⟩

theorem advance_dir (g : Geometry) (t : Timing) (x : Track) (rear : Bool) : (advance g t x rear).1.dir = x.dir := by
  obtain ⟨history, peak, held, retreating, speed, shape⟩ := x.follow_shape g t rear
  rw [advance_fst, shape]

theorem Track.Stays.trans {a b c : Track} (h : a.Stays b) (k : b.Stays c) : a.Stays c :=
  ⟨k.number.trans h.number, k.ext.trans h.ext, k.merged.trans h.merged, k.coasting.trans h.coasting, k.coastCount.trans h.coastCount,
    k.bound.trans h.bound, k.born.trans h.born, k.firstPos.trans h.firstPos, k.splitBorn.trans h.splitBorn, k.exempt.trans h.exempt,
    k.violated.trans h.violated, k.loitered.trans h.loitered⟩

/-- The crossing test (R36). -/
theorem advance_crossed {x : Track} {d : Direction} (known : x.dir = some d) (g : Geometry) (t : Timing) (rear : Bool) :
    (advance g t x rear).1.crossed = (x.crossed || (!rear && decide (g.fd d ≤ g.uhi d x.ext))) := by
  obtain ⟨history, peak, held, retreating, speed, shape⟩ := x.follow_shape g t rear
  rw [advance_fst, shape]
  simp only [Track.crosses, known]
  cases x.crossed <;> rfl

/-- The lead history after an append keeps the newest entries (R33). -/
theorem Track.appendLead_history (x : Track) (p lead : Nat) (t : Timing) :
    (x.appendLead p t lead).history = (x.history ++ [lead]).drop (x.history.length + 1 - t.k) := by
  show newest t.k (x.history ++ [lead]) = _
  rw [newest, List.length_append, List.length_singleton]

/-- The claim of O9 about one track. -/
theorem tracksFollowShadows : Claims.TracksFollowShadows := by
  intro g t now v o ahead x behind split f meets
  have listed : o.tracks[ahead.length]? = some x := by rw [split, List.getElem?_append_right (Nat.le_refl _), Nat.sub_self]; rfl
  have fate := mem_frameFates (g := g) (c := t.c) (shadows := shadowsOf t.br v) listed
  refine ⟨fun e shadow met one others => ?_, fun unmet => ?_⟩
  · have assigned := frameAssigned_alone (shadowsOf_nodup t.br v) listed shadow (overlaps_iff.mpr met)
      (fun r hr m => one r hr (overlaps_iff.mp m)) fun j y at_ other m => by
        refine others y ?_ (overlaps_iff.mp m)
        rw [split] at at_
        rcases Nat.lt_or_gt_of_ne other with before | after
        · rw [List.getElem?_append_left before] at at_
          exact List.mem_append_left _ (List.mem_of_getElem? at_)
        · obtain ⟨k, rfl⟩ := Nat.exists_eq_add_of_lt after
          rw [List.getElem?_append_right (by omega), show ahead.length + k + 1 - ahead.length = k + 1 by omega, List.getElem?_cons_succ] at at_
          exact List.mem_append_right _ (List.mem_of_getElem? at_)
    rw [fateOf_assigned assigned] at fate
    obtain ⟨rear, front, live⟩ := exists_advanced (mem_frameBirths (now := now) fate)
    rw [front rfl] at live
    generalize took : x.take { place := ahead.length, ext := e, merged := false } = z at live
    obtain ⟨number, ext, merged, coasting, coastCount, bound, born, firstPos, splitBorn, exempt, violated, loitered⟩ :=
      z.findDirection_stays.trans (advance_stays g t z.findDirection false)
    have taken : ∀ d, x.dir = some d → z.dir = some d ∧ z.coasting = false ∧ z.ext = e := by
      rintro d known
      rw [← took]
      exact ⟨known, rfl, rfl⟩
    have records : z.history = x.history ∧ z.held = x.held ∧ z.crossed = x.crossed := by
      rw [← took]
      exact ⟨rfl, rfl, rfl⟩
    obtain ⟨history, held, crossed⟩ := records
    refine ⟨_, live, ?_, ?_, ?_, ?_, ?_, ?_, ?_, ?_, ?_, ?_, ?_, ?_, fun d known => ?_⟩
    · exact number.trans (congrArg Track.number took).symm
    · exact ext.trans (congrArg Track.ext took).symm
    · exact merged.trans (congrArg Track.merged took).symm
    · exact coasting.trans (congrArg Track.coasting took).symm
    · exact coastCount.trans (congrArg Track.coastCount took).symm
    · exact bound.trans (congrArg Track.bound took).symm
    · exact born.trans (congrArg Track.born took).symm
    · exact firstPos.trans (congrArg Track.firstPos took).symm
    · exact splitBorn.trans (congrArg Track.splitBorn took).symm
    · exact exempt.trans (congrArg Track.exempt took).symm
    · exact violated.trans (congrArg Track.violated took).symm
    · exact loitered.trans (congrArg Track.loitered took).symm
    · obtain ⟨dir, seen, shadowed⟩ := taken d known
      rw [Track.findDirection_of_known dir]
      refine ⟨(advance_dir ..).trans dir, ?_, fun started free => ?_, fun started kept => ?_⟩
      · rw [advance_crossed dir, crossed, shadowed]
        rfl
      · rw [advance_fst_history, Track.follow_appends dir seen (by rwa [history]) (by rwa [held]), Track.appendLead_history, history, shadowed]
      · rw [advance_fst, Track.follow_restarts dir seen (by rwa [history]) (by rwa [held]), shadowed]
        exact ⟨rfl, rfl, rfl⟩
  · have none := frameAssigned_find_none listed fun e he m => unmet e he (overlaps_iff.mp m)
    refine ⟨fun stays => ?_, fun ended ends => ?_⟩
    · rw [fateOf_coasts none stays] at fate
      obtain ⟨rear, -, live⟩ := exists_advanced (mem_frameBirths (now := now) fate)
      refine ⟨_, live, ?_⟩
      rw [Track.findDirection_of_coasting (x := x.coast) rfl, advance_fst, Track.follow_of_coasting (x := x.coast) rfl]
      rfl
    · obtain ⟨z, fated, end_, track, crosses, crossed⟩ := fateOf_ends none ends (isRear o.tracks ahead.length x)
      rw [fated] at fate
      refine ⟨z, ?_, end_, track, crosses, crossed⟩
      show z ∈ (trackFrame g t now v o).ended
      rw [trackFrame_ended]
      exact List.mem_filterMap.mpr ⟨.ended z, fate, rfl⟩

end Sys2Proof.Machine

/-! A merge (R28, R29, R36): one shadow that all the tracks of a frame meet. -/

namespace Sys2Proof.Machine

/-! ## The one group of a merge -/

/-- A shadow belongs to one group. -/
theorem group_of_shadow {tracks : List Track} {shadows : List Extent} (nodup : shadows.Nodup) {g h : Group} {x : Extent}
    (hg : g ∈ groupsOf tracks shadows) (hh : h ∈ groupsOf tracks shadows) (xg : x ∈ g.shadows) (xh : x ∈ h.shadows) : g = h := by
  by_contra other
  have apart := (List.nodup_flatMap.mp ((groupsOf_soFar tracks shadows).shadows.nodup_iff.mpr nodup)).2
  have symm : Std.Symm (Function.onFun List.Disjoint Group.shadows) := ⟨fun _ _ d => List.Disjoint.symm d⟩
  exact apart.forall hg hh other xg xh

/-- The tracks that all meet a frame's one shadow are one group with it. -/
structure MergedBy (tracks : List Track) (e : Extent) : Prop where
  several : 2 ≤ tracks.length
  meets : ∀ x ∈ tracks, overlaps x.ext e = true

theorem MergedBy.shadows {tracks : List Track} {e : Extent} (h : MergedBy tracks e) {g : Group} (hg : g ∈ groupsOf tracks [e]) :
    g.shadows = [e] := by
  have joined := (groupsOf_soFar tracks [e]).joined g hg
  have only : ∀ x ∈ g.shadows, x = e := fun x hx => List.mem_singleton.mp (mem_group_shadows hg hx)
  have some : g.shadows ≠ [] := by
    intro none
    obtain ⟨p, lone⟩ := joined.lone none
    have hp : p ∈ g.tracks := lone ▸ List.mem_singleton_self p
    have met := h.meets p.2 (List.mem_of_getElem? (mem_group_tracks hg hp))
    exact absurd (joined.gathers p hp e (List.mem_singleton_self e) met) (none ▸ List.not_mem_nil)
  obtain ⟨x, hx⟩ := List.exists_mem_of_ne_nil _ some
  exact eq_singleton_of_nodup (group_shadows_nodup (List.nodup_singleton e) hg) (only x hx ▸ hx) only

theorem MergedBy.mem_tracks {tracks : List Track} {e : Extent} (h : MergedBy tracks e) {g : Group} (hg : g ∈ groupsOf tracks [e])
    {i : Nat} {x : Track} (listed : tracks[i]? = some x) : (i, x) ∈ g.tracks := by
  obtain ⟨k, hk, mem⟩ := exists_group (shadows := [e]) listed
  have same := group_of_shadow (List.nodup_singleton e) hg hk (x := e) (by rw [h.shadows hg]; exact List.mem_singleton_self e)
    (by rw [h.shadows hk]; exact List.mem_singleton_self e)
  rwa [same]

/-- Its tracks share the extent, and it makes no site. -/
theorem MergedBy.settle {tracks : List Track} {e : Extent} (h : MergedBy tracks e) {g : Group} (hg : g ∈ groupsOf tracks [e]) :
    settle g.tracks g.shadows = (g.tracks.map fun x => { place := x.1, ext := e, merged := true }, []) := by
  have zero : tracks[0]? = some (tracks[0]'(by have := h.several; omega)) := List.getElem?_eq_getElem _
  have one : tracks[1]? = some (tracks[1]'(by have := h.several; omega)) := List.getElem?_eq_getElem _
  have first := h.mem_tracks hg zero
  have second := h.mem_tracks hg one
  rw [h.shadows hg]
  cases ts : g.tracks with
  | nil =>
    rw [ts] at first
    exact absurd first List.not_mem_nil
  | cons p ps =>
    cases ps with
    | nil =>
      rw [ts] at first second
      have same := congrArg Prod.fst ((List.mem_singleton.mp first).trans (List.mem_singleton.mp second).symm)
      exact absurd same Nat.zero_ne_one
    | cons q qs => rfl

theorem MergedBy.find {tracks : List Track} {e : Extent} (h : MergedBy tracks e) {i : Nat} {x : Track} (listed : tracks[i]? = some x) :
    (frameAssigned tracks [e]).find? (fun b => b.place == i) = some { place := i, ext := e, merged := true } := by
  obtain ⟨g, hg, mem⟩ := exists_group (shadows := [e]) listed
  have assigned : ({ place := i, ext := e, merged := true } : Assigned) ∈ frameAssigned tracks [e] := by
    refine List.mem_flatMap.mpr ⟨g, hg, ?_⟩
    rw [h.settle hg]
    exact List.mem_map.mpr ⟨(i, x), mem, rfl⟩
  exact frameAssigned_find assigned

theorem MergedBy.sites {tracks : List Track} {e : Extent} (h : MergedBy tracks e) : frameSites tracks [e] = [] := by
  have none : ((groupsOf tracks [e]).flatMap fun x => (Machine.settle x.tracks x.shadows).2) = [] := by
    refine List.flatMap_eq_nil_iff.mpr fun g hg => ?_
    rw [h.settle hg]
  rw [frameSites, none]
  rfl

/-! ## The tracks of a merge -/

/-- A track merged on an extent. -/
def Track.mergeOn (e : Extent) (x : Track) : Track := { x with ext := e, merged := true, coasting := false, coastCount := 0 }

theorem frameFates_getElem? (g : Geometry) (c : Nat) (tracks : List Track) (shadows : List Extent) (i : Nat) :
    (frameFates g c tracks shadows)[i]? =
      tracks[i]?.map fun x => fateOf g c (frameAssigned tracks shadows) i x (isRear tracks i x) := by
  unfold frameFates
  rw [List.getElem?_map, List.getElem?_zipIdx, withRear_getElem?, Option.map_map, Option.map_map]
  cases tracks[i]? with
  | none => rfl
  | some x => exact congrArg (fun n => some (fateOf g c (frameAssigned tracks shadows) n x (isRear tracks i x))) (Nat.zero_add i)

theorem MergedBy.fates {tracks : List Track} {e : Extent} (h : MergedBy tracks e) (g : Geometry) (c : Nat) :
    frameFates g c tracks [e] = tracks.map fun x => .live (x.mergeOn e) := by
  refine List.ext_getElem? fun i => ?_
  rw [frameFates_getElem?, List.getElem?_map]
  cases listed : tracks[i]? with
  | none => rfl
  | some x => exact congrArg some (fateOf_assigned (h.find listed) _)

theorem filterMap_live (xs : List Track) (f : Track → Track) :
    (xs.map fun x => Fate.live (f x)).filterMap Fate.liveTrack = xs.map f
      ∧ (xs.map fun x => Fate.live (f x)).filterMap Fate.endedTrack = [] := by
  induction xs with
  | nil => exact ⟨rfl, rfl⟩
  | cons x xs ih => exact ⟨congrArg (f x :: ·) ih.1, ih.2⟩

/-- A list in order stays as it is when sorted. -/
theorem sortBy_of_sorted {α : Type} {ahead : α → α → Bool} {xs : List α} (h : xs.Pairwise fun a b => ahead b a = false) :
    sortBy ahead xs = xs := by
  induction xs with
  | nil => rfl
  | cons x xs ih =>
    obtain ⟨first, rest⟩ := List.pairwise_cons.mp h
    have tail : sortBy ahead (x :: xs) = insertBy ahead x xs := congrArg (insertBy ahead x) (ih rest)
    rw [tail]
    cases xs with
    | nil => rfl
    | cons y ys => exact if_neg (by rw [first y List.mem_cons_self]; exact Bool.false_ne_true)

theorem listAhead_of_ext {x y : Track} (h : x.ext = y.ext) : listAhead x y = false := by
  rw [listAhead, h]
  simp

section
variable {g : Geometry} {t : Timing} {now : Nat} {v : List Bool} {o : Ot} {e : Extent}

theorem MergedBy.births (h : MergedBy o.tracks e) (one : shadowsOf t.br v = [e]) :
    frameBirths g t now v o = { tracks := o.tracks.map (Track.mergeOn e), next := o.next, untracked := [], startEnd := 0 } := by
  unfold frameBirths
  rw [one, h.sites, h.fates, (filterMap_live o.tracks (Track.mergeOn e)).1]
  rfl

theorem MergedBy.found (h : MergedBy o.tracks e) (one : shadowsOf t.br v = [e]) :
    frameFound g t now v o = o.tracks.map fun x => (x.mergeOn e).findDirection := by
  have level : (o.tracks.map (Track.mergeOn e)).Pairwise fun a b => listAhead b a = false := by
    refine List.pairwise_map.mpr (List.pairwise_of_forall fun a b => listAhead_of_ext rfl)
  unfold frameFound
  rw [h.births one, sortBy_of_sorted level, List.map_map]
  rfl

theorem trackFrame_getElem? (i : Nat) :
    (trackFrame g t now v o).ot.tracks[i]? =
      (frameFound g t now v o)[i]?.map fun x => (advance g t x (isRear (frameFound g t now v o) i x)).1 := by
  rw [trackFrame_tracks, List.getElem?_map, withRear_getElem?, Option.map_map]
  rfl

theorem trackFrame_map {β : Type} {f : Track → β} (same : ∀ x rear, f (advance g t x rear).1 = f x) :
    (trackFrame g t now v o).ot.tracks.map f = (frameFound g t now v o).map f := by
  rw [trackFrame_tracks, List.map_map]
  calc (withRear (frameFound g t now v o)).map (f ∘ fun x => (advance g t x.1 x.2).1)
      = (withRear (frameFound g t now v o)).map (f ∘ Prod.fst) := List.map_congr_left fun x _ => same x.1 x.2
    _ = (frameFound g t now v o).map f := by rw [← List.map_map, withRear_fst]

end

/-- Of two places in the list, the second stands ahead of the first in a direction of travel. -/
def standsAhead : Direction → Nat → Nat → Prop
  | .entry, i, j => i < j
  | .exit, i, j => j < i

/-- The claim of O9 about merges. -/
theorem mergeHoldsRearMembers : Claims.MergeHoldsRearMembers := by
  intro g t now v o e one several meets f
  have merged : MergedBy o.tracks e := ⟨several, fun x hx => overlaps_iff.mpr (meets x hx)⟩
  have found := merged.found (g := g) (now := now) one
  have held : ∀ z ∈ frameFound g t now v o, z.ext = e ∧ z.merged = true ∧ z.coasting = false := by
    rw [found]
    intro z hz
    obtain ⟨x, -, rfl⟩ := List.mem_map.mp hz
    have stays := (x.mergeOn e).findDirection_stays
    exact ⟨stays.ext, stays.merged, stays.coasting⟩
  refine ⟨?_, ?_, ?_, fun y hy => ?_, fun i x y d listed follows known started => ?_⟩
  · show (trackFrame g t now v o).ended = []
    rw [trackFrame_ended, one, merged.fates]
    exact (filterMap_live o.tracks (Track.mergeOn e)).2
  · show (trackFrame g t now v o).ot.tracks.map (·.number) = _
    rw [trackFrame_map fun x rear => (advance_stays g t x rear).number, found, List.map_map]
    exact List.map_congr_left fun x _ => (x.mergeOn e).findDirection_stays.number
  · show (trackFrame g t now v o).ot.untracked = false
    rw [trackFrame_flag, trackFrame_untracked, merged.births one]
    rfl
  · obtain ⟨i, at_⟩ := List.mem_iff_getElem?.mp hy
    rw [show f.ot.tracks[i]? = _ from trackFrame_getElem? i] at at_
    obtain ⟨z, hz, rfl⟩ := Option.map_eq_some_iff.mp at_
    obtain ⟨ext, mark, seen⟩ := held z (List.mem_of_getElem? hz)
    have stays := advance_stays g t z (isRear (frameFound g t now v o) i z)
    exact ⟨stays.ext.trans ext, stays.merged.trans mark, stays.coasting.trans seen⟩
  · have here : (frameFound g t now v o)[i]? = some (x.mergeOn e) := by
      rw [found, List.getElem?_map, listed]
      exact congrArg some (Track.findDirection_of_known (x := x.mergeOn e) known)
    have ran : f.ot.tracks[i]? = _ := trackFrame_getElem? i
    rw [here] at ran
    have made : y = (advance g t (x.mergeOn e) (isRear (frameFound g t now v o) i (x.mergeOn e))).1 := Option.some.inj (follows.symm.trans ran)
    have others : ∀ j : Nat, (∃ z : Track, f.ot.tracks[j]? = some z ∧ z.dir = some d) ↔
        ∃ u : Track, (frameFound g t now v o)[j]? = some u ∧ u.merged = true ∧ u.ext = (x.mergeOn e).ext ∧ u.dir = some d := by
      intro j
      rw [show f.ot.tracks[j]? = _ from trackFrame_getElem? j]
      constructor
      · rintro ⟨z, at_, dir⟩
        obtain ⟨u, hu, rfl⟩ := Option.map_eq_some_iff.mp at_
        obtain ⟨ext, mark, -⟩ := held u (List.mem_of_getElem? hu)
        exact ⟨u, hu, mark, ext, (advance_dir ..).symm.trans dir⟩
      · rintro ⟨u, hu, -, -, dir⟩
        rw [hu]
        exact ⟨_, rfl, (advance_dir ..).trans dir⟩
    intro rear
    have isRearIff : isRear (frameFound g t now v o) i (x.mergeOn e) = true ↔ rear := by
      have placed : isRear (frameFound g t now v o) i (x.mergeOn e) = true ↔
          ∃ j : Nat, standsAhead d i j ∧ ∃ z : Track, f.ot.tracks[j]? = some z ∧ z.dir = some d := by
        rw [isRear_iff]
        constructor
        · rintro ⟨-, d', j, u, same, at_, mark, ext, dir, ahead⟩
          obtain rfl : d = d' := Option.some.inj (known.symm.trans same)
          exact ⟨j, by cases d <;> exact ahead, (others j).mpr ⟨u, at_, mark, ext, dir⟩⟩
        · rintro ⟨j, ahead, some⟩
          obtain ⟨u, at_, mark, ext, dir⟩ := (others j).mp some
          exact ⟨rfl, d, j, u, known, at_, mark, ext, dir, by cases d <;> exact ahead⟩
      rw [placed]
      cases d <;> exact exists_congr fun j => exists_and_left.symm
    rw [made]
    refine ⟨fun isRear => ?_, fun notRear => ?_⟩
    · rw [isRearIff.mpr isRear]
      refine ⟨?_, ?_, ?_, ?_⟩
      · rw [advance_fst_history, Track.follow_rear (x := x.mergeOn e) known rfl started]
        rfl
      · rw [advance_fst, Track.follow_rear (x := x.mergeOn e) known rfl started]
        rfl
      · rw [advance_fst, Track.follow_rear (x := x.mergeOn e) known rfl started]
      · rw [advance_crossed (x := x.mergeOn e) known]
        exact Bool.or_false _
    · rw [Bool.eq_false_iff.mpr (mt isRearIff.mp notRear)]
      refine ⟨?_, ?_⟩
      · cases free : x.held with
        | false =>
          rw [advance_fst, Track.follow_appends (x := x.mergeOn e) known rfl started free]
          exact free
        | true => rw [advance_fst, Track.follow_restarts (x := x.mergeOn e) known rfl started free]; rfl
      · rw [advance_crossed (x := x.mergeOn e) known]
        rfl

end Sys2Proof.Machine

/-! The births of a frame (R20, R27, R28, R31), the order and the numbers of its track list, and a frame of an empty lane. -/

namespace Sys2Proof.Machine

/-! ## One birth -/

theorem Geometry.bornDirection_eq (g : Geometry) (e : Extent) :
    g.bornDirection e =
      if e.lo = 0 ∧ e.hi + 1 ≠ g.nb then some .entry else if e.lo ≠ 0 ∧ e.hi + 1 = g.nb then some .exit else none := by
  unfold Geometry.bornDirection Geometry.touchesTop
  by_cases bottom : e.lo = 0
  · by_cases top : e.hi + 1 = g.nb <;> simp [bottom, top]
  · by_cases top : e.hi + 1 = g.nb <;> simp [bottom, top]

theorem Geometry.startEndBirth_iff (g : Geometry) (y : Track) :
    g.startEndBirth y = true ↔ (y.dir = some .entry ∧ y.ext.lo = 0) ∨ (y.dir = some .exit ∧ y.ext.hi + 1 = g.nb) := by
  unfold Geometry.startEndBirth Geometry.touchesStart Geometry.touchesTop
  cases y.dir with
  | none => simp
  | some d => cases d <;> simp

/-- The track that a birth makes. -/
def Births.newborn (g : Geometry) (now : Nat) (b : Births) (s : Site) : Track :=
  newTrack g now (firstFree (b.tracks.map (·.number)) 255 b.next) s

theorem giveBirth_of_room {g : Geometry} {now : Nat} {b : Births} (room : b.tracks.length < 8) (s : Site) :
    giveBirth g now b s =
      { b with
        tracks := b.tracks ++ [b.newborn g now s]
        next := next255 (b.newborn g now s).number
        startEnd := b.startEnd + (if g.startEndBirth (b.newborn g now s) then 1 else 0) } := if_pos room

theorem giveBirth_of_full {g : Geometry} {now : Nat} {b : Births} (full : 8 ≤ b.tracks.length) (s : Site) :
    giveBirth g now b s = { b with untracked := b.untracked ++ [s.ext] } := if_neg (Nat.not_lt.mpr full)

/-! ## The list of a frame -/

theorem foldl_giveBirth_length (g : Geometry) (now : Nat) (sites : List Site) (b : Births) :
    (sites.foldl (giveBirth g now) b).tracks.length ≤ max 8 b.tracks.length := by
  induction sites generalizing b with
  | nil => exact Nat.le_max_right ..
  | cons s sites ih =>
    refine (ih _).trans ?_
    rcases Nat.lt_or_ge b.tracks.length 8 with room | full
    · rw [giveBirth_of_room room]
      simp only [List.length_append, List.length_singleton]
      omega
    · rw [giveBirth_of_full full]

/-- Distinct numbers, and the next one within its range. -/
structure Births.Sound (b : Births) : Prop where
  nodup : (b.tracks.map (·.number)).Nodup
  low : 1 ≤ b.next
  high : b.next ≤ 255

theorem Births.Sound.giveBirth {g : Geometry} {now : Nat} {b : Births} (h : b.Sound) (s : Site) : (giveBirth g now b s).Sound := by
  rcases Nat.lt_or_ge b.tracks.length 8 with room | full
  · have few : (b.tracks.map (·.number)).length < 255 := by rw [List.length_map]; omega
    have fresh := firstFree_not_mem few h.low h.high
    have range := firstFree_range (taken := b.tracks.map (·.number)) (fuel := 255) h.low h.high
    rw [giveBirth_of_room room]
    refine ⟨?_, ?_, ?_⟩
    · rw [List.map_append, List.map_singleton]
      refine List.nodup_append.mpr ⟨h.nodup, List.nodup_singleton _, fun n hn m hm same => fresh ?_⟩
      have taken : n = firstFree (b.tracks.map (·.number)) 255 b.next := same.trans (List.mem_singleton.mp hm)
      exact taken ▸ hn
    · show 1 ≤ next255 _
      unfold next255
      split <;> omega
    · show next255 (firstFree (b.tracks.map (·.number)) 255 b.next) ≤ 255
      unfold next255
      split <;> omega
  · rw [giveBirth_of_full full]
    exact ⟨h.nodup, h.low, h.high⟩

theorem Births.Sound.foldl {g : Geometry} {now : Nat} (sites : List Site) {b : Births} (h : b.Sound) :
    (sites.foldl (Machine.giveBirth g now) b).Sound := by
  induction sites generalizing b with
  | nil => exact h
  | cons s sites ih => exact ih (h.giveBirth s)

theorem filterMap_map_sublist {α β γ : Type} {f : α → Option β} {h : β → γ} {k : α → γ}
    (same : ∀ x y, f x = some y → h y = k x) (xs : List α) :
    ((xs.filterMap f).map h).Sublist (xs.map k) := by
  induction xs with
  | nil => exact .refl _
  | cons x xs ih =>
    cases made : f x with
    | none =>
      rw [List.filterMap_cons_none made]
      exact ih.cons _
    | some y =>
      rw [List.filterMap_cons_some made, List.map_cons, List.map_cons, same x y made]
      exact ih.cons_cons _

theorem fateOf_number {g : Geometry} {c : Nat} {assigned : List Assigned} {i : Nat} {x y : Track} {rear : Bool}
    (h : (fateOf g c assigned i x rear).liveTrack = some y) : y.number = x.number := by
  unfold fateOf at h
  split at h
  · rw [← Option.some.inj h]
    rfl
  · split at h
    · rw [← Option.some.inj h]
      rfl
    all_goals exact nomatch h

/-- The tracks that live on are, number by number, tracks of before. -/
theorem live_numbers_sublist (g : Geometry) (c : Nat) (tracks : List Track) (shadows : List Extent) :
    (((frameFates g c tracks shadows).filterMap Fate.liveTrack).map (·.number)).Sublist (tracks.map (·.number)) := by
  unfold frameFates
  rw [List.filterMap_map]
  have numbers : (withRear tracks).zipIdx.map (fun x => x.1.1.number) = tracks.map (·.number) :=
    calc (withRear tracks).zipIdx.map (fun x => x.1.1.number)
        = ((withRear tracks).zipIdx.map Prod.fst).map (fun x => x.1.number) :=
          (List.map_map (f := Prod.fst) (g := fun x : Track × Bool => x.1.number)).symm
      _ = (withRear tracks).map (fun x => x.1.number) := by rw [List.zipIdx_map_fst]
      _ = ((withRear tracks).map Prod.fst).map (·.number) := (List.map_map (f := Prod.fst) (g := fun x : Track => x.number)).symm
      _ = tracks.map (·.number) := by rw [withRear_fst]
  rw [← numbers]
  exact filterMap_map_sublist (fun x y made => fateOf_number made) _

theorem frameBirths_sound (g : Geometry) (t : Timing) (now : Nat) (v : List Bool) {o : Ot} (low : 1 ≤ o.next) (high : o.next ≤ 255)
    (nodup : (o.tracks.map (·.number)).Nodup) : (frameBirths g t now v o).Sound := by
  refine Births.Sound.foldl _ ⟨nodup.sublist (live_numbers_sublist g t.c o.tracks (shadowsOf t.br v)), low, high⟩

section
variable {g : Geometry} {t : Timing} {now : Nat} {v : List Bool} {o : Ot}

/-- What stages 5 to 7 keep of each track, the list keeps, but in its order. -/
theorem trackFrame_map_stays {β : Type} {f : Track → β} (same : ∀ x y : Track, x.Stays y → f y = f x) :
    (trackFrame g t now v o).ot.tracks.map f = (sortBy listAhead (frameBirths g t now v o).tracks).map f := by
  rw [trackFrame_map fun x rear => same x _ (advance_stays g t x rear), frameFound, List.map_map]
  exact List.map_congr_left fun x _ => same x _ x.findDirection_stays

theorem trackFrame_length : (trackFrame g t now v o).ot.tracks.length = (frameBirths g t now v o).tracks.length := by
  have lengths := congrArg List.length (trackFrame_map_stays (g := g) (t := t) (now := now) (v := v) (o := o) (f := fun _ => ()) fun _ _ _ => rfl)
  rwa [List.length_map, List.length_map, sortBy_length] at lengths

/-- The order of the track list (R20). -/
def inListOrder (a b : Extent) : Prop := a.lo < b.lo ∨ (a.lo = b.lo ∧ a.hi ≤ b.hi)

theorem sortBy_listAhead_pairwise (xs : List Track) : (sortBy listAhead xs).Pairwise fun a b => inListOrder a.ext b.ext := by
  refine sortBy_pairwise (fun a b h => ?_) (fun a b h => ?_) (fun a b c h k => ?_) xs
  · simp only [listAhead, Bool.or_eq_true, Bool.and_eq_true, decide_eq_true_eq] at h
    unfold inListOrder
    omega
  · simp only [listAhead, Bool.or_eq_false_iff, Bool.and_eq_false_iff, decide_eq_false_iff_not] at h
    unfold inListOrder
    omega
  · unfold inListOrder at h k ⊢
    omega

theorem trackFrame_pairwise : (trackFrame g t now v o).ot.tracks.Pairwise fun a b => inListOrder a.ext b.ext := by
  have exts := trackFrame_map_stays (g := g) (t := t) (now := now) (v := v) (o := o) (f := Track.ext) fun _ _ h => h.ext
  have sorted := List.pairwise_map.mpr (sortBy_listAhead_pairwise (frameBirths g t now v o).tracks)
  rw [← exts] at sorted
  exact List.pairwise_map.mp sorted

theorem trackFrame_numbers (low : 1 ≤ o.next) (high : o.next ≤ 255) (nodup : (o.tracks.map (·.number)).Nodup) :
    ((trackFrame g t now v o).ot.tracks.map (·.number)).Nodup ∧ 1 ≤ (trackFrame g t now v o).ot.next
      ∧ (trackFrame g t now v o).ot.next ≤ 255 := by
  have sound := frameBirths_sound g t now v low high nodup
  rw [trackFrame_map_stays fun _ _ h => h.number, trackFrame_next]
  exact ⟨((sortBy_perm _ _).map _).nodup_iff.mpr sound.nodup, sound.low, sound.high⟩

end

/-! ## A frame of an empty lane -/

/-- The site that a shadow alone is. -/
def siteOf (s : Extent) : Site := { ext := s, splitFrom := none }

theorem groupsOf_nil (shadows : List Extent) : groupsOf [] shadows = shadows.map fun s => { tracks := [], shadows := [s] } := by
  show (shadows.map fun s => ({ tracks := [], shadows := [s] } : Group)).map Group.ordered = _
  rw [List.map_map]
  rfl

theorem frameSites_nil {bridge : Nat} {v : List Bool} : frameSites [] (shadowsOf bridge v) = (shadowsOf bridge v).map siteOf := by
  have sites : ((groupsOf [] (shadowsOf bridge v)).flatMap fun x => (settle x.tracks x.shadows).2) = (shadowsOf bridge v).map siteOf := by
    rw [groupsOf_nil, List.flatMap_map, List.map_eq_flatMap]
    rfl
  unfold frameSites
  rw [sites]
  refine sortBy_of_sorted (List.pairwise_map.mpr (List.Pairwise.imp_of_mem (fun {a b} ha _ lt => ?_) (shadowsOf_laneOrder bridge v)))
  have whole := (shadowsOf_shades ha).1
  exact decide_eq_false (show ¬b.lo < a.lo by omega)

/-- A track born of a shadow alone. -/
def Track.bornAlone (g : Geometry) (now : Nat) (y : Track) : Prop := ∃ n, y = newTrack g now n (siteOf y.ext)

/-- A shadow alone that gives a direction touches that direction's start end. -/
theorem startEndBirth_of_alone (g : Geometry) (now n : Nat) (s : Extent) :
    g.startEndBirth (newTrack g now n (siteOf s)) = (newTrack g now n (siteOf s)).dir.isSome := by
  show (match g.bornDirection s with | none => false | some d => g.touchesStart d s) = (g.bornDirection s).isSome
  unfold Geometry.bornDirection
  cases bottom : decide (s.lo = 0) <;> cases top : g.touchesTop s <;> simp [Geometry.touchesStart, bottom, top]

theorem foldl_giveBirth_alone (g : Geometry) (now : Nat) (ss : List Extent) (b : Births) (few : b.tracks.length ≤ 8) :
    ∃ born, ((ss.map siteOf).foldl (giveBirth g now) b).tracks = b.tracks ++ born
      ∧ born.map Track.ext = ss.take (8 - b.tracks.length)
      ∧ ((ss.map siteOf).foldl (giveBirth g now) b).untracked = b.untracked ++ ss.drop (8 - b.tracks.length)
      ∧ ((ss.map siteOf).foldl (giveBirth g now) b).startEnd = b.startEnd + born.countP (fun y => y.dir.isSome)
      ∧ ∀ y ∈ born, y.bornAlone g now := by
  induction ss generalizing b with
  | nil =>
    exact ⟨[], (List.append_nil _).symm, by rw [List.take_nil]; rfl, by rw [List.drop_nil]; exact (List.append_nil _).symm, rfl,
      fun _ h => absurd h List.not_mem_nil⟩
  | cons s ss ih =>
    rw [List.map_cons, List.foldl_cons]
    rcases Nat.lt_or_ge b.tracks.length 8 with room | full
    · rw [giveBirth_of_room room]
      obtain ⟨left, more⟩ : ∃ left, 8 - b.tracks.length = left + 1 := ⟨7 - b.tracks.length, by omega⟩
      have fewer : 8 - (b.tracks ++ [b.newborn g now (siteOf s)]).length = left := by
        rw [List.length_append, List.length_singleton]
        omega
      obtain ⟨born, tracks, exts, untracked, startEnd, all⟩ := ih
        { b with
          tracks := b.tracks ++ [b.newborn g now (siteOf s)]
          next := next255 (b.newborn g now (siteOf s)).number
          startEnd := b.startEnd + (if g.startEndBirth (b.newborn g now (siteOf s)) then 1 else 0) }
        (by rw [List.length_append, List.length_singleton]; omega)
      dsimp only at exts untracked startEnd
      rw [fewer] at exts untracked
      refine ⟨b.newborn g now (siteOf s) :: born, tracks.trans (List.append_assoc ..), ?_, ?_, startEnd.trans ?_, fun y hy => ?_⟩
      · rw [more, List.take_succ_cons, ← exts]
        rfl
      · rw [more, List.drop_succ_cons]
        exact untracked
      · rw [List.countP_cons, show g.startEndBirth (b.newborn g now (siteOf s)) = _ from startEndBirth_of_alone g now _ s]
        exact (Nat.add_assoc ..).trans (congrArg (b.startEnd + ·) (Nat.add_comm ..))
      · rcases List.mem_cons.mp hy with rfl | old
        · exact ⟨_, rfl⟩
        · exact all y old
    · have none : 8 - b.tracks.length = 0 := by omega
      rw [giveBirth_of_full full]
      obtain ⟨born, tracks, exts, untracked, startEnd, all⟩ := ih { b with untracked := b.untracked ++ [s] } few
      dsimp only at exts untracked startEnd
      rw [none] at exts untracked ⊢
      exact ⟨born, tracks, exts, untracked.trans (List.append_assoc ..), startEnd, all⟩

theorem Track.bornAlone.findDirection {g : Geometry} {now : Nat} {y : Track} (h : y.bornAlone g now) : y.findDirection = y := by
  obtain ⟨n, born⟩ := h
  cases known : y.dir with
  | some d => exact Track.findDirection_of_known known
  | none =>
    have seen : y.coasting = false := by rw [born]; rfl
    have first : y.firstPos = y.ext.lo + y.ext.hi := by
      rw [born]
      rfl
    rw [Track.findDirection_of_unset known seen, if_neg (by omega), if_neg (by omega)]

/-- The births of an empty lane are its first eight shadows, already in list order. -/
theorem frameBirths_empty (g : Geometry) (t : Timing) (now : Nat) (v : List Bool) {o : Ot} (empty : o.tracks = []) :
    ∃ born, (frameBirths g t now v o).tracks = born ∧ frameFound g t now v o = born ∧ born.map Track.ext = (shadowsOf t.br v).take 8
      ∧ (frameBirths g t now v o).untracked = (shadowsOf t.br v).drop 8
      ∧ (frameBirths g t now v o).startEnd = born.countP (fun y => y.dir.isSome) ∧ ∀ y ∈ born, y.bornAlone g now := by
  obtain ⟨born, tracks, exts, untracked, startEnd, all⟩ := foldl_giveBirth_alone g now (shadowsOf t.br v)
    { tracks := [], next := o.next, untracked := [], startEnd := 0 } (Nat.zero_le 8)
  have births : frameBirths g t now v o =
      ((shadowsOf t.br v).map siteOf).foldl (giveBirth g now) { tracks := [], next := o.next, untracked := [], startEnd := 0 } := by
    unfold frameBirths
    rw [empty, frameSites_nil]
    rfl
  rw [← births] at tracks untracked startEnd
  have order : born.Pairwise fun a b => listAhead b a = false := by
    have lanes := (shadowsOf_laneOrder t.br v).sublist (List.take_sublist 8 _)
    have whole : ∀ x ∈ (shadowsOf t.br v).take 8, x.lo ≤ x.hi := fun x hx => (shadowsOf_shades (List.mem_of_mem_take hx)).1
    rw [show (shadowsOf t.br v).take 8 = _ from exts.symm] at lanes whole
    refine List.Pairwise.imp_of_mem (fun {a b} ha _ lt => ?_) (List.pairwise_map.mp lanes)
    have fits := whole a.ext (List.mem_map_of_mem ha)
    simp only [listAhead, Bool.or_eq_false_iff, Bool.and_eq_false_iff, decide_eq_false_iff_not]
    omega
  refine ⟨born, tracks, ?_, exts, untracked, startEnd.trans (Nat.zero_add _), all⟩
  unfold frameFound
  rw [tracks, List.nil_append, sortBy_of_sorted order]
  exact (List.map_congr_left fun y hy => (all y hy).findDirection).trans (List.map_id born)

/-- A track born alone, after the first frame's direction finding, history and crossing test. -/
theorem Track.bornAlone.advance {g : Geometry} {now : Nat} {z : Track} (h : z.bornAlone g now) (t : Timing) :
    let y := (advance g t z false).1
    y.born = now ∧ y.bound = none ∧ y.dir = g.bornDirection y.ext
      ∧ ∀ d, y.dir = some d → y.history = [g.lead d y.ext] ∧ y.speed = t.vNom ∧ y.crossed = decide (g.fd d ≤ g.uhi d y.ext) := by
  obtain ⟨n, born⟩ := h
  have stays := advance_stays g t z false
  have records : z.born = now ∧ z.bound = none ∧ z.dir = g.bornDirection z.ext ∧ z.coasting = false ∧ z.history = [] ∧ z.crossed = false := by
    rw [born]
    exact ⟨rfl, rfl, rfl, rfl, rfl, rfl⟩
  obtain ⟨time, bound, dir, seen, fresh, uncrossed⟩ := records
  refine ⟨stays.born.trans time, stays.bound.trans bound, ?_, fun d known => ?_⟩
  · rw [stays.ext, advance_dir]
    exact dir
  · have direct : z.dir = some d := (advance_dir ..).symm.trans known
    refine ⟨?_, ?_, ?_⟩
    · rw [advance_fst_history, Track.follow_of_noHistory direct seen fresh, stays.ext]
      rfl
    · rw [advance_fst, Track.follow_of_noHistory direct seen fresh]
      rfl
    · rw [advance_crossed direct, uncrossed, stays.ext]
      rfl

/-- The claim of O9 about births. -/
theorem shadowsBearTracks : Claims.ShadowsBearTracks := by
  refine ⟨fun g now b site => ⟨fun room => ?_, fun full => giveBirth_of_full full site⟩, ?_⟩
  · rw [giveBirth_of_room room]
    refine ⟨b.newborn g now site, rfl, rfl, rfl, rfl, rfl, rfl, rfl, rfl, rfl, rfl, rfl, rfl, rfl, rfl, fun d split => ?_, fun none => ?_, ?_⟩
    · show site.splitFrom.getD (g.bornDirection site.ext) = d
      rw [split]
      rfl
    · show site.splitFrom.getD (g.bornDirection site.ext) = _
      rw [none]
      exact g.bornDirection_eq site.ext
    · exact congrArg (b.startEnd + ·) (ite_congr (propext (g.startEndBirth_iff (b.newborn g now site))) (fun _ => rfl) fun _ => rfl)
  · intro g t now v o f shadows
    refine ⟨trackFrame_shadows g t now v o, trackFrame_flag g t now v o, ?_, trackFrame_pairwise, fun low high _ nodup =>
      trackFrame_numbers low high nodup, fun empty => ?_⟩
    · rw [show f.ot.tracks.length = _ from trackFrame_length]
      refine (foldl_giveBirth_length g now _ _).trans (max_le_max (Nat.le_refl 8) ?_)
      have fewer := (live_numbers_sublist g t.c o.tracks (shadowsOf t.br v)).length_le
      rwa [List.length_map, List.length_map] at fewer
    · obtain ⟨born, births, found, exts, untracked, startEnd, all⟩ := frameBirths_empty g t now v empty
      have dirs : f.ot.tracks.map Track.dir = born.map Track.dir := by
        rw [← found]
        exact trackFrame_map fun x rear => advance_dir g t x rear
      refine ⟨?_, ?_, (trackFrame_untracked g t now v o).trans untracked, ?_, fun y hy => ?_⟩
      · rw [show f.ended = _ from trackFrame_ended g t now v o, empty]
        rfl
      · rw [show f.ot.tracks.map (·.ext) = _ from trackFrame_map fun x rear => (advance_stays g t x rear).ext, found]
        exact exts
      · rw [show f.startEnd = _ from trackFrame_startEnd g t now v o, startEnd, ← List.countP_eq_length_filter]
        have counts := congrArg (List.countP Option.isSome) dirs
        rw [List.countP_map, List.countP_map] at counts
        exact counts.symm
      · obtain ⟨i, at_⟩ := List.mem_iff_getElem?.mp hy
        rw [show f.ot.tracks[i]? = _ from trackFrame_getElem? i, found] at at_
        obtain ⟨z, hz, rfl⟩ := Option.map_eq_some_iff.mp at_
        have alone := all z (List.mem_of_getElem? hz)
        have plain : z.merged = false := by
          obtain ⟨n, made⟩ := alone
          rw [made]
          rfl
        rw [isRear_of_not_merged plain]
        exact alone.advance t

/-- Settles O9: claim by claim — the beams, the units in turn, the scan handed on, shadows, groups and their settling, the ends without
a shadow, the tracks that follow, merges and births. -/
theorem validFrameFiltersBeams : Obligations.ValidFrameFiltersBeams :=
  ⟨validFrameFiltersBeams_claim, frameRunsUnitsInTurn, validScanHandedOn, shadowsCoverBeams, groupsJoinOverlaps, groupsSettled,
    trackEndsOrCoasts, tracksFollowShadows, mergeHoldsRearMembers, shadowsBearTracks⟩

end Sys2Proof.Machine
